-- ==== Sys2Proof/Word.lean ====
section
/-! DEFINITION. The words and index types of the OMB-2408: bytes and 16-bit numbers as the frames carry them
(spec 11, R187), and one `Fin` type per numbered thing of the hall (spec 00, Section 4.1). -/

namespace Sys2Proof

/-- One byte of a frame, a zone-bus message or a table record. -/
abbrev Byte := BitVec 8

/-- A 16-bit number: sequence numbers, tags and the counters that wrap from 65535 to 0. -/
abbrev Half := BitVec 16

/-- Zones Z0..Z3. -/
abbrev ZoneId := Fin 4

/-- Visitor input lines L0..L15 (and virtual triggers V0..V15). -/
abbrev LineId := Fin 16

/-- Entries of the trigger table: n for line Ln, 16 + n for virtual trigger Vn (R30). -/
abbrev EntryId := Fin 32

/-- Scene slots 0..7. -/
abbrev SlotId := Fin 8

/-- Scene indices 0..47. -/
abbrev SceneId := Fin 48

/-- Light channels 0..767 (R65). -/
abbrev ChannelId := Fin 768

/-- Motion axes 0..31. -/
abbrev AxisId := Fin 32

/-- Audio streams S0..S7. -/
abbrev StreamId := Fin 8

/-- Speaker outputs 0..7. -/
abbrev OutputId := Fin 8

/-- Alarms 0..7. -/
abbrev AlarmId := Fin 8

/-- Chain positions: position p of the spec, 1..12, is index p − 1 (R187, Sets). -/
abbrev PosId := Fin 12

/-- The 96 claimable resources (R49): groups 0..47, then streams 48..55, outputs 56..63, axes 64..95. -/
abbrev ResourceId := Fin 96

end Sys2Proof
end

