-- ==== Sys2Proof/Config.lean ====
section
/-! DEFINITION. What the part fixes (capacities, limits, codes) and the free values: values the spec leaves open,
which no proof can see (opaque constants, each named in a log entry under notes/assumptions). -/

namespace Sys2Proof.Config

/-- Request queue capacity (R47). -/
def requestCap : Nat := 16
/-- Outcome log length (R64). -/
def outcomeCap : Nat := 16
/-- Own-report queue capacity (R171). -/
def reportCap : Nat := 32
/-- Forward buffer capacity (R168). -/
def forwardCap : Nat := 4
/-- Audio queue capacity of a port (R130). -/
def audioCap : Nat := 4
/-- Nominal beat in reference ticks (R150, R152). -/
def beatTicks : Nat := 100000
/-- Ticks after which FOLLOWING makes a beat itself (R153). -/
def selfMadeTicks : Nat := 150000
/-- Where the spacing count is held (R150). -/
def spacingHold : Nat := 110001
/-- Self-made beats that enter HOLDOVER (R153). -/
def holdoverMisses : Nat := 8
/-- Well-spaced SYNC frames that return to FOLLOWING (R154). -/
def recoveryHits : Nat := 16
/-- Power hold-off in beats (R146). -/
def holdOffBeats : Nat := 100
/-- Missed windows that make a record LOST (R131). -/
def missLimit : Nat := 3
/-- Debounce of the show-stop line in beats (R39). -/
def stopDebounce : Nat := 2
/-- The HOLD code of a light level (spec 00, Section 4.1). -/
def lightHold : Nat := 65535
/-- The highest light level (spec 00, Section 4.1). -/
def lightMax : Nat := 65534
/-- The HOLD code of a position (spec 00, Section 4.1). -/
def motionHold : Int := -32768
/-- Unity of a Q12 gain (spec 00, Section 4.1). -/
def unityGain : Nat := 4096
/-- The largest body of a Show Link frame (R164). -/
def bodyMax : Nat := 8192
/-- Pairs of the look pool (R69). -/
def lookPool : Nat := 4096

/-- The address pins at the power-on reset that State.reset stands for. DESIGN CHOICE (log entry 1): the spec gives
the pins no level; the FULL_RESET command carries them as an operand. -/
def resetAddress : BitVec 4 := 0
/-- The level of SHOWSTOP_N at that reset. DESIGN CHOICE (log entry 1). -/
def resetStopActive : Bool := false

/-- Free value (log entry 12): the upstream sequence number in the status image of READ-STATUS. The item is defined
for a report that leaves the transmitter (R175) and the image is composed at execution (R179). -/
opaque imageSequence : Nat → BitVec 16

/-- Free value (log entry 13): the effect state that STATUS reports for an effect no beat has composed yet (R89 asks
for the state of the last composed beat). -/
opaque uncomposedLow : Nat → Bool

/-- Free value (log entry 14): whether a last-block mark byte that is neither 0 nor 1 marks the last block (R187 gives
yes/no the values 0 and 1, and no rule refuses a SOUND frame for its mark byte). -/
opaque markOfByte : BitVec 8 → Bool

/-- Free value (log entry 15): the priority of a request for a scene index whose record is EMPTY (R41 gives the
scene's own priority, and an EMPTY record has none; the refusal is entered in the outcome log with it, R64). -/
opaque emptyPriority : Nat → BitVec 3

/-- Free value (log entry 57): the position that READ-CENSUS returns at a place within the count of a MOTION record whose
announcement carried none there (R145; Section 11.2 gives 0 only beyond the count and for other classes). It is a function
of the chain position, the serial and the place. -/
opaque uncarriedPosition : Nat → Nat → Nat → BitVec 16

end Sys2Proof.Config
end

