-- ==== Sys2Proof/Syntax.lean ====
section
/-! DEFINITION. The commands of the block: one constructor of `Instr` per row of spec/opcode_table.json, in the
table's order, with the operands the outside world gives that row. A frame row carries the frame as received (its
address, sequence number and body bytes); a COMMAND row carries the command's tag and field bytes; a beat row carries
what the beat samples at the pins and the order in which the blocks take the beat (log entry 4). -/

namespace Sys2Proof

/-- The blocks that take a beat (R151, and R182 for the MU). -/
inductive Block where
  | sli | mu | sck | iou | arb | seq | lco | nmx | mgt
  | port (z : ZoneId)
  deriving DecidableEq, Repr

/-- What one beat brings from outside: the levels at the pins, sampled on the beat (R25, R39, R146), and the choices
of order the spec leaves open within the beat (log entry 4). -/
structure BeatIn where
  /-- Level at each line's pin: bit n is set when Ln is HIGH. -/
  lines : BitVec 16
  /-- SHOWSTOP_N is at its active (low) level. -/
  stopActive : Bool
  /-- Motion power sense of each zone: bit z is set for FAULT. -/
  sense : BitVec 4
  /-- The order in which the blocks take this beat. -/
  order : List Block
  /-- On a house-mode change made by an alarm of this beat, the SEQ takes the change before the ARB: one order for every
  such change of the beat (log entry 62). -/
  flagsFirst : Bool
  /-- On a BEAM break of this beat, the zone acts on the break before the break fires its entry: one order for every
  break of the beat (log entry 61). -/
  zoneFirst : Bool
  /-- The IOU samples the show-stop line before the visitor lines on this beat. -/
  stopFirst : Bool
  /-- A change of the show state since the SCK's last beat races this beat's ENQUEUE actions: the SCK has not learned of
  it when it judges them (R160). -/
  showRaced : Bool
  deriving DecidableEq, Repr

/-- A downstream frame as received at IN, without its kind (the row names it) and CRC (valid in every such row). -/
structure Rx where
  addr : Byte
  seq : Half
  body : List Byte
  deriving DecidableEq, Repr

/-- A whole Show Link frame (R187, Section 11.1): address, kind, sequence number and body; the CRC follows from them. -/
structure Frame where
  addr : Byte
  kind : Byte
  seq : Half
  body : List Byte
  deriving DecidableEq, Repr

/-- A COMMAND frame as received at IN, without its command code (the row names it). -/
structure Cmd where
  addr : Byte
  seq : Half
  reserved : Byte
  tag : Half
  /-- The command's fields, the bytes after the tag. -/
  fields : List Byte
  deriving DecidableEq, Repr

/-- The side on which a frame arrived. -/
inductive Side where
  | inSide | thruSide
  deriving DecidableEq, Repr

/-- The 44 sources of server data (R170). -/
inductive SourceId where
  | light (z : ZoneId)
  | stream (k : StreamId)
  | setpoint (a : AxisId)
  deriving DecidableEq, Repr

/-- The commands of the block, one per row of spec/opcode_table.json. -/
inductive Instr where
  | fullReset (addrPins : BitVec 4) (stopActive : Bool)
  | softReset (stopActive : Bool)
  | trimmedIntervalEnd (b : BeatIn)
  | syncFrame (f : Rx) (b : BeatIn)
  | selfMadeBeat (b : BeatIn)
  | lightFrame (f : Rx)
  | soundFrame (f : Rx)
  | motionFrame (f : Rx)
  | triggerFrame (f : Rx)
  | thruFrame (f : Frame)
  | inTransmitNext (stopActive : Bool)
  | thruTransmitNext
  | zbusTransmitNext (z : ZoneId)
  | fixtureReply (z : ZoneId) (bytes : List Byte)
  | announcement (z : ZoneId) (bytes : List Byte)
  | motionPowerFault (z : ZoneId)
  | powerHoldoffExpiry (z : ZoneId)
  | showstopLineChange (stopActive : Bool)
  | lineAcceptedChange (n : LineId) (high : Bool) (zoneFirst : Bool)
  | lockoutExpiry (n : LineId)
  | buttonStuck (n : LineId)
  | presenceStuck (n : LineId)
  | lingerExpiry (z : ZoneId)
  | waitDeadlineExpiry
  | playEnd (k : SlotId)
  | segmentBegin (k : SlotId)
  | fadeComplete (c : ChannelId)
  | effectPeriodWrap (k : SlotId)
  | cueWaitExpiry (k : SlotId)
  | rearmExpiry (a : AxisId)
  | statusInterval
  | sourceStale (src : SourceId)
  | loadComplete
  | loadTable (c : Cmd)
  | readTable (c : Cmd)
  | readStatus (c : Cmd)
  | readCensus (c : Cmd)
  | censusSweep (c : Cmd)
  | setTime (c : Cmd)
  | readTime (c : Cmd)
  | setTrim (c : Cmd)
  | setBeatSource (c : Cmd) (b : BeatIn)
  | setHouseMode (c : Cmd) (flagsFirst : Bool)
  | startScene (c : Cmd)
  | stopSceneByScene (c : Cmd)
  | stopSceneBySlot (c : Cmd)
  | stopShow (c : Cmd)
  | resumeShow (c : Cmd)
  | setFlags (c : Cmd)
  | clearFlags (c : Cmd)
  | readFlags (c : Cmd)
  | fireTrigger (c : Cmd)
  | clearNotices (c : Cmd)
  | reset (c : Cmd) (stopActive : Bool)
  | unknownCommand (code : Byte) (c : Cmd)
  | downstreamFramePassedOn (f : Frame)
  | badFrame (side : Side) (bytes : List Byte)
  | formatFault (f : Frame)
  deriving DecidableEq, Repr

end Sys2Proof
end

