-- ==== Sys2Proof/Machine/State.lean ====
section
/-! DEFINITION. State of the block: every record, table, queue, counter, mark and mode the spec gives it, grouped by
the block that owns it (spec 00, Section 2), as plain data; the reasons a step can stop; and the state after a full
reset. INVENTORY.md lists each field with its rule and its reset value. -/

namespace Sys2Proof.Machine

/-! ### Reasons a step can stop -/

/-- Faults. The spec names no behaviour of the block that stops it, so no constructor is needed: every command answers
a next state. -/
inductive Fault where
  deriving DecidableEq, Repr

/-- Refusals. `notModelled` is raised by an arm of `exec` whose command has no meaning yet (safe: the run stops). No
arm raises it: every row of the table has its meaning. -/
inductive Refusal where
  | notModelled (mnemonic : String)
  deriving DecidableEq, Repr

/-! ### Table records (Chapter 10, R180; layouts in Section 11.5) -/

/-- UNIT settings (R185). -/
structure UnitRec where
  buttonStuck : Nat := 3000
  presenceStuck : Nat := 180000
  linger : Nat := 300
  staleLimit : Nat := 5
  statusInterval : Nat := 50
  autoClear : Bool := false
  openClears : Bool := false
  deriving DecidableEq, Repr

/-- ROUTE record (R91): class of each stream (a member of `ambient` is AMBIENT), bed gains at place 8s + o, and per
output the duck depth and the attack and release steps. -/
structure RouteRec where
  ambient : BitVec 8 := 0xC0
  bed : Vector Nat 64 := Vector.replicate 64 0
  depth : Vector Nat 8 := Vector.replicate 8 4096
  attack : Vector Nat 8 := Vector.replicate 8 256
  release : Vector Nat 8 := Vector.replicate 8 64
  deriving DecidableEq, Repr

/-- Fixture classes (R133). -/
inductive FixClass where
  | light | motion | sound
  deriving DecidableEq, Repr

/-- An admission list entry (R134); `matchSet` holds maker, model, revision and class as members 0..3. -/
structure AdmtRec where
  maker : Nat
  model : Nat
  revision : Nat
  cls : FixClass
  matchSet : BitVec 4
  deriving DecidableEq, Repr

/-- An envelope (R109). `park` is the guard action PARK (STOP when false). -/
structure EnvRec where
  enable : Bool := false
  min : Int := -32767
  max : Int := 32767
  vmax : Nat := 1
  amax : Nat := 1
  guardZones : BitVec 4 := 0
  park : Bool := false
  parkPos : Int := 0
  vguard : Nat := 0
  rearm : Nat := 0
  deriving DecidableEq, Repr

/-- A look (R69): its (channel, level) pairs in list order. -/
structure LookRec where
  pairs : List (Nat × Nat)
  deriving DecidableEq, Repr

/-- An effect pattern (R72). The lists hold all six places of the layout; places beyond the count are ignored and read
back as loaded (Section 11.5). -/
structure FxRec where
  period : Nat
  startLow : Bool
  hush : Bool
  evenCount : Nat
  even : List Nat
  oddCount : Nat
  odd : List Nat
  deriving DecidableEq, Repr

/-- House modes (R161); `opened` is OPEN. -/
inductive HouseMode where
  | opened | closed | service
  deriving DecidableEq, Repr

/-- The kinds of eligibility test (R2, R44). -/
inductive TestKind where
  | flagSet (f : Fin 32)
  | flagClear (f : Fin 32)
  | zoneOccupied (z : ZoneId)
  | zoneClear (z : ZoneId)
  | mode (m : HouseMode)
  | sceneIdle (s : SceneId)
  deriving DecidableEq, Repr

/-- An eligibility test with its combiner (`orComb`: OR, otherwise AND). -/
structure Test where
  kind : TestKind
  orComb : Bool
  deriving DecidableEq, Repr

/-- A claim set over the 96 resources (R2, R49). -/
structure Claims where
  groups : BitVec 48 := 0
  streams : BitVec 8 := 0
  outputs : BitVec 8 := 0
  axes : BitVec 32 := 0
  deriving DecidableEq, Repr

/-- Effect part of a segment (R3). -/
structure EffectPart where
  pattern : Fin 16
  depth : Nat
  targets : BitVec 48
  deriving DecidableEq, Repr

/-- Cue part of a segment (R3). -/
structure CuePart where
  stream : StreamId
  clip : Nat
  outputs : BitVec 8
  gain : Nat
  wait : Nat
  deriving DecidableEq, Repr

/-- One keyframe entry (R3). -/
structure KeyEntry where
  axis : AxisId
  target : Int
  travel : Nat
  deriving DecidableEq, Repr

/-- A segment record (R3). -/
structure Segment where
  start : Nat
  look : Option (Fin 64 × Nat)
  effect : Option EffectPart
  cue : Option CuePart
  keys : Option (List KeyEntry)
  /-- Flag action: `true` is SET. -/
  flag : Option (Bool × Fin 32)
  deriving DecidableEq, Repr

/-- A scene record (R2). -/
structure SceneRec where
  priority : Nat
  home : ZoneId
  mayPreempt : Bool
  yieldable : Bool
  abandonOnClear : Bool
  requireMotion : Bool
  repeats : Nat
  maxWait : Nat
  length : Nat
  releaseFade : Nat
  next : Option SceneId
  claims : Claims
  tests : List Test
  segments : List Segment
  deriving DecidableEq, Repr

/-- Roles of a line (R24). -/
inductive Role where
  | unused | button | presence | beam
  deriving DecidableEq, Repr

/-- A LINE record (R24), each byte as loaded: fields the role does not use are ignored and read back as loaded. -/
structure LineRec where
  role : Role := .unused
  zone : Nat := 0
  activeLow : Nat := 0
  debounce : Nat := 1
  lockout : Nat := 0
  trigOnBreak : Nat := 0
  deriving DecidableEq, Repr

/-- What a firing does while the scene is playing (R30). -/
inductive Behaviour where
  | ignore | restart | stop
  deriving DecidableEq, Repr

/-- A trigger entry (R30). -/
structure TrigRec where
  scene : SceneId
  alternate : Option SceneId
  behaviour : Behaviour
  hasIndicator : Bool
  channel : Nat
  ready : Nat
  busy : Nat
  dark : Nat
  deriving DecidableEq, Repr


/-- What an alarm does when it fires (R158). -/
inductive AlarmAction where
  | enqueue (s : SceneId)
  | setMode (m : HouseMode)
  | setFlag (f : Fin 32)
  | clearFlags
  deriving DecidableEq, Repr

/-- An alarm record (R158); `enables` holds second, minute, hour, weekday, day, month as members 0..5. -/
structure AlrmRec where
  second : Nat
  minute : Nat
  hour : Nat
  weekday : Nat
  day : Nat
  month : Nat
  enables : BitVec 6
  once : Bool
  action : AlarmAction
  deriving DecidableEq, Repr

/-- One record of a LOAD-TABLE, checked and parsed; `none` is the empty form. -/
inductive TableRec where
  | unit (r : UnitRec)
  | route (r : RouteRec)
  | ceil (n : Nat)
  | admt (r : Option AdmtRec)
  | env (r : EnvRec)
  | look (r : Option LookRec)
  | fx (r : Option FxRec)
  | scn (r : Option SceneRec)
  | line (r : LineRec)
  | trig (r : Option TrigRec)
  | alrm (r : Option AlrmRec)
  deriving DecidableEq, Repr

/-! ### Show Link Interface (Chapter 9) -/

/-- REPLY status codes (Section 11.2), in the order of their numbers. -/
inductive Status where
  | done | busy | badCommand | badTable | badRange | badCheck | badRecord | inUse | noSpace | notReady
  | queueFull | ineligible | duplicate | stopped
  deriving DecidableEq, Repr

/-- Why a slot ended (R17), in the order of R5. -/
inductive EndReason where
  | complete | stopped | preempted | abandoned | showStop | reset
  deriving DecidableEq, Repr

/-- Why a cue was cancelled (R100, R98; numbers of Section 11.1). -/
inductive CancelCause where
  | replaced | complete | stopped | preempted | abandoned | showStop | lost
  deriving DecidableEq, Repr

/-- What a CUE report carries about its cue (R94, R100). -/
structure CueInfo where
  number : Half
  slot : SlotId
  scene : SceneId
  zone : ZoneId
  stream : StreamId
  clip : Nat
  deriving DecidableEq, Repr

/-- A report of the own-report queue (R171). A STATUS is composed when it leaves (R173). -/
inductive Report where
  | status
  | cueStart (c : CueInfo)
  | cueCancel (c : CueInfo) (cause : CancelCause)
  | reply (code : Byte) (st : Status) (tag : Half) (fields : List Byte)
  deriving DecidableEq, Repr

/-- Age and freshness of one source (R170). -/
structure Src where
  age : Nat := 255
  fresh : Bool := false
  deriving DecidableEq, Repr

/-- State of the SLI (R164 to R175). Sources: light 0..3, streams 4..11, setpoints 12..43. -/
structure Sli where
  ownAddr : BitVec 4
  lastTaken : Half := 0
  sources : Vector Src 44 := Vector.replicate 44 {}
  ownQueue : List Report := []
  owed : Bool := false
  statusCount : Nat := 0
  forward : List Frame := []
  /-- Valid downstream frames waiting to be passed on at THRU, oldest first (R167). -/
  thruQueue : List Frame := []
  /-- The side the IN transmitter served last is the own-report queue (R169). -/
  servedOwn : Bool := true
  upSeq : Half := 0
  badFrames : Half := 0
  linkError : Bool := false
  /-- Causes LENGTH, CRC, FORMAT carried by LINK-ERROR. -/
  linkCauses : BitVec 3 := 0
  /-- Sides IN, THRU carried by LINK-ERROR. -/
  linkSides : BitVec 2 := 0
  thruOverrun : Bool := false
  reportOverrun : Bool := false
  queueFull : Bool := false
  lineStuck : Bool := false
  stuckLines : BitVec 16 := 0
  alarm : Bool := false
  alarmNumbers : BitVec 8 := 0
  /-- POWER-FAULT of each zone. -/
  powerFault : BitVec 4 := 0
  /-- The frame the IN transmitter last began to send. -/
  inTx : Option Frame := none
  /-- The frame the THRU transmitter last began to send. -/
  thruTx : Option Frame := none
  deriving DecidableEq, Repr

/-! ### Management Unit (Chapter 10) -/

/-- A load in LOADING (R182): its command's tag, table id, first index, checked records and write count. -/
structure Load where
  tag : Half
  table : Nat
  first : Nat
  recs : List TableRec
  writes : Nat
  deriving DecidableEq, Repr

/-- State of the MU (R176). -/
inductive MuState where
  | idle
  | loading (l : Load)
  | resetPending
  deriving DecidableEq, Repr

/-- The table store (R180). -/
structure Tables where
  unit : UnitRec := {}
  route : RouteRec := {}
  ceil : Vector Nat 768 := Vector.replicate 768 65534
  admt : Vector (Option AdmtRec) 40 := Vector.replicate 40 none
  env : Vector EnvRec 32 := Vector.replicate 32 {}
  look : Vector (Option LookRec) 64 := Vector.replicate 64 none
  fx : Vector (Option FxRec) 16 := Vector.replicate 16 none
  scn : Vector (Option SceneRec) 48 := Vector.replicate 48 none
  line : Vector LineRec 16 := Vector.replicate 16 {}
  trig : Vector (Option TrigRec) 32 := Vector.replicate 32 none
  alrm : Vector (Option AlrmRec) 8 := Vector.replicate 8 none
  deriving DecidableEq, Repr

/-- The MU: its state and its table store. -/
structure Mu where
  st : MuState := .idle
  tables : Tables := {}
  deriving DecidableEq, Repr

/-! ### Show Clock (Chapter 8) -/

/-- Beat source and, while it is FOLLOW, the follow state (R150). -/
inductive BeatSource where
  | internal
  | following
  | holdover
  deriving DecidableEq, Repr

/-- The calendar (R156); `running` is false while UNSET. -/
structure Calendar where
  running : Bool := false
  year : Nat := 0
  month : Nat := 1
  day : Nat := 1
  weekday : Nat := 0
  hour : Nat := 0
  minute : Nat := 0
  second : Nat := 0
  beat : Nat := 0
  deriving DecidableEq, Repr

/-- Alarm state (SPENT or ARMED) and its two marks (R158); all clear beside an EMPTY record. -/
structure AlarmRun where
  spent : Bool := false
  matched : Bool := false
  fired : Bool := false
  deriving DecidableEq, Repr

/-- State of the SCK (R150, R156, R158, R161, R160). -/
structure Sck where
  source : BeatSource := .internal
  trim : Int := 0
  acc : Int := 0
  interval : Nat := 0
  intervalLen : Nat := 100000
  miss : Nat := 0
  hit : Nat := 0
  spacing : Option Nat := none
  cal : Calendar := {}
  alarms : Vector AlarmRun 8 := Vector.replicate 8 {}
  mode : HouseMode := .closed
  /-- The show state as the SCK last learned it from the ARB (R160). -/
  showStopped : Bool
  /-- The model's own (log entry 45): the show state has changed since the SCK last took a beat, so the change may race
  an ENQUEUE of its next beat. -/
  showNews : Bool := false
  deriving DecidableEq, Repr

/-! ### Input and Occupancy Unit (Chapter 2) -/

/-- Runtime record of a line (R25). -/
structure LineRt where
  accepted : Bool := false
  debounce : Nat := 0
  lockout : Nat := 0
  held : Nat := 0
  stuck : Bool := false
  deriving DecidableEq, Repr

/-- Occupancy states (R36). -/
inductive OccKind where
  | clear | occupied | linger
  deriving DecidableEq, Repr

/-- A zone's occupancy with its linger count (R36, R37). -/
structure ZoneOcc where
  kind : OccKind := .clear
  count : Nat := 0
  deriving DecidableEq, Repr

/-- Indicator states (R35). -/
inductive Indicator where
  | dark | busy | ready
  deriving DecidableEq, Repr

/-- State of the IOU (R25, R35, R36, R39; house mode and show state as it received them, R161, R61). -/
structure Iou where
  lines : Vector LineRt 16 := Vector.replicate 16 {}
  zones : Vector ZoneOcc 4 := Vector.replicate 4 {}
  stopAccepted : Bool
  stopDebounce : Nat := 0
  indicators : Vector (Option Indicator) 32 := Vector.replicate 32 none
  mode : HouseMode := .closed
  showStopped : Bool
  deriving DecidableEq, Repr

/-! ### Scene Arbiter (Chapter 3) -/

/-- Where a request came from (R41). -/
inductive Source where
  | visitor (n : LineId)
  | virtual (n : LineId)
  | schedule (n : AlarmId)
  | server
  deriving DecidableEq, Repr

/-- A queued request (R41). -/
structure Request where
  scene : SceneId
  source : Source
  priority : Nat
  deadline : Nat
  tag : Option Half := none
  deriving DecidableEq, Repr

/-- Refusal codes of an arriving request (R42). -/
inductive RefuseCode where
  | stopped | notReady | duplicate | ineligible | queueFull
  deriving DecidableEq, Repr

/-- Departure reasons other than STARTED (R48). -/
inductive Departure where
  | ineligible | timedOut | house | stopped | showStop
  deriving DecidableEq, Repr

/-- Outcomes of the outcome log (R64); `preempted` names the slot that ended and the slot that preempted it. -/
inductive OutcomeKind where
  | started (k : SlotId)
  | refused (c : RefuseCode)
  | departed (d : Departure)
  | preempted (k : SlotId) (by_ : SlotId)
  deriving DecidableEq, Repr

/-- An entry of the outcome log (R64). -/
structure LogEntry where
  number : Half
  scene : SceneId
  source : Source
  priority : Nat
  kind : OutcomeKind
  tag : Option Half
  deriving DecidableEq, Repr

/-- State of the ARB (R47, R49, R61, R64; house mode and occupancy as it received them, R161, R38). -/
structure Arb where
  queue : List Request := []
  owners : Vector (Option SlotId) 96 := Vector.replicate 96 none
  showStopped : Bool
  log : List LogEntry := []
  nextNumber : Half := 0
  mode : HouseMode := .closed
  occ : Vector OccKind 4 := Vector.replicate 4 .clear
  deriving DecidableEq, Repr

/-! ### Scene Sequencer (Chapter 1) -/

/-- Degraded marks (R16), members 0..3 of a slot's set. -/
inductive Mark where
  | lookMissing | cueFailed | cueLost | axisOffline
  deriving DecidableEq, Repr

/-- What a PLAYING slot holds (R5). The current effect stands in the LCO's effect record (R73) and the cue record in
the NMX (R94): one home each. -/
structure PlayRec where
  scene : SceneId
  source : Source
  priority : Nat
  position : Nat
  segment : Nat
  plays : Nat
  claims : Claims
  marks : BitVec 4
  deriving DecidableEq, Repr

/-- A scene slot (R5). -/
inductive Slot where
  | free (last : Option SceneId) (reason : EndReason)
  | playing (p : PlayRec)
  deriving DecidableEq, Repr

/-- State of the SEQ (R5, R21). -/
structure Seq where
  slots : Vector Slot 8 := Vector.replicate 8 (.free none .reset)
  flags : BitVec 32 := 0
  deriving DecidableEq, Repr

/-! ### Look Composer (Chapter 4) -/

/-- Layer phases (R75). -/
inductive Phase where
  | idle | fading | settled | releasing
  deriving DecidableEq, Repr

/-- A channel's layer (R75). While the phase is RELEASING the to-level is BASE, whatever `toLevel` holds (0 then). -/
structure Layer where
  owner : Option SlotId := none
  phase : Phase := .idle
  fromLevel : Nat := 0
  toLevel : Nat := 0
  len : Nat := 0
  pos : Nat := 0
  deriving DecidableEq, Repr

/-- What the LCO holds for one channel: base record (R66), layer (R75), indicator level (R85), present mark (R86). -/
structure Channel where
  base : Nat := 0
  stale : Bool := true
  lastFresh : Nat := 0
  layer : Layer := {}
  indicator : Option Nat := none
  present : Bool := false
  deriving DecidableEq, Repr

/-- An effect record (R73); `lastLow` is its state on the last composed beat (R89), none before the first. -/
structure Effect where
  pattern : Fin 16
  targets : BitVec 48
  depth : Nat
  phase : Nat
  count : Half
  lastLow : Option Bool
  deriving DecidableEq, Repr

/-- State of the LCO (R66, R73, R75, R74). -/
structure Lco where
  channels : Vector Channel 768 := Vector.replicate 768 {}
  masters : Vector Nat 4 := Vector.replicate 4 256
  effects : Vector (Option Effect) 8 := Vector.replicate 8 none
  /-- Slots whose cue the NMX has told the LCO is LIVE (R74). -/
  cueLive : BitVec 8 := 0
  deriving DecidableEq, Repr

/-! ### Narration Mixer (Chapter 5) -/

/-- Cue states (R94). -/
inductive CueState where
  | requested | pending | live | done | failed | lost
  deriving DecidableEq, Repr

/-- A cue record (R94); the slot is the record's place. -/
structure Cue where
  number : Half
  scene : SceneId
  zone : ZoneId
  stream : StreamId
  clip : Nat
  outputs : BitVec 8
  gain : Nat
  wait : Nat
  remaining : Nat
  state : CueState
  deriving DecidableEq, Repr

/-- A cancellation ramp (R101); the stream is the record's place. -/
structure Ramp where
  outputs : BitVec 8
  gain : Nat
  deriving DecidableEq, Repr

/-- State of the NMX (R94, R101, R102, R105). Stream class stands in ROUTE, freshness in the SLI: one home each. -/
structure Nmx where
  cues : Vector (Option Cue) 8 := Vector.replicate 8 none
  nextCue : Half := 0
  ramps : Vector (Option Ramp) 8 := Vector.replicate 8 none
  duck : Vector Nat 8 := Vector.replicate 8 4096
  present : BitVec 8 := 0
  deriving DecidableEq, Repr

/-! ### Motion Gate (Chapter 6) -/

/-- Axis modes with their causes (R112). -/
inductive AxisMode where
  | disabledNoEnvelope | disabledOutOfRange
  | offlineCensus | offlinePower
  | guarded | holding | tracking
  deriving DecidableEq, Repr

/-- A target (R122): a position or "stop". -/
inductive Target where
  | stop
  | pos (p : Int)
  deriving DecidableEq, Repr

/-- A keyframe (R118). -/
structure Keyframe where
  start : Int
  target : Int
  travel : Nat
  elapsed : Nat
  deriving DecidableEq, Repr

/-- The record of an axis (R111). The owner stands in the claim table and the setpoint's freshness in the SLI: one home
each. `reply` is the reply-slot position of the port's latest hand-over, which stands until the next one (R113, R125). -/
structure Axis where
  pos : Int := 0
  step : Int := 0
  mode : AxisMode := .disabledNoEnvelope
  present : Bool := false
  setpoint : Int := -32768
  sceneTarget : Option Int := none
  keyframe : Option Keyframe := none
  guarded : Bool := false
  rearm : Nat := 0
  resetHold : Bool := false
  lastTarget : Option Target := none
  reply : Option Int := none
  deriving DecidableEq, Repr

/-- State of the MGT (R111, R115; occupancy and show state as it received them, R38, R61). -/
structure Mgt where
  axes : Vector Axis 32 := Vector.replicate 32 {}
  occ : Vector OccKind 4 := Vector.replicate 4 .clear
  powerFault : BitVec 4 := 0
  showStopped : Bool
  deriving DecidableEq, Repr

/-! ### Zone Ports (Chapter 7) -/

/-- States of a census record with their causes (R136). -/
inductive CensusState where
  | admitted
  | conflictCapacity
  | conflictOverlap (p : PosId)
  | refusedMalformed
  | refusedUnlisted
  | lostMissed
  | lostPower
  deriving DecidableEq, Repr

/-- The fields of an announcement (R133), each as received. -/
structure Announce where
  serial : Nat
  maker : Nat
  model : Nat
  revision : Nat
  cls : Nat
  start : Nat
  count : Nat
  positions : List Int
  deriving DecidableEq, Repr

/-- A held census record (R136). -/
structure CensusRec where
  ann : Announce
  state : CensusState
  miss : Nat
  deriving DecidableEq, Repr

/-- A control frame (R129). `call` is the position called; `sweepCall` says that a sweep calls it (R141). -/
structure CtrlFrame where
  number : Half
  light : Vector Nat 192
  motion : Vector Int 8
  call : Option PosId
  sweepCall : Bool
  admitted : BitVec 12
  deriving DecidableEq, Repr

/-- An audio block (R130): local output 1 or 0, and 480 samples. -/
structure AudioBlock where
  second : Bool
  samples : List Int
  deriving DecidableEq, Repr

/-- A downstream zone-bus message (R130). -/
inductive ZoneMsg where
  | control (f : CtrlFrame)
  | audio (b : AudioBlock)
  deriving DecidableEq, Repr

/-- The reply window of the control frame sent since the last close (R131): its frame number, its call, the positions
from which a reply or announcement for it has been received, and the positions each reply carried. -/
structure Window where
  number : Half
  call : Option PosId
  received : BitVec 12
  replies : Vector (List Int) 12
  deriving DecidableEq, Repr

/-- State of one zone port (R128). -/
structure Port where
  census : Vector (Option CensusRec) 12 := Vector.replicate 12 none
  light : Option (Vector Nat 192) := none
  lightFresh : Bool := false
  motion : Option (Vector Int 8) := none
  motionFresh : Bool := false
  /-- Step 3 of R148 of this beat has been taken without both parts fresh; the frame is formed on the arrival that
  makes both fresh (R129). -/
  awaiting : Bool := false
  waiting : Option CtrlFrame := none
  audio : List AudioBlock := []
  frameNo : Half := 0
  lastSent : Option Half := none
  window : Option Window := none
  /-- Next position to call while SWEEPING; none is IDLE (R141). -/
  sweep : Option PosId := some 0
  calls : BitVec 12 := 0
  changeFlag : Bool := false
  armed : Bool := false
  /-- Hold-off count while the motion power is OFF; none is ON (R146). -/
  powerOff : Option Nat := none
  senseFault : Bool := false
  superseded : Half := 0
  discarded : Half := 0
  /-- The message the port's transmitter last began to send. -/
  sending : Option ZoneMsg := none
  deriving DecidableEq, Repr

/-! ### The block -/

/-- State of the OMB-2408. -/
structure State where
  sli : Sli
  mu : Mu
  sck : Sck
  iou : Iou
  arb : Arb
  seq : Seq
  lco : Lco
  nmx : Nmx
  mgt : Mgt
  ports : Vector Port 4
  /-- The model's own counter: the next index at which a free value of Config is read (log entries 12 and 13). -/
  free : Nat
  /-- The commands waiting, first in, first out. -/
  pending : List Instr
  deriving DecidableEq, Repr

/-- The machine right after a full reset whose end finds these levels at ADDR0..ADDR3 and SHOWSTOP_N: every field at
the value its rule gives for a full reset (R1, R5, R21, R24, R26, R30, R38, R39, R47, R49, R61, R64, R66, R69, R72,
R75, R90, R91, R94, R102, R105, R111, R128, R134, R150, R156, R158, R161, R164, R165, R168 to R172, R174, R176, R180),
with the STATUS that the reset asks for in the own-report queue (R172). -/
def State.afterFullReset (addrPins : BitVec 4) (stopActive : Bool) : State where
  sli := { ownAddr := addrPins, ownQueue := [.status] }
  mu := {}
  sck := { showStopped := stopActive }
  iou := { stopAccepted := stopActive, showStopped := stopActive }
  arb := { showStopped := stopActive }
  seq := {}
  lco := {}
  nmx := {}
  mgt := { showStopped := stopActive }
  ports := Vector.replicate 4 {}
  free := 0
  pending := []

/-- The machine right after the power-on reset, with the pin levels of Config (log entry 1). -/
def State.reset : State := State.afterFullReset Config.resetAddress Config.resetStopActive

/-! ### Updates of one block's part -/

/-- Change the SLI's part. -/
def State.onSli (f : Sli → Sli) (s : State) : State := { s with sli := f s.sli }
/-- Change the MU's part. -/
def State.onMu (f : Mu → Mu) (s : State) : State := { s with mu := f s.mu }
/-- Change the SCK's part. -/
def State.onSck (f : Sck → Sck) (s : State) : State := { s with sck := f s.sck }
/-- Change the IOU's part. -/
def State.onIou (f : Iou → Iou) (s : State) : State := { s with iou := f s.iou }
/-- Change the ARB's part. -/
def State.onArb (f : Arb → Arb) (s : State) : State := { s with arb := f s.arb }
/-- Change the SEQ's part. -/
def State.onSeq (f : Seq → Seq) (s : State) : State := { s with seq := f s.seq }
/-- Change the LCO's part. -/
def State.onLco (f : Lco → Lco) (s : State) : State := { s with lco := f s.lco }
/-- Change the NMX's part. -/
def State.onNmx (f : Nmx → Nmx) (s : State) : State := { s with nmx := f s.nmx }
/-- Change the MGT's part. -/
def State.onMgt (f : Mgt → Mgt) (s : State) : State := { s with mgt := f s.mgt }
/-- Change the port of one zone. -/
def State.onPort (z : ZoneId) (f : Port → Port) (s : State) : State :=
  { s with ports := s.ports.set z (f s.ports[z]) }

end Sys2Proof.Machine
end

