-- ==== Sys2Proof/Machine/Operands.lean ====
section
/-! DEFINITION. Operand forms: how numbers, sets, frames and zone-bus messages are laid out in bytes (Chapter 11,
R187, R188), the two cyclic checks (R164, R180), and the parts a frame body is read as (R67, R92, R116, R31). -/

namespace Sys2Proof.Machine

/-! ### Numbers and sets (R187) -/

/-- The byte at an offset; 0 beyond the end (every reader's length is judged first). -/
def byteAt (bs : List Byte) (i : Nat) : Byte := bs.getD i 0

/-- One-byte number. -/
def u8 (bs : List Byte) (i : Nat) : Nat := (byteAt bs i).toNat

/-- Two-byte number, little-endian. -/
def u16 (bs : List Byte) (i : Nat) : Nat := u8 bs i + 256 * u8 bs (i + 1)

/-- Two-byte number in two's complement. -/
def i16 (bs : List Byte) (i : Nat) : Int := (BitVec.ofNat 16 (u16 bs i)).toInt

/-- One-byte number in two's complement. -/
def i8 (bs : List Byte) (i : Nat) : Int := (byteAt bs i).toInt

/-- Four-byte number, little-endian. -/
def u32 (bs : List Byte) (i : Nat) : Nat := u16 bs i + 65536 * u16 bs (i + 2)

/-- `n` bytes from an offset as one little-endian number. -/
def uN (bs : List Byte) (i : Nat) : Nat → Nat
  | 0 => 0
  | n + 1 => u8 bs i + 256 * uN bs (i + 1) n

/-- A set over `w` members held in the `n` bytes from an offset: member i is bit i mod 8 of byte i div 8. -/
def setAt (w : Nat) (bs : List Byte) (i n : Nat) : BitVec w := BitVec.ofNat w (uN bs i n)

/-- One byte. -/
def put8 (n : Nat) : List Byte := [BitVec.ofNat 8 n]

/-- `n` bytes of a number, little-endian. -/
def putN : Nat → Nat → List Byte
  | 0, _ => []
  | n + 1, x => BitVec.ofNat 8 x :: putN n (x / 256)

/-- Two bytes, little-endian. -/
def put16 (n : Nat) : List Byte := putN 2 n

/-- Four bytes, little-endian. -/
def put32 (n : Nat) : List Byte := putN 4 n

/-- Two bytes, two's complement. -/
def putI16 (x : Int) : List Byte := put16 (BitVec.ofInt 16 x).toNat

/-- A yes/no or set/clear item: 1 for yes. -/
def putBool (b : Bool) : List Byte := [if b then 1 else 0]

/-- A set over w members in (w + 7) div 8 bytes. -/
def putSet {w : Nat} (x : BitVec w) : List Byte := putN ((w + 7) / 8) x.toNat

/-- An optional one-byte index: 255 when absent. -/
def putOpt {n : Nat} (x : Option (Fin n)) : List Byte := put8 (match x with | some i => i.val | none => 255)

/-- The position of a chain position as its 1-based number; 0 for none. -/
def posNumber (p : Option PosId) : Nat := match p with | some i => i.val + 1 | none => 0

/-! ### Cyclic checks -/

/-- Shift one CRC-16 bit: polynomial 1021 hex, most significant bit first (R180). -/
def crc16Bit (r : BitVec 16) : BitVec 16 := if r.msb then (r <<< 1) ^^^ 0x1021 else r <<< 1

/-- Take one byte into the CRC-16. -/
def crc16Byte (r : BitVec 16) (b : Byte) : BitVec 16 :=
  let r := r ^^^ (b.zeroExtend 16 <<< 8)
  crc16Bit (crc16Bit (crc16Bit (crc16Bit (crc16Bit (crc16Bit (crc16Bit (crc16Bit r)))))))

/-- CRC-16 of the load data and of the zone-bus messages (R180, Section 11.4): initial value FFFF hex, no reflection of
the result and no final complement. -/
def crc16 (bs : List Byte) : BitVec 16 := bs.foldl crc16Byte 0xFFFF

/-- Shift one CRC-32 bit. The register is held reflected, so the bits of a byte go in least significant first and the
reflection of the result before the final step is already made; EDB88320 hex is 04C11DB7 hex reflected (R164). -/
def crc32Bit (r : BitVec 32) : BitVec 32 := if r.getLsbD 0 then (r >>> 1) ^^^ 0xEDB88320 else r >>> 1

/-- Take one byte into the CRC-32. -/
def crc32Byte (r : BitVec 32) (b : Byte) : BitVec 32 :=
  let r := r ^^^ b.zeroExtend 32
  crc32Bit (crc32Bit (crc32Bit (crc32Bit (crc32Bit (crc32Bit (crc32Bit (crc32Bit r)))))))

/-- CRC-32 of a frame's header and body (R164): initial value all ones, final complement. -/
def crc32 (bs : List Byte) : BitVec 32 := ~~~ (bs.foldl crc32Byte 0xFFFFFFFF)

/-! ### Show Link frames (Section 11.1) -/

/-- Header and body of a frame. -/
def frameHead (f : Frame) : List Byte :=
  [f.addr, f.kind] ++ put16 f.seq.toNat ++ put16 f.body.length ++ f.body

/-- A frame as it stands on the link: header, body and CRC-32. -/
def frameBytes (f : Frame) : List Byte := frameHead f ++ put32 (crc32 (frameHead f)).toNat

/-- Why a received frame is dropped (R164). -/
inductive BadCause where
  | length | crc
  deriving DecidableEq, Repr

/-- The two-step check of a received frame (R164): its length against the header, then its CRC-32. -/
def judgeBytes (bs : List Byte) : Except BadCause Frame :=
  let n := u16 bs 4
  if bs.length < 10 ∨ bs.length ≠ 6 + n + 4 ∨ Config.bodyMax < n then .error .length
  else if u32 bs (6 + n) ≠ (crc32 (bs.take (6 + n))).toNat then .error .crc
  else .ok { addr := byteAt bs 0, kind := byteAt bs 1, seq := BitVec.ofNat 16 (u16 bs 2), body := (bs.drop 6).take n }

/-- One stream block of a SOUND frame, a pair block already separated into its halves (R92). -/
structure StreamBlock where
  stream : Nat
  tag : Nat
  last : Bool
  samples : List Int
  deriving DecidableEq, Repr

/-- A mark byte: 1 is yes and 0 is no; another value is open (log entry 14). -/
def markByte (b : Byte) : Bool := if b = 1 then true else if b = 0 then false else Config.markOfByte b

/-- `n` samples of two bytes, `step` bytes apart. -/
def samplesAt (bs : List Byte) (i step : Nat) : Nat → List Int
  | 0 => []
  | n + 1 => i16 bs i :: samplesAt bs (i + step) step n

/-- The blocks of a SOUND body after its block count, in list order, each with the streams it gives (R92): a single
block gives its stream, a pair block with an even first stream gives its two halves, and a pair block with an odd first
stream gives nothing. `none` when a form byte lies outside its list or the bytes do not end where the last block ends. -/
def soundBlocks : Nat → List Byte → Option (List (List StreamBlock))
  | 0, bs => if bs.isEmpty then some [] else none
  | n + 1, bs =>
    if u8 bs 0 = 0 ∧ 966 ≤ bs.length then
      (soundBlocks n (bs.drop 966)).map fun rest =>
        [⟨u8 bs 1, u16 bs 2, markByte (byteAt bs 4), samplesAt bs 6 2 480⟩] :: rest
    else if u8 bs 0 = 1 ∧ 1928 ≤ bs.length then
      (soundBlocks n (bs.drop 1928)).map fun rest =>
        if u8 bs 1 % 2 = 0 then
          [⟨u8 bs 1, u16 bs 2, markByte (byteAt bs 6), samplesAt bs 8 4 480⟩,
            ⟨u8 bs 1 + 1, u16 bs 4, markByte (byteAt bs 7), samplesAt bs 10 4 480⟩] :: rest
        else rest
    else none

/-- Some stream of a block has been taken from an earlier block. -/
def takenBefore (taken block : List StreamBlock) : Bool := block.any fun b => taken.any fun t => t.stream = b.stream

/-- The streams of a SOUND frame (R92): each block in list order gives its streams, unless one of them was already
taken; then the block is ignored, with the other half of a pair block. That a later block may still carry that other
half's stream is the model's choice (DESIGN CHOICE, log entry 37). -/
def carriedBlocks (blocks : List (List StreamBlock)) : List StreamBlock :=
  blocks.foldl (fun taken block => if takenBefore taken block then taken else taken ++ block) []

/-- The stream blocks a SOUND body carries (Section 11.1): a block count of 0..8 and the blocks. -/
def soundBody (bs : List Byte) : Option (List StreamBlock) :=
  if bs.isEmpty ∨ 8 < u8 bs 0 then none else (soundBlocks (u8 bs 0) (bs.drop 1)).map carriedBlocks

/-- The block that carries a stream (R92); `none` when the stream is absent. -/
def blockOf (blocks : List StreamBlock) (k : StreamId) : Option StreamBlock := blocks.find? (·.stream = k.val)

/-- Number of members of a set. -/
def setCount {w : Nat} (x : BitVec w) : Nat := ((List.finRange w).filter fun i => x.getLsbD i).length

/-- Present set of a MOTION body. -/
def motionSet (bs : List Byte) : BitVec 32 := setAt 32 bs 0 4

/-- The setpoint a MOTION body carries for an axis of its present set: the setpoints stand in ascending axis order. -/
def motionSetpoint (bs : List Byte) (a : AxisId) : Int :=
  i16 bs (4 + 2 * ((List.finRange 32).filter fun b => (motionSet bs).getLsbD b && decide (b < a)).length)

/-- The virtual triggers a TRIGGER body lists, each once, at its first place (R31). -/
def triggerList (bs : List Byte) : List LineId :=
  ((bs.drop 1).map fun b => Fin.ofNat 16 b.toNat).eraseDups

/-- Codes of the commands that may be broadcast (R176). -/
def broadcastCodes : List Nat := [6, 10, 13, 14]

/-- The broadcast address (R165). -/
def isBroadcast (addr : Byte) : Bool := addr == 15

/-- Whether a frame's kind is a downstream kind and its body agrees with the layout of that kind (R166, R188). -/
def agrees (f : Frame) : Bool :=
  match f.kind.toNat with
  | 1 => f.body.isEmpty
  | 2 => f.body.length == 388
  | 3 => (soundBody f.body).isSome
  | 4 => decide (4 ≤ f.body.length) && f.body.length == 4 + 2 * setCount (motionSet f.body)
  | 5 => decide (1 ≤ u8 f.body 0 ∧ u8 f.body 0 ≤ 16) && f.body.length == 1 + u8 f.body 0 &&
      (f.body.drop 1).all fun b => decide (b.toNat < 16)
  | 6 => decide (4 ≤ f.body.length) && (!isBroadcast f.addr || broadcastCodes.contains (u8 f.body 0))
  | _ => false

/-- The frame of a row that names its kind. -/
def Rx.frame (f : Rx) (kind : Nat) : Frame := { addr := f.addr, kind := BitVec.ofNat 8 kind, seq := f.seq, body := f.body }

/-- The COMMAND frame of a row that names its command code. -/
def Cmd.frame (c : Cmd) (code : Byte) : Frame :=
  { addr := c.addr, kind := 6, seq := c.seq, body := [code, c.reserved] ++ put16 c.tag.toNat ++ c.fields }

/-! ### Zone-bus messages (Section 11.4) -/

/-- Append the 2-byte check of a zone-bus message. -/
def withCheck (bs : List Byte) : List Byte := bs ++ put16 (crc16 bs).toNat

/-- Whether a zone-bus message of this type byte stands in these bytes with a right check. -/
def checkOk (type : Nat) (bs : List Byte) : Bool :=
  decide (3 ≤ bs.length) && u8 bs 0 == type && u16 bs (bs.length - 2) == (crc16 (bs.take (bs.length - 2))).toNat

/-- A zone-bus message as it stands on the bus. -/
def zoneMsgBytes : ZoneMsg → List Byte
  | .control f => withCheck (put8 0 ++ put16 f.number.toNat ++ put8 (posNumber f.call) ++ putSet f.admitted ++
      f.light.toList.flatMap put16 ++ f.motion.toList.flatMap putI16)
  | .audio b => withCheck (put8 1 ++ putBool b.second ++ b.samples.flatMap putI16)

/-- A fixture's reply (R131): chain position, frame number answered and the positions carried. -/
structure ReplyMsg where
  pos : PosId
  number : Half
  positions : List Int
  deriving DecidableEq, Repr

/-- Read a reply; `none` when it is discarded as not received (R188): its check fails, its length disagrees with its
position count, or its chain position is none of 1..12. Section 11.4 gives the count as 0..4, and R188 does not name one
beyond it; that a reply with such a count is discarded as well is the model's choice (DESIGN CHOICE, log entry 49). -/
def parseReply (bs : List Byte) : Option ReplyMsg :=
  let n := u8 bs 4
  if h : 1 ≤ u8 bs 1 ∧ u8 bs 1 ≤ 12 then
    if checkOk 2 bs ∧ n ≤ 4 ∧ bs.length = 5 + 2 * n + 2 then
      some ⟨⟨u8 bs 1 - 1, by omega⟩, BitVec.ofNat 16 (u16 bs 2), samplesAt bs 5 2 n⟩
    else none
  else none

/-- Read an announcement; `none` when it is discarded: its check fails or its length disagrees with its position count
(R188), or its chain position is none of 1..12 and it cannot be filed (R133; log entry 49). -/
def parseAnnouncement (bs : List Byte) : Option (PosId × Announce) :=
  let n := u8 bs 15
  if h : 1 ≤ u8 bs 1 ∧ u8 bs 1 ≤ 12 then
    if checkOk 3 bs ∧ bs.length = 16 + 2 * n + 2 then
      some (⟨u8 bs 1 - 1, by omega⟩,
        { serial := u32 bs 2, maker := u16 bs 6, model := u16 bs 8, revision := u16 bs 10, cls := u8 bs 12,
          start := u8 bs 13, count := u8 bs 14, positions := samplesAt bs 16 2 n })
    else none
  else none

end Sys2Proof.Machine
end

