-- ==== Sys2Proof/Decode.lean ====
section
/-! DEFINITION. The table gives no row any bits, so no word spells a command. What does spell one is the bytes of a frame
received at IN or THRU: they are classified by R164 to R166, R176 and R188 into the row that names what they are. -/

namespace Sys2Proof

/-- The command a word of the table spells: no row of spec/opcode_table.json gives bits. -/
def decodeTableWord (_nbits _w : Nat) : Option Instr := none

/-- The row of a taken COMMAND frame that agrees with its layout: by its code, and for STOP-SCENE by its selector. -/
def commandRow (b : BeatIn) (code : Byte) (c : Cmd) : Instr :=
  match code.toNat with
  | 1 => .loadTable c
  | 2 => .readTable c
  | 3 => .readStatus c
  | 4 => .readCensus c
  | 5 => .censusSweep c
  | 6 => .setTime c
  | 7 => .readTime c
  | 8 => .setTrim c
  | 9 => .setBeatSource c b
  | 10 => .setHouseMode c b.flagsFirst
  | 11 => .startScene c
  | 12 => if c.fields.length = 2 ∧ Machine.u8 c.fields 0 = 1 then .stopSceneBySlot c else .stopSceneByScene c
  | 13 => .stopShow c
  | 14 => .resumeShow c
  | 15 => .setFlags c
  | 16 => .clearFlags c
  | 17 => .readFlags c
  | 18 => .fireTrigger c
  | 19 => .clearNotices c
  | 20 => .reset c b.stopActive
  | _ => .unknownCommand code c

/-- A frame's fields without its kind. -/
def rxOf (f : Frame) : Rx := { addr := f.addr, seq := f.seq, body := f.body }

/-- A COMMAND frame's fields without its code. -/
def cmdOf (f : Frame) : Cmd :=
  { addr := f.addr, seq := f.seq, reserved := Machine.byteAt f.body 1, tag := BitVec.ofNat 16 (Machine.u16 f.body 2),
    fields := f.body.drop 4 }

/-- The row of a taken frame that agrees with its layout, by its kind. -/
def takenRow (b : BeatIn) (f : Frame) : Instr :=
  match f.kind.toNat with
  | 1 => .syncFrame (rxOf f) b
  | 2 => .lightFrame (rxOf f)
  | 3 => .soundFrame (rxOf f)
  | 4 => .motionFrame (rxOf f)
  | 5 => .triggerFrame (rxOf f)
  | 6 => commandRow b (Machine.byteAt f.body 0) (cmdOf f)
  | _ => .formatFault f

/-- The row that the bytes received at a side are, for a unit of this address; `b` is what a beat or a pin level that
the row needs would bring. -/
def decodeReceived (own : BitVec 4) (b : BeatIn) (side : Side) (bytes : List Byte) : Instr :=
  match Machine.judgeBytes bytes with
  | .error _ => .badFrame side bytes
  | .ok f =>
    match side with
    | .thruSide => .thruFrame f
    | .inSide =>
      if Machine.isBroadcast f.addr ∨ f.addr = own.zeroExtend 8 then
        if Machine.agrees f then takenRow b f else .formatFault f
      else .downstreamFramePassedOn f

end Sys2Proof
end

