-- ==== Sys2Proof/Machine/Tables.lean ====
section
/-! DEFINITION. The table store's records (Chapter 10, Section 11.5): reading a record of each table from its bytes with
the checks its rule makes, writing it back as READ-TABLE sends it, the checks of a load against the other tables
(R4, R30), the IN-USE rule (R183) and the look pool (R69). -/

namespace Sys2Proof.Machine

/-! ### Readers of single fields, each refusing a value outside its range -/

/-- A yes/no byte. -/
def readBool (n : Nat) : Option Bool := if n = 0 then some false else if n = 1 then some true else none

/-- A number within lo..hi. -/
def readNat (lo hi n : Nat) : Option Nat := if lo ≤ n ∧ n ≤ hi then some n else none

/-- A number within lo..hi. -/
def readInt (lo hi n : Int) : Option Int := if lo ≤ n ∧ n ≤ hi then some n else none

/-- An index below `k`. -/
def readFin (k n : Nat) : Option (Fin k) := if h : n < k then some ⟨n, h⟩ else none

/-- An optional index below `k`: 255 is absent (R187). -/
def readOptFin (k n : Nat) : Option (Option (Fin k)) := if n = 255 then some none else (readFin k n).map some

/-- Succeed when a check holds. -/
def check (b : Bool) : Option Unit := if b then some () else none

/-- Positions strictly increase along a list. -/
def strictlyUp : List Nat → Bool
  | [] => true
  | [_] => true
  | a :: b :: rest => decide (a < b) && strictlyUp (b :: rest)

/-- The house mode of a choice byte (R161: OPEN, CLOSED, SERVICE). -/
def readMode : Nat → Option HouseMode
  | 0 => some .opened
  | 1 => some .closed
  | 2 => some .service
  | _ => none

/-- The choice byte of a house mode. -/
def modeByte : HouseMode → Nat
  | .opened => 0
  | .closed => 1
  | .service => 2

/-- The class of a choice byte (R133: LIGHT, MOTION, SOUND). -/
def readClass : Nat → Option FixClass
  | 0 => some .light
  | 1 => some .motion
  | 2 => some .sound
  | _ => none

/-- The choice byte of a class. -/
def classByte : FixClass → Nat
  | .light => 0
  | .motion => 1
  | .sound => 2

/-! ### The fixed-length tables -/

/-- UNIT record (R185). -/
def parseUnit (b : List Byte) : Option UnitRec := do
  check (b.length == 13)
  let buttonStuck ← readNat 100 6000 (u16 b 0)
  let presenceStuck ← readNat 6000 360000 (u32 b 2)
  let linger ← readNat 0 2550 (u16 b 6)
  let staleLimit ← readNat 2 50 (u8 b 8)
  let statusInterval ← readNat 10 1000 (u16 b 9)
  let autoClear ← readBool (u8 b 11)
  let openClears ← readBool (u8 b 12)
  return { buttonStuck, presenceStuck, linger, staleLimit, statusInterval, autoClear, openClears }

/-- ROUTE record (R91). -/
def parseRoute (b : List Byte) : Option RouteRec := do
  check (b.length == 184)
  check ((List.range 8).all fun k => decide (u8 b k ≤ 1))
  check ((List.range 64).all fun k => decide (u16 b (8 + 2 * k) ≤ 4096))
  check ((List.range 8).all fun o => decide (u16 b (136 + 2 * o) ≤ 4096))
  check ((List.range 16).all fun o => decide (1 ≤ u16 b (152 + 2 * o) ∧ u16 b (152 + 2 * o) ≤ 4096))
  return {
    ambient := BitVec.ofNat 8 (((List.range 8).map fun k => u8 b k * 2 ^ k).sum)
    bed := Vector.ofFn fun k : Fin 64 => u16 b (8 + 2 * k)
    depth := Vector.ofFn fun o : Fin 8 => u16 b (136 + 2 * o)
    attack := Vector.ofFn fun o : Fin 8 => u16 b (152 + 2 * o)
    release := Vector.ofFn fun o : Fin 8 => u16 b (168 + 2 * o) }

/-- CEIL entry (R83). -/
def parseCeil (b : List Byte) : Option Nat := do
  check (b.length == 2)
  readNat 0 65534 (u16 b 0)

/-- ADMT entry (R134). -/
def parseAdmt (b : List Byte) : Option AdmtRec := do
  check (b.length == 8)
  let cls ← readClass (u8 b 6)
  check (decide (u8 b 7 < 16))
  return { maker := u16 b 0, model := u16 b 2, revision := u16 b 4, cls, matchSet := setAt 4 b 7 1 }

/-- ENV record (R109). -/
def parseEnv (b : List Byte) : Option EnvRec := do
  check (b.length == 17)
  let enable ← readBool (u8 b 0)
  let min ← readInt (-32767) 32767 (i16 b 1)
  let max ← readInt (-32767) 32767 (i16 b 3)
  check (decide (min < max))
  let vmax ← readNat 1 4096 (u16 b 5)
  let amax ← readNat 1 1024 (u16 b 7)
  check (decide (u8 b 9 < 16))
  let park ← readBool (u8 b 10)
  let parkPos ← readInt min max (i16 b 11)
  let vguard ← readNat 0 vmax (u16 b 13)
  let rearm ← readNat 0 6000 (u16 b 15)
  return { enable, min, max, vmax, amax, guardZones := setAt 4 b 9 1, park, parkPos, vguard, rearm }

/-- LOOK record (R69): 1..256 pairs, channels strictly increasing, no level of 65535. -/
def parseLook (b : List Byte) : Option LookRec := do
  let n := u16 b 0
  check (decide (2 ≤ b.length) && b.length == 2 + 4 * n)
  check (decide (1 ≤ n ∧ n ≤ 256))
  let pairs := (List.range n).map fun k => (u16 b (2 + 4 * k), u16 b (4 + 4 * k))
  check (pairs.all fun q => decide (q.1 < 768 ∧ q.2 ≤ 65534))
  check (strictlyUp (pairs.map (·.1)))
  return { pairs }

/-- FX record (R72). -/
def parseFx (b : List Byte) : Option FxRec := do
  check (b.length == 30)
  let period ← readNat 2 400 (u16 b 0)
  let startLow ← readBool (u8 b 2)
  let hush ← readBool (u8 b 3)
  let evenCount ← readNat 0 6 (u8 b 4)
  let oddCount ← readNat 0 6 (u8 b 17)
  let even := (List.range 6).map fun k => u16 b (5 + 2 * k)
  let odd := (List.range 6).map fun k => u16 b (18 + 2 * k)
  check ((even.take evenCount).all fun p => decide (1 ≤ p ∧ p < period))
  check ((odd.take oddCount).all fun p => decide (1 ≤ p ∧ p < period))
  check (strictlyUp (even.take evenCount))
  check (strictlyUp (odd.take oddCount))
  return { period, startLow, hush, evenCount, even, oddCount, odd }

/-- The role of a choice byte (R24). -/
def readRole : Nat → Option Role
  | 0 => some .unused
  | 1 => some .button
  | 2 => some .presence
  | 3 => some .beam
  | _ => none

/-- The choice byte of a role. -/
def roleByte : Role → Nat
  | .unused => 0
  | .button => 1
  | .presence => 2
  | .beam => 3

/-- Whether every field a role uses lies in its range (R24); a field it does not use is ignored. -/
def lineFieldsOk (r : LineRec) : Bool :=
  match r.role with
  | .unused => true
  | .button => decide (r.activeLow ≤ 1 ∧ 1 ≤ r.debounce ∧ r.debounce ≤ 20 ∧ r.lockout ≤ 6000)
  | .presence => decide (r.zone ≤ 3 ∧ r.activeLow ≤ 1 ∧ 1 ≤ r.debounce ∧ r.debounce ≤ 20)
  | .beam => decide (r.zone ≤ 3 ∧ r.activeLow ≤ 1 ∧ 1 ≤ r.debounce ∧ r.debounce ≤ 20 ∧ r.trigOnBreak ≤ 1)

/-- LINE record (R24). -/
def parseLine (b : List Byte) : Option LineRec := do
  check (b.length == 7)
  let role ← readRole (u8 b 0)
  let r : LineRec :=
    { role, zone := u8 b 1, activeLow := u8 b 2, debounce := u8 b 3, lockout := u16 b 4, trigOnBreak := u8 b 6 }
  check (lineFieldsOk r)
  return r

/-- The behaviour of a choice byte (R30). -/
def readBehaviour : Nat → Option Behaviour
  | 0 => some .ignore
  | 1 => some .restart
  | 2 => some .stop
  | _ => none

/-- The choice byte of a behaviour. -/
def behaviourByte : Behaviour → Nat
  | .ignore => 0
  | .restart => 1
  | .stop => 2

/-- TRIG entry (R30), but for the shared indicator channel, which reads the whole table. That the channel bytes of an entry
without an indicator are not checked for range is the model's choice (DESIGN CHOICE, log entry 55). -/
def parseTrig (b : List Byte) : Option TrigRec := do
  check (b.length == 12)
  let scene ← readFin 48 (u8 b 0)
  let alternate ← readOptFin 48 (u8 b 1)
  check (alternate != some scene)
  let behaviour ← readBehaviour (u8 b 2)
  let hasIndicator ← readBool (u8 b 3)
  check (!hasIndicator || decide (u16 b 4 < 768))
  return { scene, alternate, behaviour, hasIndicator, channel := u16 b 4, ready := u16 b 6, busy := u16 b 8,
           dark := u16 b 10 }

/-- The action of an alarm's kind and argument bytes (R158, Section 11.5: the argument of CLEAR-FLAGS is 0). -/
def readAction (kind arg : Nat) : Option AlarmAction :=
  match kind with
  | 0 => (readFin 48 arg).map .enqueue
  | 1 => (readMode arg).map .setMode
  | 2 => (readFin 32 arg).map .setFlag
  | 3 => if arg = 0 then some .clearFlags else none
  | _ => none

/-- The kind and argument bytes of an alarm action. -/
def actionBytes : AlarmAction → List Byte
  | .enqueue s => put8 0 ++ put8 s.val
  | .setMode m => put8 1 ++ put8 (modeByte m)
  | .setFlag f => put8 2 ++ put8 f.val
  | .clearFlags => put8 3 ++ put8 0

/-- ALRM record (R158): a disabled field is checked for range as well; at least one of the six is enabled. -/
def parseAlrm (b : List Byte) : Option AlrmRec := do
  check (b.length == 10)
  let second ← readNat 0 59 (u8 b 0)
  let minute ← readNat 0 59 (u8 b 1)
  let hour ← readNat 0 23 (u8 b 2)
  let weekday ← readNat 0 6 (u8 b 3)
  let day ← readNat 1 31 (u8 b 4)
  let month ← readNat 1 12 (u8 b 5)
  check (decide (1 ≤ u8 b 6 ∧ u8 b 6 < 64))
  let repeatMode ← readBool (u8 b 7)
  let action ← readAction (u8 b 8) (u8 b 9)
  return { second, minute, hour, weekday, day, month, enables := setAt 6 b 6 1, once := !repeatMode, action }

/-! ### The SCN table (R2, R3, R4) -/

/-- The test of a kind and argument byte (Section 11.5). -/
def readTestKind (kind arg : Nat) : Option TestKind :=
  match kind with
  | 0 => (readFin 32 arg).map .flagSet
  | 1 => (readFin 32 arg).map .flagClear
  | 2 => (readFin 4 arg).map .zoneOccupied
  | 3 => (readFin 4 arg).map .zoneClear
  | 4 => (readMode arg).map .mode
  | 5 => (readFin 48 arg).map .sceneIdle
  | _ => none

/-- The kind and argument bytes of a test. -/
def testKindBytes : TestKind → List Byte
  | .flagSet f => put8 0 ++ put8 f.val
  | .flagClear f => put8 1 ++ put8 f.val
  | .zoneOccupied z => put8 2 ++ put8 z.val
  | .zoneClear z => put8 3 ++ put8 z.val
  | .mode m => put8 4 ++ put8 (modeByte m)
  | .sceneIdle s => put8 5 ++ put8 s.val

/-- `n` tests of 3 bytes each and the bytes after them. -/
def parseTests : Nat → List Byte → Option (List Test × List Byte)
  | 0, b => some ([], b)
  | n + 1, b => do
    check (decide (3 ≤ b.length))
    let kind ← readTestKind (u8 b 0) (u8 b 1)
    let orComb ← readBool (u8 b 2)
    let (ts, rest) ← parseTests n (b.drop 3)
    return (⟨kind, orComb⟩ :: ts, rest)

/-- A look part, if the parts byte names it. -/
def parseLookPart (here : Bool) (b : List Byte) : Option (Option (Fin 64 × Nat) × List Byte) :=
  if here then do
    check (decide (3 ≤ b.length))
    let look ← readFin 64 (u8 b 0)
    let fade ← readNat 0 6000 (u16 b 1)
    return (some (look, fade), b.drop 3)
  else some (none, b)

/-- An effect part inside the claimed groups, if the parts byte names it. -/
def parseEffectPart (cl : Claims) (here : Bool) (b : List Byte) : Option (Option EffectPart × List Byte) :=
  if here then do
    check (decide (9 ≤ b.length))
    let pattern ← readFin 16 (u8 b 0)
    let depth ← readNat 0 256 (u16 b 1)
    let targets : BitVec 48 := setAt 48 b 3 6
    check (targets &&& ~~~cl.groups == 0)
    return (some { pattern, depth, targets }, b.drop 9)
  else some (none, b)

/-- A cue part inside the claimed streams and outputs, if the parts byte names it. -/
def parseCuePart (cl : Claims) (here : Bool) (b : List Byte) : Option (Option CuePart × List Byte) :=
  if here then do
    check (decide (8 ≤ b.length))
    let stream ← readFin 8 (u8 b 0)
    check (cl.streams.getLsbD stream)
    let clip ← readNat 1 4095 (u16 b 1)
    let outputs : BitVec 8 := setAt 8 b 3 1
    check (outputs != 0 && outputs &&& ~~~cl.outputs == 0)
    let gain ← readNat 0 4096 (u16 b 4)
    let wait ← readNat 1 1000 (u16 b 6)
    return (some { stream, clip, outputs, gain, wait }, b.drop 8)
  else some (none, b)

/-- `n` keyframe entries inside the claimed axes and the bytes after them. -/
def parseKeys (cl : Claims) : Nat → List Byte → Option (List KeyEntry × List Byte)
  | 0, b => some ([], b)
  | n + 1, b => do
    check (decide (5 ≤ b.length))
    let axis ← readFin 32 (u8 b 0)
    check (cl.axes.getLsbD axis)
    let target ← readInt (-32767) 32767 (i16 b 1)
    let travel ← readNat 0 6000 (u16 b 3)
    let (ks, rest) ← parseKeys cl n (b.drop 5)
    check (ks.all fun k => k.axis != axis)
    return ({ axis, target, travel } :: ks, rest)

/-- A keyframe part of 1..4 entries, no axis twice, if the parts byte names it. -/
def parseKeyPart (cl : Claims) (here : Bool) (b : List Byte) : Option (Option (List KeyEntry) × List Byte) :=
  if here then do
    check (decide (1 ≤ b.length ∧ 1 ≤ u8 b 0 ∧ u8 b 0 ≤ 4))
    let (ks, rest) ← parseKeys cl (u8 b 0) (b.drop 1)
    return (some ks, rest)
  else some (none, b)

/-- A flag action (SET 0, CLEAR 1), if the parts byte names it. -/
def parseFlagPart (here : Bool) (b : List Byte) : Option (Option (Bool × Fin 32) × List Byte) :=
  if here then do
    check (decide (2 ≤ b.length))
    let clear ← readBool (u8 b 0)
    let flag ← readFin 32 (u8 b 1)
    return (some (!clear, flag), b.drop 2)
  else some (none, b)

/-- One segment (R3) and the bytes after it. -/
def parseSegment (cl : Claims) (b : List Byte) : Option (Segment × List Byte) := do
  check (decide (3 ≤ b.length ∧ u8 b 2 < 32))
  let start ← readNat 0 65534 (u16 b 0)
  let parts := byteAt b 2
  let (look, b) ← parseLookPart (parts.getLsbD 0) (b.drop 3)
  let (effect, b) ← parseEffectPart cl (parts.getLsbD 1) b
  let (cue, b) ← parseCuePart cl (parts.getLsbD 2) b
  let (keys, b) ← parseKeyPart cl (parts.getLsbD 3) b
  let (flag, b) ← parseFlagPart (parts.getLsbD 4) b
  return ({ start, look, effect, cue, keys, flag }, b)

/-- `n` segments and the bytes after them. -/
def parseSegments (cl : Claims) : Nat → List Byte → Option (List Segment × List Byte)
  | 0, b => some ([], b)
  | n + 1, b => do
    let (g, b) ← parseSegment cl b
    let (gs, b) ← parseSegments cl n b
    return (g :: gs, b)

/-- SCN record (R2 to R4), but for check 4 of R4, which reads the ROUTE table. -/
def parseScene (b : List Byte) : Option SceneRec := do
  check (decide (25 ≤ b.length))
  let priority ← readNat 0 7 (u8 b 0)
  let home ← readFin 4 (u8 b 1)
  check (decide (u8 b 2 < 16))
  let opts := byteAt b 2
  let maxWait ← readNat 0 6000 (u16 b 4)
  let length ← readNat 1 65535 (u16 b 6)
  let releaseFade ← readNat 0 6000 (u16 b 8)
  let next ← readOptFin 48 (u8 b 10)
  let claims : Claims :=
    { groups := setAt 48 b 11 6, streams := setAt 8 b 17 1, outputs := setAt 8 b 18 1, axes := setAt 32 b 19 4 }
  let nt ← readNat 0 4 (u8 b 23)
  let ns ← readNat 1 16 (u8 b 24)
  let (tests, rest) ← parseTests nt (b.drop 25)
  let (segments, rest) ← parseSegments claims ns rest
  check rest.isEmpty
  let starts := segments.map (·.start)
  check (starts.head? == some 0 && strictlyUp starts && starts.all fun x => decide (x < length))
  return { priority, home, mayPreempt := opts.getLsbD 0, yieldable := opts.getLsbD 1, abandonOnClear := opts.getLsbD 2,
           requireMotion := opts.getLsbD 3, repeats := u8 b 3, maxWait, length, releaseFade, next, claims, tests, segments }

/-! ### Records as READ-TABLE sends them -/

/-- Contents of a segment record. -/
def segmentBytes (g : Segment) : List Byte :=
  put16 g.start ++
  put8 ((if g.look.isSome then 1 else 0) + (if g.effect.isSome then 2 else 0) + (if g.cue.isSome then 4 else 0) +
    (if g.keys.isSome then 8 else 0) + (if g.flag.isSome then 16 else 0)) ++
  (match g.look with | some (i, f) => put8 i.val ++ put16 f | none => []) ++
  (match g.effect with | some e => put8 e.pattern.val ++ put16 e.depth ++ putSet e.targets | none => []) ++
  (match g.cue with
    | some c => put8 c.stream.val ++ put16 c.clip ++ putSet c.outputs ++ put16 c.gain ++ put16 c.wait | none => []) ++
  (match g.keys with
    | some ks => put8 ks.length ++ ks.flatMap fun k => put8 k.axis.val ++ putI16 k.target ++ put16 k.travel
    | none => []) ++
  (match g.flag with | some (set, f) => putBool (!set) ++ put8 f.val | none => [])

/-- Contents of a scene record. -/
def sceneBytes (r : SceneRec) : List Byte :=
  put8 r.priority ++ put8 r.home.val ++
  put8 ((if r.mayPreempt then 1 else 0) + (if r.yieldable then 2 else 0) + (if r.abandonOnClear then 4 else 0) +
    (if r.requireMotion then 8 else 0)) ++
  put8 r.repeats ++ put16 r.maxWait ++ put16 r.length ++ put16 r.releaseFade ++ putOpt r.next ++
  putSet r.claims.groups ++ putSet r.claims.streams ++ putSet r.claims.outputs ++ putSet r.claims.axes ++
  put8 r.tests.length ++ put8 r.segments.length ++
  (r.tests.flatMap fun t => testKindBytes t.kind ++ putBool t.orComb) ++ r.segments.flatMap segmentBytes

/-- Contents of an FX record. -/
def fxBytes (r : FxRec) : List Byte :=
  put16 r.period ++ putBool r.startLow ++ putBool r.hush ++ put8 r.evenCount ++ r.even.flatMap put16 ++
  put8 r.oddCount ++ r.odd.flatMap put16

/-- Contents of a ROUTE record. -/
def routeBytes (r : RouteRec) : List Byte :=
  ((List.range 8).flatMap fun k => putBool (r.ambient.getLsbD k)) ++ r.bed.toList.flatMap put16 ++
  r.depth.toList.flatMap put16 ++ r.attack.toList.flatMap put16 ++ r.release.toList.flatMap put16

/-- Contents of a record; the empty form has none. -/
def recContents : TableRec → List Byte
  | .unit r => put16 r.buttonStuck ++ put32 r.presenceStuck ++ put16 r.linger ++ put8 r.staleLimit ++
      put16 r.statusInterval ++ putBool r.autoClear ++ putBool r.openClears
  | .route r => routeBytes r
  | .ceil n => put16 n
  | .admt (some r) => put16 r.maker ++ put16 r.model ++ put16 r.revision ++ put8 (classByte r.cls) ++ putSet r.matchSet
  | .env r => putBool r.enable ++ putI16 r.min ++ putI16 r.max ++ put16 r.vmax ++ put16 r.amax ++ putSet r.guardZones ++
      putBool r.park ++ putI16 r.parkPos ++ put16 r.vguard ++ put16 r.rearm
  | .look (some r) => put16 r.pairs.length ++ r.pairs.flatMap fun q => put16 q.1 ++ put16 q.2
  | .fx (some r) => fxBytes r
  | .scn (some r) => sceneBytes r
  | .line r => put8 (roleByte r.role) ++ put8 r.zone ++ put8 r.activeLow ++ put8 r.debounce ++ put16 r.lockout ++
      put8 r.trigOnBreak
  | .trig (some r) => put8 r.scene.val ++ putOpt r.alternate ++ put8 (behaviourByte r.behaviour) ++
      putBool r.hasIndicator ++ put16 r.channel ++ put16 r.ready ++ put16 r.busy ++ put16 r.dark
  | .alrm (some r) => put8 r.second ++ put8 r.minute ++ put8 r.hour ++ put8 r.weekday ++ put8 r.day ++ put8 r.month ++
      putSet r.enables ++ putBool (!r.once) ++ actionBytes r.action
  | .admt none => []
  | .look none => []
  | .fx none => []
  | .scn none => []
  | .trig none => []
  | .alrm none => []

/-- A record with its 2-byte record length (Section 11.5). -/
def recBytes (r : TableRec) : List Byte := put16 (recContents r).length ++ recContents r

/-! ### The store (R180) -/

/-- Capacity of a table id 1..11; `none` for an id that names no table. -/
def tableCapacity : Nat → Option Nat
  | 1 => some 1
  | 2 => some 1
  | 3 => some 768
  | 4 => some 40
  | 5 => some 32
  | 6 => some 64
  | 7 => some 16
  | 8 => some 48
  | 9 => some 16
  | 10 => some 32
  | 11 => some 8
  | _ => none

/-- Read one record of a table from its contents; an empty contents is the empty form, where the table has one. -/
def parseRec (table : Nat) (b : List Byte) : Option TableRec :=
  match table with
  | 1 => (parseUnit b).map .unit
  | 2 => (parseRoute b).map .route
  | 3 => (parseCeil b).map .ceil
  | 4 => if b.isEmpty then some (.admt none) else (parseAdmt b).map fun r => .admt (some r)
  | 5 => (parseEnv b).map .env
  | 6 => if b.isEmpty then some (.look none) else (parseLook b).map fun r => .look (some r)
  | 7 => if b.isEmpty then some (.fx none) else (parseFx b).map fun r => .fx (some r)
  | 8 => if b.isEmpty then some (.scn none) else (parseScene b).map fun r => .scn (some r)
  | 9 => (parseLine b).map .line
  | 10 => if b.isEmpty then some (.trig none) else (parseTrig b).map fun r => .trig (some r)
  | 11 => if b.isEmpty then some (.alrm none) else (parseAlrm b).map fun r => .alrm (some r)
  | _ => none

/-- Write one record into the store; an index beyond the table writes nothing. -/
def writeRec (t : Tables) (i : Nat) : TableRec → Tables
  | .unit r => { t with unit := r }
  | .route r => { t with route := r }
  | .ceil n => { t with ceil := t.ceil.setIfInBounds i n }
  | .admt r => { t with admt := t.admt.setIfInBounds i r }
  | .env r => { t with env := t.env.setIfInBounds i r }
  | .look r => { t with look := t.look.setIfInBounds i r }
  | .fx r => { t with fx := t.fx.setIfInBounds i r }
  | .scn r => { t with scn := t.scn.setIfInBounds i r }
  | .line r => { t with line := t.line.setIfInBounds i r }
  | .trig r => { t with trig := t.trig.setIfInBounds i r }
  | .alrm r => { t with alrm := t.alrm.setIfInBounds i r }

/-- Write consecutive records from an index on. -/
def writeRecs (t : Tables) (i : Nat) : List TableRec → Tables
  | [] => t
  | r :: rs => writeRecs (writeRec t i r) (i + 1) rs

/-- The record of a table at an index, as loaded (R184); `none` beyond the table. -/
def readRec (t : Tables) (table i : Nat) : Option TableRec :=
  match table with
  | 1 => if i = 0 then some (.unit t.unit) else none
  | 2 => if i = 0 then some (.route t.route) else none
  | 3 => t.ceil[i]?.map .ceil
  | 4 => t.admt[i]?.map .admt
  | 5 => t.env[i]?.map .env
  | 6 => t.look[i]?.map .look
  | 7 => t.fx[i]?.map .fx
  | 8 => t.scn[i]?.map .scn
  | 9 => t.line[i]?.map .line
  | 10 => t.trig[i]?.map .trig
  | 11 => t.alrm[i]?.map .alrm
  | _ => none

/-! ### Checks of a load (R181, R182) -/

/-- Whether an entry of the trigger table that stands before index `i` names the same indicator channel (R30). -/
def indicatorShared (t : Tables) (i : Nat) (r : TrigRec) : Bool :=
  r.hasIndicator && (List.finRange 32).any fun j =>
    decide (j.val < i) && match t.trig[j] with
      | some q => q.hasIndicator && q.channel == r.channel
      | none => false

/-- The checks of a record that read other state (R4 check 4, R30), against the tables as the load's earlier records
leave them. -/
def recFits (t : Tables) (i : Nat) : TableRec → Bool
  | .scn (some r) => r.claims.streams &&& t.route.ambient == 0
  | .trig (some r) => !indicatorShared t i r
  | _ => true

/-- Check 4 of R181 over the records from index `i` on: `n` records are read from the data in order, and the index of
the first that fails is answered. -/
def checkRecs (table : Nat) (t : Tables) (i : Nat) : Nat → List Byte → Except Nat (List TableRec)
  | 0, data => if data.isEmpty then .ok [] else .error i
  | n + 1, data =>
    let len := u16 data 0
    if data.length < 2 + len then .error i
    else match parseRec table ((data.drop 2).take len) with
      | none => .error i
      | some r =>
        if recFits t i r then
          match checkRecs table (writeRec t i r) (i + 1) n (data.drop (2 + len)) with
          | .ok rs => .ok (r :: rs)
          | .error j => .error j
        else .error i

/-- The first trigger entry from index `i` on that names an indicator channel an earlier entry names (R30: the check
covers every entry that the load leaves in the table). -/
def sharedAfter (t : Tables) (i : Nat) : Option Nat :=
  ((List.finRange 32).find? fun j => decide (i ≤ j.val) && match t.trig[j] with
    | some r => indicatorShared t j r
    | none => false).map (·.val)

/-- Check 4 of R181 over a whole load. -/
def checkLoad (table : Nat) (t : Tables) (first count : Nat) (data : List Byte) : Except Nat (List TableRec) :=
  match checkRecs table t first count data with
  | .error i => .error i
  | .ok rs =>
    if table = 10 then
      match sharedAfter (writeRecs t first rs) (first + count) with
      | some j => .error j
      | none => .ok rs
    else .ok rs

/-- Pairs of the look pool in use (R69, R89). -/
def pairsInUse (t : Tables) : Nat := (t.look.toList.map fun r => match r with | some l => l.pairs.length | none => 0).sum

end Sys2Proof.Machine
end

