-- ==== Sys2Proof/Machine/Ops.lean ====
section
/-! DEFINITION. Operations shared by every block: asking for a STATUS and queueing a report (R171, R172), reading the
tables and the claim table, and updating one element of a vector. -/

namespace Sys2Proof.Machine

/-- Change one element of a vector. -/
def modifyAt {α : Type} {n : Nat} (v : Vector α n) (i : Fin n) (f : α → α) : Vector α n := v.set i (f v[i])

/-- Do something once for each index, in index order. -/
def forEach {α : Type} (n : Nat) (f : Fin n → α → α) (a : α) : α := (List.finRange n).foldl (fun a i => f i a) a

/-! ### The own-report queue -/

/-- Whether a report is a STATUS. -/
def Report.isStatus : Report → Bool
  | .status => true
  | .cueStart _ => false
  | .cueCancel _ _ => false
  | .reply _ _ _ _ => false

/-- A STATUS is asked for (R172): nothing when one waits, the tail when there is room, the owed mark otherwise. -/
def Sli.askStatus (x : Sli) : Sli :=
  if x.ownQueue.any Report.isStatus then x
  else if x.ownQueue.length < Config.reportCap then { x with ownQueue := x.ownQueue ++ [.status] }
  else { x with owed := true }

/-- A STATUS is asked for. -/
def State.askStatus (s : State) : State := s.onSli Sli.askStatus

/-- A CUE or REPLY report joins the tail, or is dropped at a full queue with REPORT-OVERRUN raised (R171). -/
def Sli.join (r : Report) (x : Sli) : Sli :=
  if x.ownQueue.length < Config.reportCap then { x with ownQueue := x.ownQueue ++ [r] }
  else { x with reportOverrun := true }.askStatus

/-- A CUE or REPLY report joins the own-report queue, or is dropped. -/
def State.join (r : Report) (s : State) : State := s.onSli (Sli.join r)

/-- Whether a CUE or REPLY report handed now would join (R171). -/
def State.hasReportRoom (s : State) : Bool := decide (s.sli.ownQueue.length < Config.reportCap)

/-- A frame joins those waiting to be passed on at THRU, in the order its reception ended (R167). -/
def State.passOn (f : Frame) (s : State) : State := s.onSli fun x => { x with thruQueue := x.thruQueue ++ [f] }

/-- The place of a source among the 44 (R170). -/
def sourceIndex : SourceId → Fin 44
  | .light z => ⟨z.val, by omega⟩
  | .stream k => ⟨4 + k.val, by omega⟩
  | .setpoint a => ⟨12 + a.val, by omega⟩

/-- Whether a source is FRESH. -/
def State.isFresh (s : State) (src : SourceId) : Bool := s.sli.sources[sourceIndex src].fresh

/-- A taken frame carries a source: its age becomes 0 and it is FRESH (R170). -/
def State.refresh (src : SourceId) (s : State) : State :=
  s.onSli fun x => { x with sources := x.sources.set (sourceIndex src) { age := 0, fresh := true } }

/-! ### Reading the tables, the slots and the claim table -/

/-- The scene record under an index; `none` when it is EMPTY. -/
def State.scene (s : State) (i : SceneId) : Option SceneRec := s.mu.tables.scn[i]

/-- The play record of a slot; `none` when it is FREE. -/
def State.play (s : State) (k : SlotId) : Option PlayRec :=
  match s.seq.slots[k] with
  | .playing p => some p
  | .free _ _ => none

/-- The slot that plays a scene (R5); the lowest if there were several. -/
def State.playingSlot (s : State) (i : SceneId) : Option SlotId :=
  (List.finRange 8).find? fun k => match s.play k with
    | some p => p.scene == i
    | none => false

/-- A scene is playing while some PLAYING slot holds its index (R5). -/
def State.isPlaying (s : State) (i : SceneId) : Bool := (s.playingSlot i).isSome

/-- A scene is queued while the request queue holds a request for it. -/
def State.isQueued (s : State) (i : SceneId) : Bool := s.arb.queue.any fun r => r.scene == i

/-- A scene is playing or queued. -/
def State.isBusy (s : State) (i : SceneId) : Bool := s.isPlaying i || s.isQueued i

/-- The resource number of a group, stream, output or axis. -/
def groupRes (g : Fin 48) : ResourceId := ⟨g.val, by omega⟩
/-- The resource number of a stream. -/
def streamRes (k : StreamId) : ResourceId := ⟨48 + k.val, by omega⟩
/-- The resource number of an output. -/
def outputRes (o : OutputId) : ResourceId := ⟨56 + o.val, by omega⟩
/-- The resource number of an axis. -/
def axisRes (a : AxisId) : ResourceId := ⟨64 + a.val, by omega⟩

/-- A claim set as one set over the 96 resources. -/
def Claims.mask (c : Claims) : BitVec 96 := c.axes ++ c.outputs ++ c.streams ++ c.groups

/-- The slot that owns an axis (R49). -/
def State.axisOwner (s : State) (a : AxisId) : Option SlotId := s.arb.owners[axisRes a]

/-- Change a slot's play record; nothing when the slot is FREE. -/
def State.onPlay (k : SlotId) (f : PlayRec → PlayRec) (s : State) : State :=
  match s.play k with
  | some p => s.onSeq fun x => { x with slots := x.slots.set k (.playing (f p)) }
  | none => s

/-- Take the next free value's index (Config): the counter advances. -/
def State.nextFree (s : State) : State := { s with free := s.free + 1 }

/-- The zone a channel lies in (R65). -/
def channelZone (c : ChannelId) : ZoneId := ⟨c.val / 192, by omega⟩
/-- The group a channel lies in (R65). -/
def channelGroup (c : ChannelId) : Fin 48 := ⟨c.val / 16, by omega⟩
/-- The zone an axis lies in (R109). -/
def axisZone (a : AxisId) : ZoneId := ⟨a.val / 8, by omega⟩
/-- The global channel of a zone's local channel (R65). -/
def globalChannel (z : ZoneId) (i : Fin 192) : ChannelId := ⟨192 * z.val + i.val, by omega⟩
/-- The global axis of a zone's local axis. -/
def globalAxis (z : ZoneId) (i : Fin 8) : AxisId := ⟨8 * z.val + i.val, by omega⟩
/-- The global output of a zone's local output. -/
def globalOutput (z : ZoneId) (i : Fin 2) : OutputId := ⟨2 * z.val + i.val, by omega⟩

end Sys2Proof.Machine
end

