-- ==== Sys2Proof/Machine/Flags.lean ====
section
/-! DEFINITION. Flags and notices: the notices and what each raising does (R174), the story flags (R21), the degraded
marks of a slot (R16), and the set helpers they use. -/

namespace Sys2Proof.Machine

/-- A set with one member. -/
def single {w : Nat} (i : Fin w) : BitVec w := BitVec.ofFnLE fun j => j == i

/-- A set with a member added. -/
def withMember {w : Nat} (x : BitVec w) (i : Fin w) : BitVec w := x ||| single i

/-- A set with a member removed. -/
def withoutMember {w : Nat} (x : BitVec w) (i : Fin w) : BitVec w := x &&& ~~~(single i)

/-! ### Notices (R174): each raising is a new notice and asks for a STATUS -/

/-- Why a frame was dropped or discarded: the causes of LINK-ERROR, members 0..2. -/
inductive LinkCause where
  | length | crc | format
  deriving DecidableEq, Repr

/-- The member of a LINK-ERROR cause. -/
def LinkCause.member : LinkCause → Fin 3
  | .length => 0
  | .crc => 1
  | .format => 2

/-- The member of a side: IN 0, THRU 1. -/
def sideMember : Side → Fin 2
  | .inSide => 0
  | .thruSide => 1

/-- LINK-ERROR with its cause and side; the bad-frame count increases by 1 and wraps (R164, R166). -/
def State.linkError (c : LinkCause) (side : Side) (s : State) : State :=
  (s.onSli fun x => { x with
    linkError := true, linkCauses := withMember x.linkCauses c.member,
    linkSides := withMember x.linkSides (sideMember side), badFrames := x.badFrames + 1 }).askStatus

/-- THRU-OVERRUN (R168). -/
def State.raiseThruOverrun (s : State) : State := (s.onSli fun x => { x with thruOverrun := true }).askStatus

/-- QUEUE-FULL (R42). -/
def State.raiseQueueFull (s : State) : State := (s.onSli fun x => { x with queueFull := true }).askStatus

/-- LINE-STUCK with the line's number (R28, R29). -/
def State.raiseLineStuck (n : LineId) (s : State) : State :=
  (s.onSli fun x => { x with lineStuck := true, stuckLines := withMember x.stuckLines n }).askStatus

/-- ALARM with the alarm's number (R160). That its STATUS is asked for before the alarm's action is the model's choice
(DESIGN CHOICE, log entry 54). -/
def State.raiseAlarm (n : AlarmId) (s : State) : State :=
  (s.onSli fun x => { x with alarm := true, alarmNumbers := withMember x.alarmNumbers n }).askStatus

/-- POWER-FAULT of a zone (R146). -/
def State.raisePowerFault (z : ZoneId) (s : State) : State :=
  (s.onSli fun x => { x with powerFault := withMember x.powerFault z }).askStatus

/-- The latched notices in the order of Section 11.2 (CLEAR-NOTICES, members 0..6). -/
inductive Notice where
  | linkError | thruOverrun | reportOverrun | queueFull | lineStuck | alarm | powerFault
  deriving DecidableEq, Repr

/-- Clear named latched notices with what they carry; POWER-FAULT for the named zones (R174). -/
def Sli.clearNotices (set : BitVec 7) (zones : BitVec 4) (x : Sli) : Sli :=
  { x with
    linkError := x.linkError && !set.getLsbD 0
    linkCauses := if set.getLsbD 0 then 0 else x.linkCauses
    linkSides := if set.getLsbD 0 then 0 else x.linkSides
    thruOverrun := x.thruOverrun && !set.getLsbD 1
    reportOverrun := x.reportOverrun && !set.getLsbD 2
    queueFull := x.queueFull && !set.getLsbD 3
    lineStuck := x.lineStuck && !set.getLsbD 4
    stuckLines := if set.getLsbD 4 then 0 else x.stuckLines
    alarm := x.alarm && !set.getLsbD 5
    alarmNumbers := if set.getLsbD 5 then 0 else x.alarmNumbers
    powerFault := if set.getLsbD 6 then x.powerFault &&& ~~~zones else x.powerFault }

/-! ### Story flags (R21) -/

/-- Set every flag of a set; the others keep their values. -/
def State.setStoryFlags (m : BitVec 32) (s : State) : State := s.onSeq fun x => { x with flags := x.flags ||| m }

/-- Clear every flag of a set; the others keep their values. -/
def State.clearStoryFlags (m : BitVec 32) (s : State) : State := s.onSeq fun x => { x with flags := x.flags &&& ~~~m }

/-! ### Degraded marks (R16) -/

/-- The member of a degraded mark (Section 11.3). -/
def Mark.member : Mark → Fin 4
  | .lookMissing => 0
  | .cueFailed => 1
  | .cueLost => 2
  | .axisOffline => 3

/-- A PLAYING slot gains a degraded mark; a mark already present is not added twice. -/
def State.mark (k : SlotId) (m : Mark) (s : State) : State :=
  s.onPlay k fun p => { p with marks := withMember p.marks m.member }

end Sys2Proof.Machine
end

