-- ==== Sys2Proof/Machine/ZoneBus.lean ====
section
/-! DEFINITION. The downstream half of a zone port (Section 7.2): the parts of a control frame and its forming (R129),
calls and sweeps (R140, R141), the audio queue and the transmitter (R130). -/

namespace Sys2Proof.Machine

/-- A set over the 12 chain positions. -/
def posSet (f : PosId → Bool) : BitVec 12 := BitVec.ofFnLE f

/-- Whether a census record is ADMITTED. -/
def isAdmitted (r : Option CensusRec) : Bool :=
  match r with
  | some r => r.state == .admitted
  | none => false

/-- The positions whose record is ADMITTED (R129). -/
def Port.admittedSet (p : Port) : BitVec 12 := posSet fun i => isAdmitted p.census[i]

/-- The call a frame formed now carries: the next position while SWEEPING (R141), otherwise the lowest pending call or
none (R140). R129 has a frame carry the call of the one it replaces, which may be another: where a sweep has begun, or a
lower position has joined the pending calls, since that one was formed. That R140 and R141 decide then is the model's
choice (DESIGN CHOICE, log entry 63). -/
def Port.nextCall (p : Port) : Option PosId :=
  match p.sweep with
  | some q => some q
  | none => (List.finRange 12).find? fun i => p.calls.getLsbD i

/-- The frame formed from these parts (R129). -/
def Port.frameOf (p : Port) (light : Vector Nat 192) (motion : Vector Int 8) : CtrlFrame :=
  { number := p.frameNo, light, motion, call := p.nextCall, sweepCall := p.sweep.isSome, admitted := p.admittedSet }

/-- Form the control frame when both parts are fresh, replacing and counting a frame that still waits (R129). -/
def Port.form (p : Port) : Port :=
  match p.light, p.motion with
  | some l, some m =>
    if p.lightFresh && p.motionFresh then
      { p with
        waiting := some (p.frameOf l m)
        superseded := if p.waiting.isSome then p.superseded + 1 else p.superseded
        frameNo := p.frameNo + 1
        lightFresh := false, motionFresh := false, awaiting := false }
    else p
  | _, _ => p

/-- Step 3 of R148: form the frame when both parts are fresh; otherwise it is formed on the later arrival. -/
def Port.formStep (p : Port) : Port :=
  if p.lightFresh && p.motionFresh then p.form else { p with awaiting := true }

/-- The LCO hands the light part of a beat (R129). -/
def Port.takeLight (levels : Vector Nat 192) (p : Port) : Port :=
  let p := { p with light := some levels, lightFresh := true }
  if p.awaiting then p.form else p

/-- The MGT hands the motion part of a beat (R129). -/
def Port.takeMotion (positions : Vector Int 8) (p : Port) : Port :=
  let p := { p with motion := some positions, motionFresh := true }
  if p.awaiting then p.form else p

/-- An audio block joins the tail of the queue; at a full queue the oldest block is discarded first (R130). -/
def Port.takeBlock (b : AudioBlock) (p : Port) : Port :=
  if p.audio.length < Config.audioCap then { p with audio := p.audio ++ [b] }
  else { p with audio := p.audio.tail ++ [b], discarded := p.discarded + 1 }

/-- The sweep after a frame begins to be sent: its next position advances when the frame made that position's sweep
call, and after position 12 the sweep is IDLE (R141; log entry 17 for a sweep begun again in between). -/
def Port.sweepAfter (p : Port) (f : CtrlFrame) : Option PosId :=
  if f.sweepCall && f.call == p.sweep then
    match p.sweep with
    | some q => if h : q.val < 11 then some ⟨q.val + 1, by omega⟩ else none
    | none => none
  else p.sweep

/-- The pending calls after a frame begins to be sent: the called position leaves the set (R140). -/
def Port.callsAfter (p : Port) (f : CtrlFrame) : BitVec 12 :=
  match f.call with
  | some q => withoutMember p.calls q
  | none => p.calls

/-- A control frame begins to be sent: it is the last sent frame and its reply window opens (R130, R131). -/
def Port.sendFrame (f : CtrlFrame) (p : Port) : Port :=
  { p with
    sending := some (.control f), waiting := none, lastSent := some f.number
    window := some { number := f.number, call := f.call, received := 0, replies := Vector.replicate 12 [] }
    sweep := p.sweepAfter f, calls := p.callsAfter f }

/-- The transmitter's arbiter (R130): the oldest audio block, otherwise the waiting control frame, otherwise nothing. -/
def Port.transmit (p : Port) : Port :=
  match p.audio with
  | b :: rest => { p with audio := rest, sending := some (.audio b) }
  | [] =>
    match p.waiting with
    | some f => p.sendFrame f
    | none => { p with sending := none }

/-- A census sweep begins: next position 1, pending calls emptied (R141). A frame that waits keeps its call until it is
sent or replaced; that the frame which replaces it calls position 1, and not the position of its call (R129), is the
model's choice (DESIGN CHOICE, log entry 63). -/
def Port.beginSweep (p : Port) : Port := { p with sweep := some 0, calls := 0 }

end Sys2Proof.Machine
end

