-- ==== Sys2Proof/Machine/Light.lean ====
section
/-! DEFINITION. The Look Composer (Chapter 4): layers, captures, looks, effects, the arithmetic of a channel, the beat's
composition and its hand-over to the ports. -/

namespace Sys2Proof.Machine

/-! ### The layer stage -/

/-- Fade factor of a layer (R79). -/
def fadeFactor (p len : Nat) : Nat := if len = 0 then 65536 else p * 65536 / len

/-- Weighted mean of two levels, rounded to nearest with halves upward (R80). -/
def blend (a b f : Nat) : Nat := (b * f + a * (65536 - f) + 32768) / 65536

/-- The pre-effect level Y of a channel and whether it carries the stale mark (R80). -/
def preEffect (ch : Channel) : Nat × Bool :=
  let f := fadeFactor ch.layer.pos ch.layer.len
  match ch.layer.phase with
  | .idle => (ch.base, ch.stale)
  | .settled => (ch.layer.toLevel, false)
  | .fading => (blend ch.layer.fromLevel ch.layer.toLevel f, false)
  | .releasing => (blend ch.layer.fromLevel ch.base f, ch.stale && decide (0 < f))

/-- A captured level (R71): the pre-effect level, or the last-fresh level where it carries the stale mark. -/
def capture (ch : Channel) : Nat := if (preEffect ch).2 then ch.lastFresh else (preEffect ch).1

/-- Advance of a layer on a beat (R79). -/
def advanceLayer (l : Layer) : Layer :=
  match l.phase with
  | .fading => if l.pos < l.len then { l with pos := l.pos + 1 } else l
  | .releasing => if l.pos < l.len then { l with pos := l.pos + 1 } else l
  | .idle => l
  | .settled => l

/-- Completion of a fade that has reached its length (R79). R75 gives a to-level of BASE only while RELEASING, and R79
names phase and owner alone; that a layer whose release completes holds T 0, as it did while RELEASING, and keeps F, length
and position is the model's choice (DESIGN CHOICE, log entry 38). -/
def completeLayer (l : Layer) : Layer :=
  match l.phase with
  | .fading => if l.pos = l.len then { l with phase := .settled } else l
  | .releasing => if l.pos = l.len then { l with phase := .idle, owner := none } else l
  | .idle => l
  | .settled => l

/-! ### Layer rewrites -/

/-- A layer that fades from a captured level to a look's level under a slot (R70). -/
def lookLayer (k : SlotId) (level len : Nat) (ch : Channel) : Channel :=
  { ch with layer :=
    { owner := some k, phase := if 0 < len then .fading else .settled, fromLevel := capture ch, toLevel := level,
      len, pos := 0 } }

/-- A layer released toward its base level (R76): IDLE at once when the release fade is 0. The rule gives such a layer
its phase and owner only; F, T, length and position 0 are the model's choice (DESIGN CHOICE, log entry 38). -/
def releaseLayer (fade : Nat) (ch : Channel) : Channel :=
  if fade = 0 then { ch with layer := {} }
  else { ch with layer :=
    { owner := none, phase := .releasing, fromLevel := capture ch, toLevel := 0, len := fade, pos := 0 } }

/-- A layer held at its captured level under a new owner (R78); an IDLE layer stays IDLE. -/
def holdLayer (k : SlotId) (ch : Channel) : Channel :=
  if ch.layer.phase = .idle then ch
  else { ch with layer :=
    { owner := some k, phase := .settled, fromLevel := capture ch, toLevel := capture ch, len := 0, pos := 0 } }

/-- Rewrite every channel from itself and its number. -/
def Lco.mapChannels (f : ChannelId → Channel → Channel) (x : Lco) : Lco :=
  { x with channels := Vector.ofFn fun c => f c x.channels[c] }

/-- One pair of a look: rewritten when its channel lies in a held group, skipped otherwise (R70). -/
def Lco.lookPair (k : SlotId) (groups : BitVec 48) (len : Nat) (x : Lco) (q : Nat × Nat) : Lco :=
  if h : q.1 < 768 then
    if groups.getLsbD (q.1 / 16) then
      { x with channels := modifyAt x.channels ⟨q.1, h⟩ (lookLayer k q.2 len) }
    else x
  else x

/-- A look part, its pairs taken in list order (R70). -/
def Lco.applyLook (k : SlotId) (groups : BitVec 48) (r : LookRec) (len : Nat) (x : Lco) : Lco :=
  r.pairs.foldl (Lco.lookPair k groups len) x

/-- The release of groups by a slot (R76): layers the slot owns are rewritten, the others go on as they were. -/
def Lco.releaseGroups (k : SlotId) (groups : BitVec 48) (fade : Nat) (x : Lco) : Lco :=
  x.mapChannels fun c ch =>
    if groups.getLsbD (channelGroup c) && ch.layer.owner == some k then releaseLayer fade ch else ch

/-- The hand-over of groups in a preempting start (R78). -/
def Lco.holdGroups (k : SlotId) (groups : BitVec 48) (x : Lco) : Lco :=
  x.mapChannels fun c ch => if groups.getLsbD (channelGroup c) then holdLayer k ch else ch

/-- A show stop (R77): every layer IDLE with owner NONE, every effect record removed. The rule gives no more of the
layers; F, T, length and position 0 are the model's choice (DESIGN CHOICE, log entry 38). -/
def Lco.dropAll (x : Lco) : Lco :=
  { (x.mapChannels fun _ ch => { ch with layer := {} }) with effects := Vector.replicate 8 none }

/-- Set a slot's effect at phase 0, period count 0 (R73). -/
def Lco.setEffect (k : SlotId) (e : EffectPart) (x : Lco) : Lco :=
  let r : Effect :=
    { pattern := e.pattern, targets := e.targets, depth := e.depth, phase := 0, count := 0, lastLow := none }
  { x with effects := x.effects.set k (some r) }

/-- Clear a slot's effect (R73). -/
def Lco.clearEffect (k : SlotId) (x : Lco) : Lco := { x with effects := x.effects.set k none }

/-- The NMX tells the LCO whether a slot's cue is LIVE (R74). -/
def Lco.tellLive (k : SlotId) (live : Bool) (x : Lco) : Lco :=
  { x with cueLive := if live then withMember x.cueLive k else withoutMember x.cueLive k }

/-! ### Base levels -/

/-- A LIGHT frame writes a whole zone (R67); a level of 65535 is written as 65534 and a master above 256 as 256. -/
def Lco.writeZone (z : ZoneId) (level : Nat → Nat) (master : Nat) (x : Lco) : Lco :=
  { (x.mapChannels fun c ch =>
      if channelZone c = z then
        { ch with base := min (level (c.val % 192)) Config.lightMax, stale := false,
                  lastFresh := min (level (c.val % 192)) Config.lightMax }
      else ch) with
    masters := x.masters.set z (min master 256) }

/-- The light source of a zone has become STALE (R68). -/
def Lco.markStale (z : ZoneId) (x : Lco) : Lco :=
  x.mapChannels fun c ch => if channelZone c = z then { ch with stale := true } else ch

/-! ### Effects -/

/-- The toggle list in force for a period count (R74). -/
def toggles (r : FxRec) (count : Half) : List Nat :=
  if count.getLsbD 0 then r.odd.take r.oddCount else r.even.take r.evenCount

/-- Whether the effect state is LOW (R74): the start state flipped once for each position not above the phase; HIGH
while a hush pattern's slot has a LIVE cue. -/
def effectLow (r : FxRec) (e : Effect) (live : Bool) : Bool :=
  if r.hush && live then false
  else ((toggles r e.count).filter fun p => decide (p ≤ e.phase)).length % 2 == 1 ^^ r.startLow

/-- Whether a slot's effect is LOW now; false when it has none. -/
def State.slotLow (s : State) (k : SlotId) : Bool :=
  match s.lco.effects[k] with
  | some e =>
    match s.mu.tables.fx[e.pattern] with
    | some r => effectLow r e (s.lco.cueLive.getLsbD k)
    | none => false
  | none => false

/-- The advance of an effect's phase after the beat's levels are handed (R73). -/
def advanceEffect (period : Nat) (low : Bool) (e : Effect) : Effect :=
  if e.phase + 1 < period then { e with phase := e.phase + 1, lastLow := some low }
  else { e with phase := 0, count := e.count + 1, lastLow := some low }

/-- A slot's effect takes its part of a beat; the state it had on the beat is kept for STATUS (R73, R89). -/
def State.effectBeat (k : SlotId) (s : State) : State :=
  match s.lco.effects[k] with
  | some e =>
    match s.mu.tables.fx[e.pattern] with
    | some r => s.onLco fun x => { x with effects := x.effects.set k (some (advanceEffect r.period (s.slotLow k) e)) }
    | none => s
  | none => s

/-! ### The chain of stages -/

/-- The effect stage (R81). -/
def effectStage (y depth : Nat) : Nat := (y * (256 - depth) + 128) / 256

/-- The depth that reaches a channel on this beat: that of its layer's owner's effect when the channel's group is
targeted and the effect is LOW (R81); 0, which changes nothing, otherwise. -/
def State.depthAt (s : State) (c : ChannelId) (l : Layer) : Nat :=
  match l.owner with
  | some k =>
    match s.lco.effects[k] with
    | some e => if e.targets.getLsbD (channelGroup c) && s.slotLow k then e.depth else 0
    | none => 0
  | none => 0

/-- The master stage (R82). -/
def masterStage (e master : Nat) : Nat := (e * master + 128) / 256

/-- The clip stage (R83). -/
def clipStage (o ceiling : Nat) : Nat := min o (min Config.lightMax ceiling)

/-- The output of a channel whose layer has already been advanced on this beat (R87, steps 2 and 4 to 9). It reads the
ceiling as it stands. A CEIL load acts from the next beat's composition (R83, R88); that this is the composition of the
same beat where the MU completes the load before the LCO takes that beat is the model's choice (DESIGN CHOICE, log entry
53). -/
def State.outputOf (s : State) (c : ChannelId) (ch : Channel) : Nat :=
  let y := preEffect ch
  let e := effectStage y.1 (s.depthAt c ch.layer)
  let o := clipStage (masterStage e s.lco.masters[channelZone c]) s.mu.tables.ceil[c]
  let o := if y.2 then Config.lightHold else o
  let o := match ch.indicator with
    | some l => clipStage l s.mu.tables.ceil[c]
    | none => o
  if ch.present then o else Config.lightHold

/-- A channel with its layer advanced (R87, step 1). -/
def advanceChannel (ch : Channel) : Channel := { ch with layer := advanceLayer ch.layer }

/-- A channel with its layer completed (R87, step 3). -/
def completeChannel (ch : Channel) : Channel := { ch with layer := completeLayer ch.layer }

/-- The level a channel sends on a beat taken now. -/
def State.composed (s : State) (c : ChannelId) : Nat := s.outputOf c (advanceChannel s.lco.channels[c])

/-- One channel takes its part of a beat's layer work (R79). -/
def State.layerBeat (c : ChannelId) (s : State) : State :=
  s.onLco fun x => { x with channels := modifyAt x.channels c fun ch => completeChannel (advanceChannel ch) }

/-- A zone's port takes the zone's 192 levels, in local channel order (R87). -/
def State.handLight (levels : ChannelId → Nat) (z : ZoneId) (s : State) : State :=
  s.onPort z (Port.takeLight (Vector.ofFn fun i => levels (globalChannel z i)))

/-- The LCO takes a beat (R87): every channel is advanced, composed and completed, each zone's levels are handed to its
port, and then every effect advances. -/
def State.lcoBeat (s : State) : State :=
  let levels := s.composed
  let s := s.onLco fun x => x.mapChannels fun _ ch => completeChannel (advanceChannel ch)
  let s := forEach 4 (State.handLight levels) s
  forEach 8 State.effectBeat s

end Sys2Proof.Machine
end

