-- ==== Sys2Proof/Machine/Sound.lean ====
section
/-! DEFINITION. The Narration Mixer (Chapter 5): cues and their reports, SOUND frames, ducking, the mix and the
hand-over of output blocks. -/

namespace Sys2Proof.Machine

/-! ### Cues (Section 5.3) -/

/-- What a CUE report carries about a slot's cue. -/
def cueInfo (k : SlotId) (c : Cue) : CueInfo :=
  { number := c.number, slot := k, scene := c.scene, zone := c.zone, stream := c.stream, clip := c.clip }

/-- Whether a cue state is LIVE. -/
def isLive (c : Option Cue) : Bool :=
  match c with
  | some c => c.state == .live
  | none => false

/-- Replace a slot's cue record. -/
def State.setCue (k : SlotId) (c : Option Cue) (s : State) : State :=
  s.onNmx fun x => { x with cues := x.cues.set k c }

/-- Cancellation of a slot's cue (R100): the record goes; a REQUESTED, PENDING or LIVE cue queues a CUE CANCEL report,
and a LIVE cue starts a ramp on its stream (R101) and leaves LIVE at the LCO. -/
def State.cancelCue (k : SlotId) (cause : CancelCause) (s : State) : State :=
  match s.nmx.cues[k] with
  | none => s
  | some c =>
    let s := s.setCue k none
    match c.state with
    | .requested => s.join (.cueCancel (cueInfo k c) cause)
    | .pending => s.join (.cueCancel (cueInfo k c) cause)
    | .live =>
      ((s.onNmx fun x => { x with ramps := x.ramps.set c.stream (some { outputs := c.outputs, gain := c.gain }) }).join
        (.cueCancel (cueInfo k c) cause)).onLco (Lco.tellLive k false)
    | .done => s
    | .failed => s
    | .lost => s

/-- A slot's new cue (R94): the earlier cue is cancelled REPLACED, the record is written REQUESTED with the next cue
number, and a CUE START report is queued; if it is dropped the cue is FAILED at once and the slot is marked. -/
def State.newCue (k : SlotId) (scene : SceneId) (home : ZoneId) (p : CuePart) (s : State) : State :=
  let s := s.cancelCue k .replaced
  let room := s.hasReportRoom
  let c : Cue :=
    { number := s.nmx.nextCue, scene, zone := home, stream := p.stream, clip := p.clip, outputs := p.outputs,
      gain := p.gain, wait := p.wait, remaining := p.wait, state := if room then .requested else .failed }
  let s := (s.onNmx fun x => { x with cues := x.cues.set k (some c), nextCue := x.nextCue + 1 }).join
    (.cueStart (cueInfo k c))
  if room then s else s.mark k .cueFailed

/-- A CUE START report has left the transmitter (R95): the slot's REQUESTED cue of that number becomes PENDING. -/
def State.cueDeparted (i : CueInfo) (s : State) : State :=
  match s.nmx.cues[i.slot] with
  | some c =>
    if c.number = i.number ∧ c.state = .requested then
      s.setCue i.slot (some { c with state := .pending, remaining := c.wait })
    else s
  | none => s

/-- A slot's cue takes a beat (R95): a PENDING cue counts its wait and is FAILED at 0. -/
def State.cueBeat (k : SlotId) (s : State) : State :=
  match s.nmx.cues[k] with
  | some c =>
    if c.state = .pending then
      if c.remaining ≤ 1 then (s.setCue k (some { c with remaining := 0, state := .failed })).mark k .cueFailed
      else s.setCue k (some { c with remaining := c.remaining - 1 })
    else s
  | none => s

/-- The NMX takes a beat (R95). -/
def State.nmxBeat (s : State) : State := forEach 8 State.cueBeat s

/-- A stream has gone STALE under a slot's cue (R98): a LIVE cue on it is LOST. -/
def State.loseCue (t : StreamId) (k : SlotId) (s : State) : State :=
  match s.nmx.cues[k] with
  | some c =>
    if c.state = .live ∧ c.stream = t then
      (((s.setCue k (some { c with state := .lost })).join (.cueCancel (cueInfo k c) .lost)).onLco
        (Lco.tellLive k false)).mark k .cueLost
    else s
  | none => s

/-- A stream has become STALE (R98). -/
def State.streamStale (t : StreamId) (s : State) : State := forEach 8 (State.loseCue t) s

/-- The show stop cancels every slot's cue (R106). -/
def State.cancelAllCues (s : State) : State := forEach 8 (fun k => State.cancelCue k .showStop) s

/-! ### SOUND frames (Section 5.2) -/

/-- The block of a cue's stream that carries the cue's clip as its tag, if the frame has one (R96, R97). -/
def cueBlock (blocks : List StreamBlock) (c : Cue) : Option StreamBlock :=
  match blockOf blocks c.stream with
  | some b => if b.tag = c.clip then some b else none
  | none => none

/-- Stage 2 for one slot: a PENDING cue whose stream's block carries its clip becomes LIVE (R96). -/
def State.matchTag (blocks : List StreamBlock) (k : SlotId) (s : State) : State :=
  match s.nmx.cues[k] with
  | some c =>
    if c.state = .pending ∧ (cueBlock blocks c).isSome then
      (s.setCue k (some { c with state := .live })).onLco (Lco.tellLive k true)
    else s
  | none => s

/-- Whether a slot's cue is LIVE and routes to an output. -/
def routesTo (c : Option Cue) (o : OutputId) : Bool :=
  match c with
  | some c => c.state == .live && c.outputs.getLsbD o
  | none => false

/-- Whether some LIVE cue routes to an output (R102). -/
def Nmx.liveAt (x : Nmx) (o : OutputId) : Bool := (List.finRange 8).any fun k => routesTo x.cues[k] o

/-- A duck gain moves toward its target by the attack or the release step (R102). -/
def duckStep (d target attack release : Nat) : Nat :=
  if target < d then max (d - attack) target
  else if d < target then min (d + release) target
  else d

/-- Stage 3: every output's duck gain (R102). -/
def Nmx.duckAll (r : RouteRec) (x : Nmx) : Nmx :=
  { x with duck := Vector.ofFn fun o =>
      duckStep x.duck[o] (if x.liveAt o then r.depth[o] else Config.unityGain) r.attack[o] r.release[o] }

/-- Sample n of a stream in the frame; 0 when the stream is absent (R92). -/
def sampleOf (blocks : List StreamBlock) (t : StreamId) (n : Nat) : Int :=
  match blockOf blocks t with
  | some b => b.samples.getD n 0
  | none => 0

/-- Bed term of the mix (R103). -/
def bedTerm (r : RouteRec) (x : Nmx) (blocks : List StreamBlock) (o : OutputId) (n : Nat) (t : StreamId) : Int :=
  if r.ambient.getLsbD t then
    ((r.bed[8 * t.val + o.val]'(by omega) * x.duck[o] / 4096 : Nat) : Int) * sampleOf blocks t n
  else 0

/-- Cue term of the mix (R103). -/
def cueTerm (x : Nmx) (blocks : List StreamBlock) (o : OutputId) (n : Nat) (k : SlotId) : Int :=
  match x.cues[k] with
  | some c =>
    if c.state = .live ∧ c.outputs.getLsbD o then
      match cueBlock blocks c with
      | some b => (c.gain : Int) * b.samples.getD n 0
      | none => 0
    else 0
  | none => 0

/-- Ramp term of the mix (R101, R103). -/
def rampTerm (x : Nmx) (blocks : List StreamBlock) (o : OutputId) (n : Nat) (t : StreamId) : Int :=
  match x.ramps[t] with
  | some r => if r.outputs.getLsbD o then ((r.gain * (480 - n) / 480 : Nat) : Int) * sampleOf blocks t n else 0
  | none => 0

/-- The accumulator of a sample (R103), without truncation. -/
def mixAcc (r : RouteRec) (x : Nmx) (blocks : List StreamBlock) (o : OutputId) (n : Nat) : Int :=
  ((List.finRange 8).map (bedTerm r x blocks o n)).sum + ((List.finRange 8).map (cueTerm x blocks o n)).sum +
    ((List.finRange 8).map (rampTerm x blocks o n)).sum

/-- Rounding and saturation of an accumulator (R103); `/` on integers with a positive divisor is the floor. -/
def outSample (acc : Int) : Int := max (-32768) (min 32767 ((acc + 2048) / 4096))

/-- The 480 samples of an output (R103). -/
def mixOutput (r : RouteRec) (x : Nmx) (blocks : List StreamBlock) (o : OutputId) : List Int :=
  (List.range 480).map fun n => outSample (mixAcc r x blocks o n)

/-- Stage 5 for one slot: a LIVE cue whose routed block carried the last-block mark becomes DONE (R97). -/
def State.finishCue (blocks : List StreamBlock) (k : SlotId) (s : State) : State :=
  match s.nmx.cues[k] with
  | some c =>
    if c.state = .live then
      match cueBlock blocks c with
      | some b =>
        if b.last then (s.setCue k (some { c with state := .done })).onLco (Lco.tellLive k false) else s
      | none => s
    else s
  | none => s

/-- Stage 6 for one output: its block goes to its zone's port when the output is present (R104). -/
def State.handBlock (blockAt : OutputId → List Int) (o : OutputId) (s : State) : State :=
  if s.nmx.present.getLsbD o then
    s.onPort ⟨o.val / 2, by omega⟩ (Port.takeBlock { second := o.val % 2 == 1, samples := blockAt o })
  else s

/-- A SOUND frame arrival, stages 2 to 6 on the separated blocks (R93). R104 does not order a zone's two blocks; that
output 2z joins the audio queue before output 2z + 1 is the model's choice (DESIGN CHOICE, log entry 40). -/
def State.soundArrival (blocks : List StreamBlock) (s : State) : State :=
  let s := forEach 8 (State.matchTag blocks) s
  let s := s.onNmx (Nmx.duckAll s.mu.tables.route)
  let mixed := mixOutput s.mu.tables.route s.nmx blocks
  let s := forEach 8 (State.finishCue blocks) s
  let s := s.onNmx fun x => { x with ramps := Vector.replicate 8 none }
  forEach 8 (State.handBlock mixed) s

/-- A taken SOUND frame makes each stream it carries FRESH (R170). -/
def State.refreshStreams (blocks : List StreamBlock) (s : State) : State :=
  forEach 8 (fun t s => if (blockOf blocks t).isSome then s.refresh (.stream t) else s) s

/-- A ROUTE load clamps every duck gain into its new range at once (R91). -/
def Nmx.clampDuck (r : RouteRec) (x : Nmx) : Nmx :=
  { x with duck := Vector.ofFn fun o => min (max x.duck[o] r.depth[o]) Config.unityGain }

end Sys2Proof.Machine
end

