-- ==== Sys2Proof/Machine/Motion.lean ====
section
/-! DEFINITION. The Motion Gate (Chapter 6): modes, setpoints, claims and keyframes, guards, targets, the step limiter
and the beat. -/

namespace Sys2Proof.Machine

/-! ### Modes (R112) -/

/-- A DISABLED mode. -/
def AxisMode.isDisabled : AxisMode → Bool
  | .disabledNoEnvelope => true
  | .disabledOutOfRange => true
  | .offlineCensus => false
  | .offlinePower => false
  | .guarded => false
  | .holding => false
  | .tracking => false

/-- An OFFLINE mode. -/
def AxisMode.isOffline : AxisMode → Bool
  | .disabledNoEnvelope => false
  | .disabledOutOfRange => false
  | .offlineCensus => true
  | .offlinePower => true
  | .guarded => false
  | .holding => false
  | .tracking => false

/-- A mode in which the axis sends its position and the limiter runs. -/
def AxisMode.isSending (m : AxisMode) : Bool := !m.isDisabled && !m.isOffline

/-- Change the record of an axis. -/
def State.onAxis (a : AxisId) (f : Axis → Axis) (s : State) : State :=
  s.onMgt fun x => { x with axes := modifyAt x.axes a f }

/-- A position lies in an envelope's range. -/
def inRange (e : EnvRec) (p : Int) : Bool := decide (e.min ≤ p ∧ p ≤ e.max)

/-- The mode of an axis: the first of the table of R112 whose cause holds. While its zone is in motion-power fault the
cause of OFFLINE is POWER, whether or not the axis is present (R115). -/
def State.modeOf (s : State) (a : AxisId) : AxisMode :=
  let x := s.mgt.axes[a]
  let e := s.mu.tables.env[a]
  if !e.enable then .disabledNoEnvelope
  else if x.present && !inRange e x.pos then .disabledOutOfRange
  else if s.mgt.powerFault.getLsbD (axisZone a) then .offlinePower
  else if !x.present then .offlineCensus
  else if x.guarded then .guarded
  else if s.mgt.showStopped || x.resetHold ||
      ((s.axisOwner a).isNone && (!s.isFresh (.setpoint a) || x.setpoint == Config.motionHold)) then .holding
  else .tracking

/-- The record of an axis on which a mode is judged: in DISABLED and OFFLINE the step is 0 and the reset-hold mark is
clear (R112, R126). -/
def Axis.enter (m : AxisMode) (x : Axis) : Axis :=
  if m.isSending then { x with mode := m } else { x with mode := m, step := 0, resetHold := false }

/-- Judge the mode of an axis; an owned axis that enters OFFLINE marks its owner slot AXIS-OFFLINE (R112, R114). -/
def State.judgeAxis (a : AxisId) (s : State) : State :=
  let m := s.modeOf a
  let entered := m.isOffline && !(s.mgt.axes[a]).mode.isOffline
  let s := s.onAxis a (Axis.enter m)
  match s.axisOwner a with
  | some k => if entered then s.mark k .axisOffline else s
  | none => s

/-- Judge the mode of every axis: an input of the table has changed. -/
def State.judgeAxes (s : State) : State := forEach 32 State.judgeAxis s

/-! ### Presence and motion power (R114, R115) -/

/-- An axis becomes present at its announced position with step 0 (R114). -/
def State.axisPresent (a : AxisId) (p : Int) (s : State) : State :=
  (s.onAxis a fun x => { x with present := true, pos := p, step := 0 }).judgeAxis a

/-- An axis becomes absent; its position keeps its last value (R114). -/
def State.axisAbsent (a : AxisId) (s : State) : State :=
  (s.onAxis a fun x => { x with present := false }).judgeAxis a

/-- A refreshed announced position: taken by an axis that is DISABLED or OFFLINE (R114, R113). -/
def State.axisAnnounced (a : AxisId) (p : Int) (s : State) : State :=
  if (s.mgt.axes[a]).mode.isSending then s else (s.onAxis a fun x => { x with pos := p }).judgeAxis a

/-- A zone's port begins its hand-over for a beat: the positions of the hand-over before are gone (R125). -/
def Mgt.dropReplies (z : ZoneId) (x : Mgt) : Mgt :=
  { x with axes := Vector.ofFn fun a => if axisZone a = z then { x.axes[a] with reply := none } else x.axes[a] }

/-- The port hands the position a fixture reported in its reply slot (R113). -/
def State.axisReply (a : AxisId) (p : Int) (s : State) : State := s.onAxis a fun x => { x with reply := some p }

/-- Mark the owner slot of an OFFLINE axis of a zone AXIS-OFFLINE (R115). -/
def State.markOwner (z : ZoneId) (a : AxisId) (s : State) : State :=
  match s.axisOwner a with
  | some k => if axisZone a = z ∧ (s.mgt.axes[a]).mode.isOffline then s.mark k .axisOffline else s
  | none => s

/-- The start of a zone's motion-power fault reaches the MGT (R115). -/
def State.powerFaultStart (z : ZoneId) (s : State) : State :=
  forEach 32 (State.markOwner z) (s.onMgt fun x => { x with powerFault := withMember x.powerFault z }).judgeAxes

/-- The end of a zone's motion-power fault reaches the MGT (R115). -/
def State.powerFaultEnd (z : ZoneId) (s : State) : State :=
  (s.onMgt fun x => { x with powerFault := withoutMember x.powerFault z }).judgeAxes

/-! ### Setpoints, claims and keyframes (R116 to R118) -/

/-- A MOTION frame writes the setpoint of one axis of its present set and makes its source FRESH (R116). -/
def State.takeSetpoint (body : List Byte) (a : AxisId) (s : State) : State :=
  if (motionSet body).getLsbD a then
    ((s.onAxis a fun x => { x with setpoint := motionSetpoint body a }).refresh (.setpoint a)).judgeAxis a
  else s

/-- A MOTION frame arrival (R116). -/
def State.motionArrival (body : List Byte) (s : State) : State := forEach 32 (State.takeSetpoint body) s

/-- A start takes an axis: the scene target is its position at that moment and there is no keyframe (R117). -/
def Axis.take (x : Axis) : Axis := { x with sceneTarget := some x.pos, keyframe := none }

/-- A release of an axis: keyframe and scene target are discarded, the step is kept (R117). -/
def Axis.drop (x : Axis) : Axis := { x with sceneTarget := none, keyframe := none }

/-- Change the record of every axis of a set. -/
def Mgt.mapAxes (axes : BitVec 32) (f : Axis → Axis) (x : Mgt) : Mgt :=
  { x with axes := Vector.ofFn fun a => if axes.getLsbD a then f x.axes[a] else x.axes[a] }

/-- A keyframe entry of a beginning segment reaches its axis (R118); an OFFLINE axis marks the slot (R14). -/
def State.giveKey (k : SlotId) (e : KeyEntry) (s : State) : State :=
  let kf : Axis → Keyframe := fun x => { start := x.pos, target := e.target, travel := e.travel, elapsed := 0 }
  let s := s.onAxis e.axis fun x => { x with keyframe := some (kf x) }
  if (s.mgt.axes[e.axis]).mode.isOffline then s.mark k .axisOffline else s

/-! ### Guards (R119) -/

/-- Some zone of a guard set is OCCUPIED or LINGER in the MGT's view. -/
def guardActive (occ : Vector OccKind 4) (set : BitVec 4) : Bool :=
  (List.finRange 4).any fun z => set.getLsbD z && occ[z] != .clear

/-- The guard of an axis is set: the mark is set and a running countdown is 0. -/
def Axis.guardOn (x : Axis) : Axis := { x with guarded := true, rearm := 0 }

/-- Every zone of a guard set is now CLEAR: the countdown starts, and at re-arm time 0 the mark is cleared at once. -/
def Axis.guardOff (rearm : Nat) (x : Axis) : Axis :=
  if rearm = 0 then { x with guarded := false, rearm := 0 } else { x with rearm := rearm }

/-- What a zone's occupancy change does to one axis (R119). -/
def guardChange (z : ZoneId) (old new : OccKind) (occ : Vector OccKind 4) (e : EnvRec) (x : Axis) : Axis :=
  if !e.guardZones.getLsbD z then x
  else if old = .clear ∧ new ≠ .clear then x.guardOn
  else if new = .clear ∧ old ≠ .clear ∧ !guardActive occ e.guardZones then x.guardOff e.rearm
  else x

/-- An occupancy change reaches the MGT (R119). -/
def State.mgtOccupancy (z : ZoneId) (new : OccKind) (s : State) : State :=
  let old := s.mgt.occ[z]
  let occ := s.mgt.occ.set z new
  let env := s.mu.tables.env
  (s.onMgt fun x => { x with
    occ
    axes := Vector.ofFn fun a => guardChange z old new occ env[a] x.axes[a] }).judgeAxes

/-- The guard of an axis whose guard zone set a load has changed is judged at once (R110). -/
def guardReload (occ : Vector OccKind 4) (e : EnvRec) (x : Axis) : Axis :=
  if e.guardZones = 0 then { x with guarded := false, rearm := 0 }
  else if guardActive occ e.guardZones then x.guardOn
  else if x.guarded ∧ x.rearm = 0 then x.guardOff e.rearm
  else x

/-- An accepted ENV load reaches the axis of a written record (R110); `old` is the record before the load. -/
def State.envLoaded (a : AxisId) (old : EnvRec) (s : State) : State :=
  let e := s.mu.tables.env[a]
  let s := if old.guardZones = e.guardZones then s else s.onAxis a (guardReload s.mgt.occ e)
  s.judgeAxis a

/-! ### Targets (R122) -/

/-- The keyframe target of a beat (R118). -/
def keyTarget (k : Keyframe) : Int :=
  if k.travel ≤ k.elapsed then k.target else k.start + ((k.target - k.start) * k.elapsed).tdiv k.travel

/-- A positional target clamped to the envelope's range (R122). -/
def clampTo (e : EnvRec) (p : Int) : Int := max e.min (min e.max p)

/-- The target of a GUARDED, HOLDING or TRACKING axis (R122). -/
def State.targetOf (s : State) (a : AxisId) : Target :=
  let x := s.mgt.axes[a]
  let e := s.mu.tables.env[a]
  match x.mode with
  | .guarded => if e.park then .pos (clampTo e e.parkPos) else .stop
  | .tracking =>
    match s.axisOwner a with
    | some _ =>
      match x.keyframe with
      | some k => .pos (clampTo e (keyTarget k))
      | none => .pos (clampTo e (x.sceneTarget.getD x.pos))
    | none => .pos (clampTo e x.setpoint)
  | .holding => .stop
  | .disabledNoEnvelope => .stop
  | .disabledOutOfRange => .stop
  | .offlineCensus => .stop
  | .offlinePower => .stop

/-- The speed limit of the beat: vguard in place of vmax while a PARK guard target is in force (R120, R124). -/
def speedLimit (e : EnvRec) (m : AxisMode) : Nat := if m = .guarded ∧ e.park then e.vguard else e.vmax

/-! ### The step limiter (R123, R124) -/

/-- The sum v + (v − amax) + … over the terms greater than 0, at most `fuel` of them. -/
def stopSum (amax : Nat) : Nat → Nat → Nat
  | 0, _ => 0
  | fuel + 1, v => if v = 0 then 0 else v + stopSum amax fuel (v - amax)

/-- The stopping distance S(v) (R123); with amax at least 1 it has at most v terms. -/
def stopDistance (amax v : Nat) : Nat := stopSum amax v v

/-- Increase v while S(v + 1) stays within D, at most `fuel` times. -/
def vbFrom (amax d : Nat) : Nat → Nat → Nat
  | 0, v => v
  | fuel + 1, v => if stopDistance amax (v + 1) ≤ d then vbFrom amax d fuel (v + 1) else v

/-- vb(D), the largest v with S(v) ≤ D (R123); S(v) ≥ v, so it is at most D. -/
def brakeSpeed (amax d : Nat) : Nat := vbFrom amax d d 0

/-- A braking step: the magnitude falls by amax to 0 at the least, the direction is kept (R124). -/
def brake (amax : Nat) (v : Int) : Int := v.sign * ((v.natAbs - amax : Nat) : Int)

/-- The target lies strictly ahead of P in V's direction. -/
def isAhead (p v t : Int) : Bool := decide ((0 < v ∧ p < t) ∨ (v < 0 ∧ t < p))

/-- Stages 1 to 3 of R124: the new step magnitude toward a target at distance `dt`, with `de` to the range end. -/
def stageStep (vmax amax w dt de : Nat) : Nat :=
  let v := min (min vmax (w + amax)) (min (brakeSpeed amax dt) (brakeSpeed amax de))
  let v := max v (w - amax)
  if w - amax ≤ min v dt then min v dt else v

/-- The new step (R124). -/
def newStep (e : EnvRec) (vmax : Nat) (p v : Int) : Target → Int
  | .stop => brake e.amax v
  | .pos t =>
    if v ≠ 0 ∧ !isAhead p v t then brake e.amax v
    else
      (t - p).sign * (stageStep vmax e.amax v.natAbs (t - p).natAbs
        (if p ≤ t then e.max - p else p - e.min).toNat : Nat)

/-! ### The beat (R125) -/

/-- Steps 1 and 2 of R125: the re-arm countdown, then the keyframe's elapsed count. -/
def Axis.countRearm (x : Axis) : Axis :=
  if x.rearm = 0 then x
  else if x.rearm = 1 then { x with rearm := 0, guarded := false }
  else { x with rearm := x.rearm - 1 }

/-- Advance of a keyframe's elapsed count (R118). -/
def Keyframe.advance (k : Keyframe) : Keyframe := if k.elapsed < k.travel then { k with elapsed := k.elapsed + 1 } else k

/-- Step 3 of R125: a DISABLED axis that is present takes the reply-slot position of its port's latest hand-over, unless
that is −32768 (R113). The position stands until the port's next hand-over, so a beat that the MGT takes before the port
uses the positions of the frame before (log entry 6). -/
def Axis.takeReply (x : Axis) : Axis :=
  match x.reply with
  | some p => if x.mode.isDisabled && x.present && p != Config.motionHold then { x with pos := p } else x
  | none => x

/-- Steps 1 to 3 of R125. -/
def Axis.beforeJudge (x : Axis) : Axis :=
  let x := x.countRearm
  { x with keyframe := x.keyframe.map Keyframe.advance }.takeReply

/-- Steps 5 to 7 of R125 for an axis whose mode runs the limiter; the target of a DISABLED or OFFLINE axis is absent.
Where step 7 clears the reset-hold mark, the mode stays as judged until the next judgement of the axis (R126: from the
next beat; R112: whenever an input changes), which is the model's choice (DESIGN CHOICE, log entry 42). The envelope is
read as it stands; that a load which the MU completes on a beat before the MGT takes it acts on this same beat (R110) is the
model's choice as well (DESIGN CHOICE, log entry 53). -/
def State.stepAxis (a : AxisId) (s : State) : State :=
  let e := s.mu.tables.env[a]
  let t := s.targetOf a
  s.onAxis a fun x =>
    if x.mode.isSending then
      let v := newStep e (speedLimit e x.mode) x.pos x.step t
      { x with step := v, pos := x.pos + v, lastTarget := some t, resetHold := x.resetHold && v != 0 }
    else { x with lastTarget := none }

/-- One axis takes a beat (R125). -/
def State.axisBeat (a : AxisId) (s : State) : State :=
  ((s.onAxis a Axis.beforeJudge).judgeAxis a).stepAxis a

/-- The position an axis is handed to its port with: the HOLD code while DISABLED or OFFLINE (R125). -/
def Axis.sent (x : Axis) : Int := if x.mode.isSending then x.pos else Config.motionHold

/-- A zone's port takes the zone's 8 positions, in local axis order (R125). -/
def State.handMotion (z : ZoneId) (s : State) : State :=
  s.onPort z (Port.takeMotion (Vector.ofFn fun i => (s.mgt.axes[globalAxis z i]).sent))

/-- The MGT takes a beat (R125). -/
def State.mgtBeat (s : State) : State := forEach 4 State.handMotion (forEach 32 State.axisBeat s)

end Sys2Proof.Machine
end

