-- ==== Sys2Proof/Machine/Census.lean ====
section
/-! DEFINITION. The census of a zone port (Sections 7.3 to 7.11): reply windows and loss, announcements and admission,
presence and its hand-over, the notices and the change flag, motion power, and the beat at a port. -/

namespace Sys2Proof.Machine

/-! ### Records -/

/-- A record that is CONFLICT (R143). -/
def isConflict (r : Option CensusRec) : Bool :=
  match r with
  | some r =>
    match r.state with
    | .conflictCapacity => true
    | .conflictOverlap _ => true
    | .admitted => false
    | .refusedMalformed => false
    | .refusedUnlisted => false
    | .lostMissed => false
    | .lostPower => false
  | none => false

/-- A record that is REFUSED (R143). -/
def isRefused (r : Option CensusRec) : Bool :=
  match r with
  | some r => r.state == .refusedMalformed || r.state == .refusedUnlisted
  | none => false

/-- A record that is LOST. -/
def isLost (r : Option CensusRec) : Bool :=
  match r with
  | some r => r.state == .lostMissed || r.state == .lostPower
  | none => false

/-- A record for which misses are counted: ADMITTED, CONFLICT or REFUSED (R131). -/
def isLiveRec (r : Option CensusRec) : Bool := r.isSome && !isLost r

/-- Local capacity of a zone for a class (Section 7.1). -/
def classCapacity : FixClass → Nat
  | .light => 192
  | .motion => 8
  | .sound => 2

/-- The largest count one fixture of a class may claim (Section 7.1). -/
def classCount : FixClass → Nat
  | .light => 48
  | .motion => 4
  | .sound => 2

/-- The local numbers from start to start + count − 1 hold a local number. -/
def Announce.spans (a : Announce) (i : Nat) : Bool := decide (a.start ≤ i ∧ i < a.start + a.count)

/-- An ADMITTED record of a class covers a local number (R136). -/
def recCovers (c : FixClass) (r : Option CensusRec) (i : Nat) : Bool :=
  match r with
  | some r => r.state == .admitted && r.ann.cls == classByte c && r.ann.spans i
  | none => false

/-- A local number of a class is present (R142). -/
def Port.isPresent (p : Port) (c : FixClass) (i : Nat) : Bool := (List.finRange 12).any fun q => recCovers c p.census[q] i

/-- The UNLISTED notice of a zone: some record is REFUSED (R143). -/
def Port.unlisted (p : Port) : Bool := p.census.toList.any isRefused

/-- The CONFLICT notice of a zone: some record is CONFLICT (R143). -/
def Port.conflict (p : Port) : Bool := p.census.toList.any isConflict

/-! ### Hand-over of a census event (R142 to R144) -/

/-- The net presence change of one light channel goes to the LCO (R86). -/
def State.handChannel (z : ZoneId) (old new : Port) (i : Fin 192) (s : State) : State :=
  if old.isPresent .light i = new.isPresent .light i then s
  else s.onLco fun x => { x with
    channels := modifyAt x.channels (globalChannel z i) fun ch => { ch with present := new.isPresent .light i } }

/-- The net presence change of one output goes to the NMX (R105). -/
def State.handOutput (z : ZoneId) (old new : Port) (i : Fin 2) (s : State) : State :=
  if old.isPresent .sound i = new.isPresent .sound i then s
  else s.onNmx fun x => { x with
    present := if new.isPresent .sound i then withMember x.present (globalOutput z i)
      else withoutMember x.present (globalOutput z i) }

/-- What one axis of the zone is handed (R114): absent, present at its announced position, or, for an axis that stays
present under the announcing fixture, the announced position (log entry 18). `ann` is the announcement of the
event where the record it leaves is ADMITTED; no other record drives an axis (R136). -/
def State.handAxis (z : ZoneId) (old new : Port) (ann : Option Announce) (i : Fin 8) (s : State) : State :=
  let announced : Option Int := match ann with
    | some a => if a.cls = classByte .motion ∧ a.spans i then a.positions[i.val - a.start]? else none
    | none => none
  match old.isPresent .motion i, new.isPresent .motion i with
  | true, false => s.axisAbsent (globalAxis z i)
  | false, true => s.axisPresent (globalAxis z i) (announced.getD (s.mgt.axes[globalAxis z i]).pos)
  | true, true =>
    match announced with
    | some p => s.axisAnnounced (globalAxis z i) p
    | none => s
  | false, false => s

/-- The presence a census event changes is handed once (R142). -/
def State.handPresence (z : ZoneId) (old new : Port) (ann : Option Announce) (s : State) : State :=
  let s := forEach 192 (State.handChannel z old new) s
  let s := forEach 2 (State.handOutput z old new) s
  forEach 8 (State.handAxis z old new ann) s

/-- A level notice that becomes set is a new notice and asks for a STATUS (R143). -/
def State.levelNotices (old new : Port) (s : State) : State :=
  let s := if new.unlisted && !old.unlisted then s.askStatus else s
  if new.conflict && !old.conflict then s.askStatus else s

/-- A census change sets the change flag while the zone is ARMED; from clear to set it asks for a STATUS (R144). -/
def State.censusChanged (z : ZoneId) (s : State) : State :=
  if s.ports[z].armed && !s.ports[z].changeFlag then
    (s.onPort z fun p => { p with changeFlag := true }).askStatus
  else s

/-- A census event of a zone: the new records, the presence, the notices and, for a census change, the change flag. -/
def State.censusEvent (z : ZoneId) (census : Vector (Option CensusRec) 12) (ann : Option Announce) (changed : Bool)
    (s : State) : State :=
  let old := s.ports[z]
  let new := { old with census }
  let s := s.onPort z fun p => { p with census }
  let s := s.handPresence z old new ann
  let s := s.levelNotices old new
  if changed then s.censusChanged z else s

/-! ### Announcements (R133 to R138) -/

/-- The class an announcement names, if it is one of the three. -/
def Announce.fixClass (a : Announce) : Option FixClass := readClass a.cls

/-- A well-formed announcement (R133). -/
def Announce.wellFormed (a : Announce) : Bool :=
  match a.fixClass with
  | some c => decide (1 ≤ a.count ∧ a.count ≤ classCount c) && (c != .motion || a.positions.length == a.count) &&
      a.positions.all fun p => p != Config.motionHold
  | none => false

/-- An entry of the admission list matches an announcement (R135). -/
def entryMatches (r : AdmtRec) (a : Announce) : Bool :=
  (!r.matchSet.getLsbD 0 || r.maker == a.maker) && (!r.matchSet.getLsbD 1 || r.model == a.model) &&
  (!r.matchSet.getLsbD 2 || r.revision == a.revision) && (!r.matchSet.getLsbD 3 || classByte r.cls == a.cls)

/-- A well-formed announcement is listed (R135): every entry is EMPTY, or some entry matches. -/
def isListed (admt : Vector (Option AdmtRec) 40) (a : Announce) : Bool :=
  admt.toList.all (fun r => r.isNone) || admt.toList.any fun r =>
    match r with
    | some r => entryMatches r a
    | none => false

/-- The record at another position whose ADMITTED range of the same class the announcement's range meets (R138). -/
def overlaps (a : Announce) (r : Option CensusRec) : Bool :=
  match r with
  | some r => r.state == .admitted && r.ann.cls == a.cls && decide (a.start < r.ann.start + r.ann.count) &&
      decide (r.ann.start < a.start + a.count)
  | none => false

/-- The lowest other position whose ADMITTED record an announcement overlaps. -/
def overlapAt (census : Vector (Option CensusRec) 12) (q : PosId) (a : Announce) : Option PosId :=
  (List.finRange 12).find? fun i => i != q && overlaps a census[i]

/-- The judgement of an announcement at a position (R138). -/
def judgeAnnounce (admt : Vector (Option AdmtRec) 40) (census : Vector (Option CensusRec) 12) (q : PosId)
    (a : Announce) : CensusState :=
  match a.fixClass with
  | none => .refusedMalformed
  | some c =>
    if !a.wellFormed then .refusedMalformed
    else if !isListed admt a then .refusedUnlisted
    else if classCapacity c < a.start + a.count then .conflictCapacity
    else match overlapAt census q a with
      | some i => .conflictOverlap i
      | none => .admitted

/-- R137 keeps the record at a position: it is ADMITTED with the same serial, class, start and count. -/
def keeps (r : Option CensusRec) (a : Announce) : Bool :=
  match r with
  | some r => r.state == .admitted && r.ann.serial == a.serial && r.ann.cls == a.cls && r.ann.start == a.start &&
      r.ann.count == a.count && a.wellFormed
  | none => false

/-- The fields a kept record takes from the announcement (R137): maker, model, revision and, for a MOTION record, the
positions. -/
def keptAnnounce (old a : Announce) : Announce :=
  { old with maker := a.maker, model := a.model, revision := a.revision,
             positions := if a.cls = classByte .motion then a.positions else old.positions }

/-- The record an announcement leaves at its position. -/
def filedRec (admt : Vector (Option AdmtRec) 40) (census : Vector (Option CensusRec) 12) (q : PosId) (a : Announce) :
    CensusRec :=
  match census[q] with
  | some r =>
    if keeps (some r) a then { r with ann := keptAnnounce r.ann a, miss := 0 }
    else { ann := a, state := judgeAnnounce admt census q a, miss := 0 }
  | none => { ann := a, state := judgeAnnounce admt census q a, miss := 0 }

/-- The answer of a called position counts as received for the frame that called it (R131; log entry 19). -/
def Port.noteAnswer (q : PosId) (p : Port) : Port :=
  match p.window with
  | some w => if w.call = some q then { p with window := some { w with received := withMember w.received q } } else p
  | none => p

/-- An announcement arrives at a port and is filed (R137, R138). -/
def State.announce (z : ZoneId) (q : PosId) (a : Announce) (s : State) : State :=
  let s := s.onPort z (Port.noteAnswer q)
  let p := s.ports[z]
  let filed := filedRec s.mu.tables.admt p.census q a
  s.censusEvent z (p.census.set q (some filed)) (if filed.state = .admitted then some a else none)
    (!keeps p.census[q] a)

/-! ### Reply windows and loss (R131, R132) -/

/-- A reply reaches the port: held for judgement when it answers the frame of the open window, discarded otherwise. The
spec leaves two points of it open, which the model settles. A called position that answers with a reply and gives no
announcement has received one (R131's table), although R141 says that it counts a miss: its miss count becomes 0 (DESIGN
CHOICE, log entry 58). The spec does not say what a second reply of one position for one frame does: the positions of the
last are held (DESIGN CHOICE, log entry 59). -/
def Port.takeReply (m : ReplyMsg) (p : Port) : Port :=
  match p.window with
  | some w =>
    if w.number = m.number then
      { p with window := some { w with
          received := withMember w.received m.pos, replies := w.replies.set m.pos m.positions } }
    else p
  | none => p

/-- The judgement of one record at the close of a window (R131, R132). -/
def judgeRec (received : Bool) (r : Option CensusRec) : Option CensusRec :=
  match r with
  | some x =>
    if isLost r then r
    else if received then some { x with miss := 0 }
    else if x.miss + 1 < Config.missLimit then some { x with miss := x.miss + 1 }
    else some { x with miss := Config.missLimit, state := .lostMissed }
  | none => none

/-- The records after the close of a window. -/
def judgedCensus (w : Window) (census : Vector (Option CensusRec) 12) : Vector (Option CensusRec) 12 :=
  Vector.ofFn fun q => judgeRec (w.received.getLsbD q) census[q]

/-- Some record became LOST between two censuses: a census change (R144). -/
def someLost (old new : Vector (Option CensusRec) 12) : Bool :=
  (List.finRange 12).any fun q => isLost new[q] && !isLost old[q]

/-- Positions that answered though their record is EMPTY or LOST (R140). -/
def answeredUnheld (w : Window) (census : Vector (Option CensusRec) 12) : BitVec 12 :=
  posSet fun q => w.received.getLsbD q && !isLiveRec census[q]

/-- The reply positions of an ADMITTED MOTION record go to the MGT for the axes it covers (R131, R113). The spec does not
say what a reply with another number of positions does; that position i goes to axis start + i, an axis without one gets
none and positions beyond the count are ignored is the model's choice (DESIGN CHOICE, log entry 44). -/
def State.handReply (z : ZoneId) (w : Window) (q : PosId) (s : State) : State :=
  match s.ports[z].census[q] with
  | some r =>
    if r.state = .admitted ∧ r.ann.cls = classByte .motion then
      forEach 8 (fun i s =>
        if r.ann.spans i then
          match (w.replies[q])[i.val - r.ann.start]? with
          | some p => s.axisReply (globalAxis z i) p
          | none => s
        else s) s
    else s
  | none => s

/-- The port's first work of a beat (R131, R148): the close of the reply window, if one is open, and the hand-over of
the reply positions, which replaces the one before (R125). A port that has no position to hand leaves its axes with none,
which is the model's choice (DESIGN CHOICE, log entry 6). -/
def State.closeWindow (z : ZoneId) (s : State) : State :=
  let s := s.onMgt (Mgt.dropReplies z)
  match s.ports[z].window with
  | none => s
  | some w =>
    let old := s.ports[z].census
    let new := judgedCensus w old
    let s := s.onPort z fun p => { p with window := none, calls := p.calls ||| answeredUnheld w old }
    let s := s.censusEvent z new none (someLost old new)
    forEach 12 (State.handReply z w) s

/-! ### Motion power (R146, R147) -/

/-- A motion-power fault makes a live MOTION record LOST with cause POWER (R146). -/
def powerLost (r : Option CensusRec) : Option CensusRec :=
  match r with
  | some x => if isLiveRec r && x.ann.cls == classByte .motion then some { x with state := .lostPower } else r
  | none => none

/-- A motion-power fault of a zone (R146), as one event. -/
def State.powerFaultEvent (z : ZoneId) (s : State) : State :=
  let old := s.ports[z].census
  let new : Vector (Option CensusRec) 12 := Vector.ofFn fun q => powerLost old[q]
  let s := if s.ports[z].powerOff.isNone then s.censusEvent z new none (someLost old new) else s
  let s := s.powerFaultStart z
  let s := s.onPort z fun p => { p with powerOff := some Config.holdOffBeats, senseFault := true }
  s.raisePowerFault z

/-- The power comes back: ZPWRn on, motion power ON, the end of the fault to the MGT (R147). -/
def State.powerOn (z : ZoneId) (s : State) : State := (s.onPort z fun p => { p with powerOff := none }).powerFaultEnd z

/-- One beat's hold-off work on a sense sample of OK (R147). -/
def State.holdOffBeat (z : ZoneId) (s : State) : State :=
  match s.ports[z].powerOff with
  | none => s
  | some n => if n ≤ 1 then s.powerOn z else s.onPort z fun p => { p with powerOff := some (n - 1) }

/-- The port samples the sense on a beat (R146, R147). -/
def State.senseBeat (z : ZoneId) (fault : Bool) (s : State) : State :=
  if fault && !s.ports[z].senseFault then s.powerFaultEvent z
  else if fault then s.onPort z fun p => { p with powerOff := p.powerOff.map fun _ => Config.holdOffBeats }
  else (s.holdOffBeat z).onPort z fun p => { p with senseFault := false }

/-- A port takes a beat (R148). The frame it forms is offered to the arbiter, which ZBUS_TRANSMIT_NEXT is. -/
def State.portBeat (z : ZoneId) (fault : Bool) (s : State) : State :=
  ((s.closeWindow z).senseBeat z fault).onPort z Port.formStep

/-! ### READ-CENSUS (R145) -/

/-- State and cause numbers of a record (Section 11.2). -/
def censusStateBytes : CensusState → List Byte
  | .admitted => [0, 0, 0]
  | .conflictCapacity => [1, 1, 0]
  | .conflictOverlap p => [1, 2] ++ put8 (p.val + 1)
  | .refusedMalformed => [2, 3, 0]
  | .refusedUnlisted => [2, 4, 0]
  | .lostMissed => [3, 5, 0]
  | .lostPower => [3, 6, 0]

/-- The position a census record returns at a place (R145, Section 11.2): 0 beyond the count and for other classes. A
MALFORMED record may have carried fewer positions than its count; the spec states no value for the others, so each is a
free value (DESIGN CHOICE, log entry 57). -/
def censusPosition (q : PosId) (a : Announce) (i : Nat) : Int :=
  if a.cls = classByte .motion ∧ i < a.count then a.positions.getD i (Config.uncarriedPosition q.val a.serial i).toInt
  else 0

/-- A census record of READ-CENSUS, 27 bytes (Section 11.2). -/
def censusBytes (q : PosId) (r : Option CensusRec) : List Byte :=
  match r with
  | none => put8 (q.val + 1) ++ List.replicate 26 0
  | some r => put8 (q.val + 1) ++ [1] ++ censusStateBytes r.state ++ put8 r.miss ++ put32 r.ann.serial ++
      put16 r.ann.maker ++ put16 r.ann.model ++ put16 r.ann.revision ++ put8 r.ann.cls ++ put8 r.ann.start ++
      put8 r.ann.count ++ (List.range 4).flatMap fun i => putI16 (censusPosition q r.ann i)

/-- What READ-CENSUS leaves in a port (R145): LOST records EMPTY, the change flag clear, ARMED. -/
def Port.censusRead (p : Port) : Port :=
  { p with census := Vector.ofFn fun q => if isLost p.census[q] then none else p.census[q], changeFlag := false, armed := true }

end Sys2Proof.Machine
end

