-- ==== Sys2Proof/Machine/Indicators.lean ====
section
/-! DEFINITION. Indicators (Section 2.5): the judgement of R35 and the hand-over of levels to the LCO (R85). -/

namespace Sys2Proof.Machine

/-- The line of a trigger entry 0..15; `none` for a virtual trigger's entry (R30). -/
def entryLine (n : EntryId) : Option LineId := if h : n.val < 16 then some ⟨n.val, h⟩ else none

/-- The entry of a line. -/
def lineEntry (n : LineId) : EntryId := ⟨n.val, by omega⟩

/-- The entry of a virtual trigger. -/
def virtualEntry (n : LineId) : EntryId := ⟨16 + n.val, by omega⟩

/-- The house modes in which R32 accepts a firing of an entry: OPEN for a line, OPEN and CLOSED for a virtual trigger. -/
def modeAccepts (n : EntryId) (m : HouseMode) : Bool :=
  match entryLine n with
  | some _ => m == .opened
  | none => m != .service

/-- A lockout runs on an entry's line (R27). -/
def State.lockoutRuns (s : State) (n : EntryId) : Bool :=
  match entryLine n with
  | some i => decide (0 < (s.iou.lines[i]).lockout)
  | none => false

/-- The entry's alternate scene is queued or playing. -/
def State.alternateBusy (s : State) (t : TrigRec) : Bool :=
  match t.alternate with
  | some a => s.isBusy a
  | none => false

/-- The state of an entry's indicator (R35). -/
def State.indicatorOf (s : State) (n : EntryId) (t : TrigRec) : Indicator :=
  if s.iou.showStopped || !modeAccepts n s.iou.mode then .dark
  else if s.isBusy t.scene || s.alternateBusy t || s.lockoutRuns n then .busy
  else .ready

/-- The level of an indicator state (R30). -/
def indicatorLevel (t : TrigRec) : Indicator → Nat
  | .dark => t.dark
  | .busy => t.busy
  | .ready => t.ready

/-- The LCO takes an indicator level for a channel (R85). -/
def Lco.setIndicator (c : Nat) (l : Nat) (x : Lco) : Lco :=
  if h : c < 768 then { x with channels := modifyAt x.channels ⟨c, h⟩ fun ch => { ch with indicator := some l } } else x

/-- Judge the indicator of one entry and hand its level to the LCO (R35). -/
def State.judgeIndicator (n : EntryId) (s : State) : State :=
  match s.mu.tables.trig[n] with
  | some t =>
    if t.hasIndicator then
      let i := s.indicatorOf n t
      (s.onIou fun x => { x with indicators := x.indicators.set n (some i) }).onLco
        (Lco.setIndicator t.channel (indicatorLevel t i))
    else s.onIou fun x => { x with indicators := x.indicators.set n none }
  | none => s.onIou fun x => { x with indicators := x.indicators.set n none }

/-- Judge every indicator again: one of its inputs has changed (R35). -/
def State.judgeIndicators (s : State) : State := forEach 32 State.judgeIndicator s

/-- Release every indicator channel and judge every indicator (R35: a TRIG load or a reset; R85). -/
def State.renewIndicators (s : State) : State :=
  (s.onLco fun x => x.mapChannels fun _ ch => { ch with indicator := none }).judgeIndicators

end Sys2Proof.Machine
end

