-- ==== Sys2Proof/Machine/Sequencer.lean ====
section
/-! DEFINITION. The Scene Sequencer's own work (Chapter 1): the parts of a beginning segment (R10 to R15), a slot's
start (R6), restart (R7) and the release at its end (R18, steps 1 to 4). What the ARB does with a start or an end stands
in Arbiter. -/

namespace Sys2Proof.Machine

/-! ### Segment parts (R10) -/

/-- Look part (R11): applied to the held groups, or skipped with LOOK-MISSING when the index holds no look. -/
def State.lookPart (k : SlotId) (groups : BitVec 48) (l : Option (Fin 64 × Nat)) (s : State) : State :=
  match l with
  | some (i, fade) =>
    match s.mu.tables.look[i] with
    | some r => s.onLco (Lco.applyLook k groups r fade)
    | none => s.mark k .lookMissing
  | none => s

/-- Effect part (R12): set anew, or cleared when it is absent or its FX record is EMPTY. -/
def State.effectPart (k : SlotId) (e : Option EffectPart) (s : State) : State :=
  match e with
  | some e =>
    match s.mu.tables.fx[e.pattern] with
    | some _ => s.onLco (Lco.setEffect k e)
    | none => s.onLco (Lco.clearEffect k)
  | none => s.onLco (Lco.clearEffect k)

/-- Cue part (R13). -/
def State.cuePart (k : SlotId) (scene : SceneId) (home : ZoneId) (c : Option CuePart) (s : State) : State :=
  match c with
  | some c => s.newCue k scene home c
  | none => s

/-- Keyframe part (R14), its entries in list order. -/
def State.keyPart (k : SlotId) (ks : Option (List KeyEntry)) (s : State) : State :=
  match ks with
  | some ks => ks.foldl (fun s e => s.giveKey k e) s
  | none => s

/-- Flag action (R15). -/
def State.flagPart (f : Option (Bool × Fin 32)) (s : State) : State :=
  match f with
  | some (true, i) => s.setStoryFlags (single i)
  | some (false, i) => s.clearStoryFlags (single i)
  | none => s

/-- The parts of a segment handed out for a slot that plays a scene (R10). -/
def State.segmentParts (k : SlotId) (p : PlayRec) (sc : SceneRec) (g : Segment) (s : State) : State :=
  ((((s.lookPart k p.claims.groups g.look).effectPart k g.effect).cuePart k p.scene sc.home g.cue).keyPart k
    g.keys).flagPart g.flag

/-- A segment of a slot's scene begins (R10). -/
def State.beginSegment (k : SlotId) (i : Nat) (s : State) : State :=
  match s.play k with
  | some p =>
    match s.scene p.scene with
    | some sc =>
      match sc.segments[i]? with
      | some g => (s.onPlay k fun p => { p with segment := i }).segmentParts k p sc g
      | none => s
    | none => s
  | none => s

/-! ### Start and restart -/

/-- Some axis of a set is OFFLINE (R16). -/
def State.anyOffline (s : State) (axes : BitVec 32) : Bool :=
  (List.finRange 32).any fun a => axes.getLsbD a && (s.mgt.axes[a]).mode.isOffline

/-- The play record of a starting slot (R6); a claimed axis that is OFFLINE gives the AXIS-OFFLINE mark (R16). -/
def State.startRec (s : State) (r : Request) (sc : SceneRec) : PlayRec :=
  { scene := r.scene, source := r.source, priority := r.priority, position := 0, segment := 0, plays := sc.repeats,
    claims := sc.claims, marks := if s.anyOffline sc.claims.axes then single Mark.axisOffline.member else 0 }

/-- The slot becomes PLAYING, with no current effect and no cue record (R6). -/
def State.occupySlot (k : SlotId) (r : Request) (sc : SceneRec) (s : State) : State :=
  let p := s.startRec r sc
  ((s.onSeq fun x => { x with slots := x.slots.set k (.playing p) }).onLco (Lco.clearEffect k)).setCue k none

/-- A restart of a PLAYING slot (R7). -/
def State.restartSlot (k : SlotId) (s : State) : State :=
  match s.play k with
  | some p =>
    match s.scene p.scene with
    | some sc => (s.onPlay k fun p => { p with position := 0, plays := sc.repeats }).beginSegment k 0
    | none => s
  | none => s

/-! ### End -/

/-- The cause a slot's end gives the cancellation of its cue (R100). -/
def EndReason.cause : EndReason → CancelCause
  | .complete => .complete
  | .stopped => .stopped
  | .preempted => .preempted
  | .abandoned => .abandoned
  | .showStop => .showStop
  | .reset => .showStop

/-- The release fade of a slot's scene; 0 under SHOW-STOP (R18, step 2). -/
def State.endFade (s : State) (p : PlayRec) (reason : EndReason) : Nat :=
  if reason = .showStop then 0
  else match s.scene p.scene with
    | some sc => sc.releaseFade
    | none => 0

/-- Steps 1 to 4 of R18 for a PLAYING slot, with the STATUS of its end: the end is recorded, the groups and axes that
are not kept (those a preempting scene takes, R56, R57) are released, the effect is cleared and the cue cancelled. The
spec does not order the STATUS against the CUE CANCEL (R18, R100, R172); that the CUE CANCEL joins first is the model's
choice (DESIGN CHOICE, log entry 54). -/
def State.endSlot (k : SlotId) (reason : EndReason) (kept : Claims) (s : State) : State :=
  match s.play k with
  | some p =>
    let fade := s.endFade p reason
    let s := s.onSeq fun x => { x with slots := x.slots.set k (.free (some p.scene) reason) }
    let s := s.onLco fun x => (x.releaseGroups k (p.claims.groups &&& ~~~kept.groups) fade).clearEffect k
    let s := s.cancelCue k reason.cause
    let s := s.onMgt (Mgt.mapAxes (p.claims.axes &&& ~~~kept.axes) Axis.drop)
    s.askStatus
  | none => s

end Sys2Proof.Machine
end

