-- ==== Sys2Proof/Machine/Arbiter.lean ====
section
/-! DEFINITION. The Scene Arbiter (Chapter 3) with the Scene Sequencer's events that lead into it: requests and their
judgement (R41 to R46), the queue (R47, R48), the claim table and its release (R49, R50), the walk and the start (R51 to
R57), deadlines (R58), house modes (R59), the show state (R61 to R63), the outcome log (R64), and the ends, follow-ons
and beats of slots (R8, R9, R17 to R20). -/

namespace Sys2Proof.Machine

/-! ### The outcome log (R64) -/

/-- An entry joins the log; at a seventeenth entry the oldest leaves. -/
def Arb.enter (scene : SceneId) (source : Source) (priority : Nat) (kind : OutcomeKind) (tag : Option Half) (x : Arb) :
    Arb :=
  let all := x.log ++ [{ number := x.nextNumber, scene, source, priority, kind, tag : LogEntry }]
  { x with log := all.drop (all.length - Config.outcomeCap), nextNumber := x.nextNumber + 1 }

/-- An outcome of a request is entered and asks for a STATUS. -/
def State.enter (r : Request) (kind : OutcomeKind) (s : State) : State :=
  (s.onArb (Arb.enter r.scene r.source r.priority kind r.tag)).askStatus

/-- A slot that ends PREEMPTED is entered with the slot and the slot that preempted it. -/
def State.enterPreempted (k new : SlotId) (p : PlayRec) (s : State) : State :=
  (s.onArb (Arb.enter p.scene p.source p.priority (.preempted k new) none)).askStatus

/-! ### Eligibility (R44, R45) -/

/-- The value of a test for a request of scene `self`, which is not itself counted as queued. -/
def State.testValue (s : State) (self : SceneId) : TestKind → Bool
  | .flagSet f => s.seq.flags.getLsbD f
  | .flagClear f => !s.seq.flags.getLsbD f
  | .zoneOccupied z => s.arb.occ[z] != .clear
  | .zoneClear z => s.arb.occ[z] == .clear
  | .mode m => s.arb.mode == m
  | .sceneIdle t => !s.isPlaying t && (t == self || !s.isQueued t)

/-- Combine one further test into the result. -/
def State.foldTest (s : State) (self : SceneId) (r : Bool) (t : Test) : Bool :=
  if t.orComb then r || s.testValue self t.kind else r && s.testValue self t.kind

/-- The fold of a test list from the left; the first test's combiner takes no part. -/
def State.foldTests (s : State) (self : SceneId) : List Test → Bool
  | [] => true
  | t :: ts => ts.foldl (s.foldTest self) (s.testValue self t.kind)

/-- A scene is eligible: its record is not EMPTY, it claims no AMBIENT stream, and its tests fold to true. -/
def State.eligible (s : State) (i : SceneId) : Bool :=
  match s.scene i with
  | some sc => sc.claims.streams &&& s.mu.tables.route.ambient == 0 && s.foldTests i sc.tests
  | none => false

/-! ### Arriving requests (R41 to R43, R46) -/

/-- The house modes that admit a source kind (R42, check 2; R59). -/
def admits : HouseMode → Source → Bool
  | .opened, _ => true
  | .closed, .visitor _ => false
  | .closed, .virtual _ => true
  | .closed, .schedule _ => true
  | .closed, .server => true
  | .service, .visitor _ => false
  | .service, .virtual _ => false
  | .service, .schedule _ => false
  | .service, .server => true

/-- The require-motion check fails: some claimed axis is OFFLINE or DISABLED (R46). -/
def State.motionBlocked (s : State) (i : SceneId) : Bool :=
  match s.scene i with
  | some sc => sc.requireMotion && (List.finRange 32).any fun a =>
      sc.claims.axes.getLsbD a && !(s.mgt.axes[a]).mode.isSending
  | none => false

/-- The checks of R42 in order; `none` accepts. -/
def State.refusal (s : State) (r : Request) : Option RefuseCode :=
  if s.arb.showStopped then some .stopped
  else if !admits s.arb.mode r.source then some .notReady
  else if s.isBusy r.scene then some .duplicate
  else if !s.eligible r.scene then some .ineligible
  else if s.motionBlocked r.scene then some .notReady
  else if Config.requestCap ≤ s.arb.queue.length then some .queueFull
  else none

/-- The request made for a scene (R41). The own priority of an EMPTY scene is a free value (log entry 15). -/
def State.newRequest (s : State) (i : SceneId) (source : Source) (prio : Option Nat) (tag : Option Half) : Request :=
  match s.scene i with
  | some sc => { scene := i, source, priority := prio.getD sc.priority, deadline := sc.maxWait, tag }
  | none => { scene := i, source, priority := prio.getD (Config.emptyPriority s.free).toNat, deadline := 0, tag }

/-- The counter of free values after a request was made: it advances where the request's priority was one. -/
def State.afterNewRequest (i : SceneId) (prio : Option Nat) (s : State) : State :=
  if (s.scene i).isNone && prio.isNone then s.nextFree else s

/-- Insert after every request of equal or higher priority and before every one of lower priority (R47). -/
def insertRequest (r : Request) (q : List Request) : List Request :=
  q.takeWhile (fun x => decide (r.priority ≤ x.priority)) ++ r ::
    q.dropWhile (fun x => decide (r.priority ≤ x.priority))

/-- Judge an arriving request and insert it when it is accepted; a refusal is entered in the outcome log, and QUEUE-FULL
raises its notice (R42). -/
def State.judgeInsert (r : Request) (s : State) : Option RefuseCode × State :=
  match s.refusal r with
  | some c =>
    let s := s.enter r (.refused c)
    (some c, if c = .queueFull then s.raiseQueueFull else s)
  | none => (none, (s.onArb fun x => { x with queue := insertRequest r x.queue }).askStatus)

/-- A request leaves the queue with a reason other than STARTED (R48). -/
def State.depart (r : Request) (d : Departure) (s : State) : State :=
  (s.onArb fun x => { x with queue := x.queue.erase r }).enter r (.departed d)

/-- Every queued request of which a test holds leaves the queue. The spec orders neither the requests that one event
removes nor their outcome numbers (R48, R64); that they leave in queue order is the model's choice (DESIGN CHOICE, log
entry 35). -/
def State.departAll (test : Request → Bool) (d : Departure) (s : State) : State :=
  (s.arb.queue.filter test).foldl (fun s r => s.depart r d) s

/-! ### The claim table (R49, R50) -/

/-- Every resource of a set that a slot owns gets owner none; a resource with another owner keeps it. -/
def Arb.release (k : SlotId) (set : BitVec 96) (x : Arb) : Arb :=
  { x with owners := Vector.ofFn fun i =>
      if set.getLsbD i && x.owners[i] == some k then none else x.owners[i] }

/-- The release of an ended slot's claims reaches the ARB (R18, step 5; R50). The owner of an axis is an input of its
mode (R112). -/
def State.releaseClaims (k : SlotId) (p : PlayRec) (s : State) : State :=
  (s.onArb (Arb.release k p.claims.mask)).judgeAxes

/-- A slot ends for a reason other than PREEMPTED, with the release of its claims (R18, R50). -/
def State.freeSlot (k : SlotId) (reason : EndReason) (s : State) : State :=
  match s.play k with
  | some p => (s.endSlot k reason {}).releaseClaims k p
  | none => s

/-! ### The walk (R51 to R54) -/

/-- The resource test of one resource (R54). -/
def State.resourcePasses (s : State) (r : Request) (sc : SceneRec) (i : ResourceId) : Bool :=
  match s.arb.owners[i] with
  | none => true
  | some k =>
    match s.play k with
    | some p => decide (p.priority < r.priority) && sc.mayPreempt && (match s.scene p.scene with
        | some q => q.yieldable
        | none => false)
    | none => false

/-- The resource test of a whole claim set. -/
def State.resourceTest (s : State) (r : Request) (sc : SceneRec) : Bool :=
  (List.finRange 96).all fun i => !sc.claims.mask.getLsbD i || s.resourcePasses r sc i

/-- A slot owns some resource of a set. -/
def State.ownsSome (s : State) (k : SlotId) (set : BitVec 96) : Bool :=
  (List.finRange 96).any fun i => set.getLsbD i && s.arb.owners[i] == some k

/-- The preemption set of a claim set (R54), in slot-number order. -/
def State.preemptSet (s : State) (c : Claims) : List SlotId := (List.finRange 8).filter fun k => s.ownsSome k c.mask

/-- A slot is FREE to the ARB (R18, step 5; R53): not PLAYING, and owner of nothing. A slot that the SEQ has ended and
whose release the ARB has not yet taken owns its claims still; that one which claims nothing is FREE at once is the model's
choice (DESIGN CHOICE, log entry 21). -/
def State.isFree (s : State) (k : SlotId) : Bool := (s.play k).isNone && !s.ownsSome k (BitVec.allOnes 96)

/-- The slot a start takes (R55): the lowest that is FREE once the preempted slots have ended; `none` fails the slot
test (R53). -/
def State.startSlot (s : State) (c : Claims) : Option SlotId :=
  (List.finRange 8).find? fun k => s.isFree k || (s.preemptSet c).contains k

/-! ### The start (R55 to R57) -/

/-- One slot of the preemption set ends PREEMPTED (R55, order 1), with its entry in the outcome log. -/
def State.preemptOne (new : SlotId) (kept : Claims) (s : State) (k : SlotId) : State :=
  match s.play k with
  | some p => (s.endSlot k .preempted kept).enterPreempted k new p
  | none => s

/-- The owners after a start (R55, order 3). -/
def Arb.takeClaims (new : SlotId) (set : BitVec 96) (preempted : List SlotId) (x : Arb) : Arb :=
  { x with owners := Vector.ofFn fun i =>
      if set.getLsbD i then some new
      else match x.owners[i] with
        | some k => if preempted.contains k then none else some k
        | none => none }

/-- The claimed groups that a preempted slot holds (R56). -/
def State.takenGroups (s : State) (c : Claims) : BitVec 48 :=
  BitVec.ofFnLE fun g => c.groups.getLsbD g && (s.arb.owners[groupRes g]).isSome

/-- A request starts in a slot (R55). The spec does not order the STATUS of the start (R6) against the reports of segment
0; that it is asked for first is the model's choice (DESIGN CHOICE, log entry 54). -/
def State.start (new : SlotId) (r : Request) (sc : SceneRec) (s : State) : State :=
  let preempted := s.preemptSet sc.claims
  let taken := s.takenGroups sc.claims
  let s := preempted.foldl (State.preemptOne new sc.claims) s
  let s := s.onLco (Lco.holdGroups new taken)
  let s := s.onArb fun x => (x.takeClaims new sc.claims.mask preempted)
  let s := (s.onArb fun x => { x with queue := x.queue.erase r }).enter r (.started new)
  let s := s.onMgt (Mgt.mapAxes sc.claims.axes Axis.take)
  ((s.occupySlot new r sc).judgeAxes.askStatus).beginSegment new 0

/-- The slot in which a request starts, if its claims touch nothing blocked and the tests of R53 and R54 pass. -/
def State.canStart (s : State) (blocked : BitVec 96) (r : Request) (sc : SceneRec) : Option SlotId :=
  if sc.claims.mask &&& blocked = 0 ∧ s.resourceTest r sc then s.startSlot sc.claims else none

/-- The walk over the requests that were queued when it began (R52); `blocked` is the blocked set. -/
def State.walkFrom : List Request → BitVec 96 → State → State
  | [], _, s => s
  | r :: rs, blocked, s =>
    if !s.eligible r.scene then State.walkFrom rs blocked (s.depart r .ineligible)
    else match s.scene r.scene with
      | some sc =>
        match s.canStart blocked r sc with
        | some k => State.walkFrom rs blocked (s.start k r sc)
        | none => State.walkFrom rs (blocked ||| sc.claims.mask) s
      | none => State.walkFrom rs blocked s

/-- One queue walk; the indicators are judged on the starts and departures it made (R51, R35). -/
def State.walk (s : State) : State := (State.walkFrom s.arb.queue 0 s).judgeIndicators

/-! ### Arrivals and answers (R42, R43) -/

/-- The answers of R43. -/
inductive Answer where
  | started (k : SlotId)
  | queued
  | timedOut
  | refused (c : RefuseCode)
  deriving DecidableEq, Repr

/-- The answer after the walk that follows an accepted request. A request whose maximum wait is 0 and that was not
started is removed TIMED-OUT; one that the walk itself removed INELIGIBLE is answered so (log entry 20). -/
def State.settle (r : Request) (s : State) : Answer × State :=
  match s.playingSlot r.scene with
  | some k => (.started k, s)
  | none =>
    if s.isQueued r.scene then
      if r.deadline = 0 then (.timedOut, (s.depart r .timedOut).judgeIndicators) else (.queued, s)
    else (.refused .ineligible, s)

/-- A request arrives, is judged, and is walked and answered (R42, R43). -/
def State.arrive (r : Request) (s : State) : Answer × State :=
  match s.judgeInsert r with
  | (some c, s) => (.refused c, s)
  | (none, s) => s.walk.settle r

/-- A request is made for a scene by a source and arrives. -/
def State.request (i : SceneId) (source : Source) (prio : Option Nat) (tag : Option Half) (s : State) : Answer × State :=
  (s.afterNewRequest i prio).arrive (s.newRequest i source prio tag)

/-! ### Ends of slots (R17 to R20) -/

/-- A slot ends STOPPED or ABANDONED; the ARB walks after the release (R50). -/
def State.endAndWalk (k : SlotId) (reason : EndReason) (s : State) : State := (s.freeSlot k reason).walk

/-- The follow-on request of a COMPLETE slot arrives with the release (R19): judged, inserted, and one walk. -/
def State.followOn (i : SceneId) (source : Source) (s : State) : State :=
  let r := s.newRequest i source none none
  match (s.afterNewRequest i none).judgeInsert r with
  | (some _, s) => s.walk
  | (none, s) => (s.walk.settle r).2

/-- What a slot that ends COMPLETE hands the ARB: the record it ended with, and the scene the SEQ requests (R19). -/
structure Completion where
  play : PlayRec
  request : Option SceneId
  deriving DecidableEq, Repr

/-- The hand-over of a slot that has ended COMPLETE (R19, R50): its release, then the follow-on request if the SEQ made
one, and one walk. -/
def State.handOver (k : SlotId) (h : Option Completion) (s : State) : State :=
  match h with
  | some c =>
    let s := s.releaseClaims k c.play
    match c.request with
    | some i => s.followOn i c.play.source
    | none => s.walk
  | none => s

/-- The record of a slot that a zone's change to CLEAR ends (R20): its scene has abandon-on-clear and this home zone. -/
def State.abandoned (s : State) (z : ZoneId) (k : SlotId) : Option PlayRec :=
  match s.play k with
  | some p =>
    match s.scene p.scene with
    | some sc => if sc.abandonOnClear ∧ sc.home = z then some p else none
    | none => none
  | none => none

/-- The SEQ ends one slot of those a zone's change to CLEAR ends. -/
def State.abandonOne (k : SlotId) (p : Option PlayRec) (s : State) : State :=
  if p.isSome then s.endSlot k .abandoned {} else s

/-- The release of an abandoned slot reaches the ARB, which walks (R50). -/
def State.releaseAndWalk (k : SlotId) (p : Option PlayRec) (s : State) : State :=
  match p with
  | some p => (s.releaseClaims k p).walk
  | none => s

/-- A zone's change to CLEAR reaches the SEQ (R20): every slot it ends has ended ABANDONED before the ARB takes the
first of their releases. The order of the slots is the model's choice (DESIGN CHOICE, log entry 21). -/
def State.abandonZone (z : ZoneId) (s : State) : State :=
  forEach 8 (fun k t => t.releaseAndWalk k (s.abandoned z k))
    (forEach 8 (fun k t => t.abandonOne k (s.abandoned z k)) s)

/-! ### The beat at the SEQ and the ARB (R8, R9, R58) -/

/-- The end of a play is not the scene's last (R9). -/
def playsOn (p : PlayRec) (sc : SceneRec) : Bool := decide (0 < p.plays - 1 ∨ sc.repeats = 0)

/-- The play of a slot ends at its scene's length (R9): it wraps to segment 0, or the SEQ ends the slot COMPLETE. -/
def State.endPlay (k : SlotId) (p : PlayRec) (sc : SceneRec) (s : State) : State :=
  if playsOn p sc then
    (s.onPlay k fun p => { p with position := 0, segment := 0, plays := p.plays - 1 }).beginSegment k 0
  else s.endSlot k .complete {}

/-- The segment that begins when a slot's position becomes `pos`: the one after the segment index, if it starts there. -/
def nextSegment (p : PlayRec) (sc : SceneRec) (pos : Nat) : Option Segment :=
  match sc.segments[p.segment + 1]? with
  | some g => if g.start = pos then some g else none
  | none => none

/-- A PLAYING slot takes a beat at the SEQ (R8). -/
def State.slotAdvance (k : SlotId) (s : State) : State :=
  match s.play k with
  | some p =>
    match s.scene p.scene with
    | some sc =>
      if p.position + 1 = sc.length then s.endPlay k p sc
      else
        let moved := s.onPlay k fun p => { p with position := p.position + 1 }
        match nextSegment p sc (p.position + 1) with
        | some _ => moved.beginSegment k (p.segment + 1)
        | none => moved
    | none => s
  | none => s

/-- The scene that a slot which has just ended COMPLETE requests (R19): its scene's next, unless that is playing or
queued in the state the end leaves. -/
def State.nextToRequest (sc : SceneRec) (ended : State) : Option SceneId := sc.next.filter fun i => !ended.isBusy i

/-- What a slot's turn of the beat makes it hand the ARB: its completion when the beat ends its last play. The next scene
is looked up as the slot ends (R19). -/
def State.completion (s : State) (k : SlotId) : Option Completion :=
  match s.play k with
  | some p =>
    match s.scene p.scene with
    | some sc =>
      if p.position + 1 = sc.length ∧ !playsOn p sc then
        some { play := p, request := (s.slotAdvance k).nextToRequest sc }
      else none
    | none => none
  | none => none

/-- A slot's share of a beat: the SEQ advances it, and its completion, if it ends so, is handed to the ARB. -/
def State.slotBeat (k : SlotId) (s : State) : State := (s.slotAdvance k).handOver k (s.completion k)

/-- The state in which a slot takes its turn of a beat at the SEQ: the slots of lower number have had theirs. -/
def State.turnOf (k : SlotId) (s : State) : State := ((List.finRange 8).take k).foldl (fun t j => t.slotAdvance j) s

/-- The SEQ takes a beat (R8): every PLAYING slot is advanced, and each that ends makes its completion as it ends (R19),
before the ARB takes the first of the completions. The order of the slots is the model's choice (DESIGN CHOICE, log
entry 21). -/
def State.seqBeat (s : State) : State :=
  forEach 8 (fun k t => t.handOver k ((s.turnOf k).completion k)) (forEach 8 State.slotAdvance s)

/-- The requests whose wait deadline is at most a limit leave TIMED-OUT, and one walk follows when some did (R58). -/
def State.expire (limit : Nat) (s : State) : State :=
  let due : Request → Bool := fun r => decide (r.deadline ≤ limit)
  if s.arb.queue.any due then (s.departAll due .timedOut).walk else s

/-- The ARB takes a beat (R58). -/
def State.arbBeat (s : State) : State :=
  (s.onArb fun x => { x with queue := x.queue.map fun r => { r with deadline := r.deadline - 1 } }).expire 0

/-! ### House modes, stopping a scene and the show state (R59 to R63) -/

/-- A house-mode change reaches the ARB (R59): the purge, then a walk. -/
def State.arbHouse (m : HouseMode) (s : State) : State :=
  ((s.onArb fun x => { x with mode := m }).departAll (fun r => !admits m r.source) .house).walk

/-- The results of a STOP-SCENE (R178). -/
inductive StopResult where
  | ended (k : SlotId)
  | removed
  | nothing
  deriving DecidableEq, Repr

/-- STOP-SCENE naming a slot (R60). -/
def State.stopSlot (k : SlotId) (s : State) : StopResult × State :=
  match s.play k with
  | some _ => (.ended k, s.endAndWalk k .stopped)
  | none => (.nothing, s)

/-- STOP-SCENE naming a scene (R60). -/
def State.stopScene (i : SceneId) (s : State) : StopResult × State :=
  match s.playingSlot i with
  | some k => (.ended k, s.endAndWalk k .stopped)
  | none =>
    if s.isQueued i then (.removed, (s.departAll (fun r => r.scene == i) .stopped).walk) else (.nothing, s)

/-- The show state becomes a value in the ARB and in every block that receives its changes (R61); an alarm of the SCK's
next beat may still be raced by the change (R160). That the STATUS is asked for before the reports that a stop brings
(DESIGN CHOICE, log entry 54), and that the IOU and the ARB take the change in one event, so that a press judged under the
old state never meets an ARB that holds the new one (R32; DESIGN CHOICE, log entry 56), are the model's choices. -/
def State.setShow (stopped : Bool) (s : State) : State :=
  ((((s.onArb fun x => { x with showStopped := stopped }).onIou fun x => { x with showStopped := stopped }).onMgt
    fun x => { x with showStopped := stopped }).onSck
    fun x => { x with showStopped := stopped, showNews := true }).askStatus

/-- The show goes from RUNNING to STOPPED (R62); nothing in STOPPED. The spec does not order the ends of the slots, and
with them the CUE CANCEL reports and which of those a full own-report queue drops (R62, R106, R171); slot-number order is
the model's choice (DESIGN CHOICE, log entry 36). -/
def State.stopShow (s : State) : State :=
  if s.arb.showStopped then s
  else
    let s := s.setShow true
    let s := s.departAll (fun _ => true) .showStop
    let s := forEach 8 (fun k => State.freeSlot k .showStop) s
    ((s.onLco Lco.dropAll).cancelAllCues.judgeAxes).judgeIndicators

/-- RESUME-SHOW (R61, R63): whether it is done, and the state after it. -/
def State.resume (s : State) : Bool × State :=
  if !s.arb.showStopped then (true, s)
  else if s.iou.stopAccepted then (false, s)
  else (true, (s.setShow false).judgeAxes.judgeIndicators)

end Sys2Proof.Machine
end

