-- ==== Sys2Proof/Machine/Inputs.lean ====
section
/-! DEFINITION. The Input and Occupancy Unit (Chapter 2): firings (R31 to R34), lines with their debounce, lockout and
stuck marks (R25 to R29), zone occupancy (R36 to R38), the show-stop line (R39) and the beat. -/

namespace Sys2Proof.Machine

/-! ### Firings (R31 to R34) -/

/-- The outcome of a firing as the IOU hands it to the MU (R31). -/
inductive FireResult where
  | stopped
  | notReady
  | done
  | refused (c : RefuseCode)
  deriving DecidableEq, Repr

/-- The outcome that an answer of the ARB gives: STARTED, QUEUED and TIMED-OUT are acceptance (R43). -/
def Answer.outcome : Answer → FireResult
  | .started _ => .done
  | .queued => .done
  | .timedOut => .done
  | .refused c => .refused c

/-- The IOU takes the answer for an entry's scene (R34): on INELIGIBLE the alternate is asked for, unless it is playing
or queued. -/
def State.takeAnswer (t : TrigRec) (source : Source) (ans : Answer) (s : State) : FireResult × State :=
  match ans, t.alternate with
  | .refused .ineligible, some a =>
    if s.isBusy a then (.refused .ineligible, s)
    else ((s.request a source none none).1.outcome, (s.request a source none none).2)
  | ans, _ => (ans.outcome, s)

/-- An accepted firing of an entry is acted on (R33). The spec leaves open whether a slot's start or end, or a change of
the queue, has been reported to the IOU before it takes a firing of the same beat; that it always has, so that a STOP
which comes after the slot's end finds the scene not playing and goes on to step 2, is the model's choice (DESIGN
CHOICE, log entry 51). R34 lets another firing come between a request and its answer; that the request, its answer and
the request for the alternate are one event, so that no other firing comes between them, is the model's choice as well
(DESIGN CHOICE, log entry 60). -/
def State.act (t : TrigRec) (source : Source) (s : State) : FireResult × State :=
  match s.playingSlot t.scene with
  | some k =>
    match t.behaviour with
    | .ignore => (.done, s)
    | .restart => (.done, s.restartSlot k)
    | .stop => (.done, s.endAndWalk k .stopped)
  | none =>
    if s.isQueued t.scene then (.done, s)
    else (s.request t.scene source none none).2.takeAnswer t source (s.request t.scene source none none).1

/-- A firing of an entry is judged for acceptance (R32) and acted on; an EMPTY entry is not acted on (R30). -/
def State.fire (n : EntryId) (source : Source) (s : State) : FireResult × State :=
  if s.iou.showStopped then (.stopped, s)
  else if !modeAccepts n s.iou.mode then (.notReady, s)
  else match s.mu.tables.trig[n] with
    | some t => s.act t source
    | none => (.notReady, s)

/-- A virtual trigger is fired (R31). -/
def State.fireVirtual (n : LineId) (s : State) : FireResult × State := s.fire (virtualEntry n) (.virtual n)

/-- A TRIGGER frame fires each listed virtual trigger once, in list order (R31). That a listed trigger's firing is
whole, with the ARB's answer and the request for the alternate, before the next number fires is the model's choice (R34;
DESIGN CHOICE, log entry 60). -/
def State.triggerArrival (body : List Byte) (s : State) : State :=
  (triggerList body).foldl (fun s n => (s.fireVirtual n).2) s

/-! ### Occupancy (R36 to R38) -/

/-- A change of a zone's occupancy goes to the ARB, the SEQ and the MGT, and asks for a STATUS (R38). That the STATUS is
asked for after what the change brings is the model's choice (DESIGN CHOICE, log entry 54). -/
def State.occChanged (z : ZoneId) (k : OccKind) (s : State) : State :=
  let s := s.onArb fun x => { x with occ := x.occ.set z k }
  let s := if k = .clear then s.abandonZone z else s
  (s.mgtOccupancy z k).askStatus

/-- A zone takes an occupancy record; a change of its state is an event, a reload is not (R37, R38). -/
def State.setOcc (z : ZoneId) (o : ZoneOcc) (s : State) : State :=
  let old := (s.iou.zones[z]).kind
  let s := s.onIou fun x => { x with zones := x.zones.set z o }
  if old = o.kind then s else s.occChanged z o.kind

/-- A zone's occupancy for an entry to LINGER or, at linger time 0, to CLEAR. -/
def lingerOcc (n : Nat) : ZoneOcc := if 0 < n then { kind := .linger, count := n } else {}

/-- A line counts toward a zone's occupancy: role PRESENCE, this zone, accepted active (R24, R36). -/
def State.lineHolds (s : State) (z : ZoneId) (n : LineId) : Bool :=
  (s.mu.tables.line[n]).role == .presence && (s.mu.tables.line[n]).zone == z.val && (s.iou.lines[n]).accepted

/-- Some PRESENCE line of a zone is accepted active. -/
def State.isPresentIn (s : State) (z : ZoneId) : Bool := (List.finRange 16).any fun n => s.lineHolds z n

/-- The judgement of a zone's occupancy from its PRESENCE lines (R36). -/
def State.judgeZone (z : ZoneId) (s : State) : State :=
  let o := s.iou.zones[z]
  if s.isPresentIn z then (if o.kind = .occupied then s else s.setOcc z { kind := .occupied, count := 0 })
  else if o.kind = .occupied then s.setOcc z (lingerOcc s.mu.tables.unit.linger)
  else s

/-- A beam break acts on its zone (R37). -/
def State.breakZone (z : ZoneId) (s : State) : State :=
  match (s.iou.zones[z]).kind with
  | .occupied => s
  | .linger => s.setOcc z { kind := .linger, count := s.mu.tables.unit.linger }
  | .clear => s.setOcc z (lingerOcc s.mu.tables.unit.linger)

/-- A zone in LINGER counts down; at 0 it becomes CLEAR (R37). -/
def State.lingerBeat (z : ZoneId) (s : State) : State :=
  let o := s.iou.zones[z]
  if o.kind = .linger then
    if o.count ≤ 1 then s.setOcc z {} else s.setOcc z { o with count := o.count - 1 }
  else s

/-! ### Lines (R25 to R29) -/

/-- Change the runtime record of a line. -/
def State.onLine (n : LineId) (f : LineRt → LineRt) (s : State) : State :=
  s.onIou fun x => { x with lines := modifyAt x.lines n f }

/-- The level sampled at a line's pin, active or not (R24). -/
def sampledActive (r : LineRec) (high : Bool) : Bool := if r.activeLow = 1 then !high else high

/-- A sample is the one that accepts a new level (R25): the debounce count reaches the debounce time. -/
def acceptsNow (debounceTime : Nat) (accepted : Bool) (count : Nat) (active : Bool) : Bool :=
  active != accepted && decide (debounceTime ≤ count + 1)

/-- The debounce count after a sample that accepts nothing (R25). -/
def countAfter (accepted : Bool) (count : Nat) (active : Bool) : Nat := if active = accepted then 0 else count + 1

/-- The zone of a line's record. -/
def lineZone (r : LineRec) : ZoneId := Fin.ofNat 4 r.zone

/-- A line's sample at this pin level accepts a change; a line of role UNUSED accepts none (log entry 22). -/
def State.lineAccepts (s : State) (n : LineId) (high : Bool) : Bool :=
  let r := s.mu.tables.line[n]
  let x := s.iou.lines[n]
  r.role != .unused && acceptsNow r.debounce x.accepted x.debounce (sampledActive r high)

/-- The entry's firing by a line would be acted on now: accepted by R32, and the entry is not EMPTY. -/
def State.lineFires (s : State) (n : LineId) : Bool :=
  !s.iou.showStopped && modeAccepts (lineEntry n) s.iou.mode && (s.mu.tables.trig[lineEntry n]).isSome

/-- A press on a BUTTON line (R27, R32): ignored inside the lockout; an accepted one starts the lockout and fires. -/
def State.press (n : LineId) (s : State) : State :=
  if 0 < (s.iou.lines[n]).lockout then s
  else if s.lineFires n then
    ((s.onLine n fun x => { x with lockout := (s.mu.tables.line[n]).lockout }).fire (lineEntry n)
      (.visitor n)).2.judgeIndicators
  else s

/-- A break on a BEAM line (R24, R37): it acts on its zone and, with trigger on break, fires its entry. The order of the
two is open and comes with the break (log entry 4). -/
def State.breakLine (n : LineId) (zoneFirst : Bool) (s : State) : State :=
  let r := s.mu.tables.line[n]
  let fires : State → State := fun s => if r.trigOnBreak = 1 then (s.fire (lineEntry n) (.visitor n)).2 else s
  if zoneFirst then fires (s.breakZone (lineZone r)) else (fires s).breakZone (lineZone r)

/-- The runtime record as a new level is accepted (R25, R28, R29). -/
def LineRt.accept (active : Bool) (x : LineRt) : LineRt :=
  { x with accepted := active, debounce := 0, held := if active then 0 else x.held, stuck := x.stuck && active }

/-- A line's new level is accepted and acted on as its role requires (R25). -/
def State.acceptLine (n : LineId) (high : Bool) (zoneFirst : Bool) (s : State) : State :=
  let r := s.mu.tables.line[n]
  let active := sampledActive r high
  let s := s.onLine n (LineRt.accept active)
  match active, r.role with
  | true, .button => s.press n
  | true, .beam => s.breakLine n zoneFirst
  | _, _ => s

/-- The zone of a PRESENCE line is judged once the line's change has been acted on (R36). -/
def State.judgeLineZone (n : LineId) (s : State) : State :=
  if (s.mu.tables.line[n]).role = .presence then s.judgeZone (lineZone s.mu.tables.line[n]) else s

/-- The held limit of a role (R28, R29); none for the roles without stuck detection. -/
def heldLimit (u : UnitRec) : Role → Option Nat
  | .button => some u.buttonStuck
  | .presence => some u.presenceStuck
  | .beam => none
  | .unused => none

/-- The held count of a line accepted active grows; at its limit the line is stuck (R28, R29). -/
def State.heldBeat (n : LineId) (s : State) : State :=
  let x := s.iou.lines[n]
  match heldLimit s.mu.tables.unit (s.mu.tables.line[n]).role with
  | some limit =>
    if !x.accepted || x.stuck then s
    else if limit ≤ x.held + 1 then (s.onLine n fun x => { x with held := x.held + 1, stuck := true }).raiseLineStuck n
    else s.onLine n fun x => { x with held := x.held + 1 }
  | none => s

/-- The lockout of a line counts down; the indicators are judged when it runs out (R27, R35). -/
def State.lockoutBeat (n : LineId) (s : State) : State :=
  let x := s.iou.lines[n]
  if x.lockout = 0 then s
  else
    let s := s.onLine n fun x => { x with lockout := x.lockout - 1 }
    if x.lockout = 1 then s.judgeIndicators else s

/-- A line takes a beat: its sample is judged, then the held count and the lockout that were running when the beat came
are counted (R25, R27 to R29). The spec orders the accepted changes of the lines and not their counts; that a line's
held count, its LINE-STUCK and its lockout come in the line's own turn, before the changes of later lines, is the
model's choice (DESIGN CHOICE, log entry 52). So is that the firing of a line is whole, with the ARB's answer and the
request for the alternate, before a later line takes the beat (R34; DESIGN CHOICE, log entry 60). -/
def State.lineBeat (lines : BitVec 16) (zoneFirst : Bool) (n : LineId) (s : State) : State :=
  let high := lines.getLsbD n
  let r := s.mu.tables.line[n]
  let x := s.iou.lines[n]
  if r.role = .unused then s
  else if s.lineAccepts n high then
    let s := s.acceptLine n high zoneFirst
    if x.lockout = 0 then s else s.lockoutBeat n
  else
    ((s.onLine n fun x => { x with debounce := countAfter x.accepted x.debounce (sampledActive r high) }).heldBeat
      n).lockoutBeat n

/-! ### The show-stop line (R39) -/

/-- A sample of the show-stop line accepts a change. -/
def State.stopAccepts (s : State) (active : Bool) : Bool :=
  acceptsNow Config.stopDebounce s.iou.stopAccepted s.iou.stopDebounce active

/-- The show-stop line's new level is accepted; a change to active stops the show (R39, R61). -/
def State.acceptStop (active : Bool) (s : State) : State :=
  let s := s.onIou fun x => { x with stopAccepted := active, stopDebounce := 0 }
  if active then s.stopShow else s

/-- The show-stop line takes a beat (R39). -/
def State.stopLineBeat (active : Bool) (s : State) : State :=
  if s.stopAccepts active then s.acceptStop active
  else s.onIou fun x => { x with stopDebounce := countAfter x.stopAccepted x.stopDebounce active }

/-! ### The beat -/

/-- A BEAM line of a zone has its break accepted on this beat. -/
def State.breaksOn (s : State) (lines : BitVec 16) (z : ZoneId) : Bool :=
  (List.finRange 16).any fun n =>
    (s.mu.tables.line[n]).role == .beam && lineZone s.mu.tables.line[n] == z && s.lineAccepts n (lines.getLsbD n) &&
      sampledActive s.mu.tables.line[n] (lines.getLsbD n)

/-- A zone takes a beat: its occupancy is judged, and a zone that was in LINGER before the beat and had no break on it
counts down (R36, R37). R36 and R37 do not order the two; that the judgement comes first, so that a zone held by a
PRESENCE line on the beat that would take its count to 0 is OCCUPIED and not CLEAR, is the model's choice (DESIGN CHOICE,
log entry 46). -/
def State.zoneBeat (before : State) (lines : BitVec 16) (z : ZoneId) (s : State) : State :=
  let s := s.judgeZone z
  if (before.iou.zones[z]).kind = .linger ∧ !before.breaksOn lines z then s.lingerBeat z else s

/-- The IOU takes a beat (R25, R36, R37, R39). The spec orders the lines (R25) and not the zones; that the zones are
taken in the order Z0 to Z3, each whole with what its change of occupancy brings, is the model's choice (DESIGN CHOICE,
log entry 41). Nor does it place the show-stop line among them (R39): before the lines or after the zones comes with the
beat (log entry 4), and that it is never taken between the lines and the zones is the model's choice (DESIGN CHOICE, log
entry 47). Whether a break acts on its zone before or after it fires its entry is open for each break (R37); that one
operand, zoneFirst, gives every break of one beat the same order is the model's choice (DESIGN CHOICE, log entry 61). -/
def State.iouBeat (b : BeatIn) (s : State) : State :=
  let s := if b.stopFirst then s.stopLineBeat b.stopActive else s
  let before := s
  let s := forEach 16 (State.lineBeat b.lines b.zoneFirst) s
  let s := forEach 4 (State.zoneBeat before b.lines) s
  if b.stopFirst then s else s.stopLineBeat b.stopActive

end Sys2Proof.Machine
end

