-- ==== Sys2Proof/Machine/Clock.lean ====
section
/-! DEFINITION. The Show Clock (Chapter 8): the beat generator's arithmetic (R150 to R155), the calendar (R156, R157),
alarms (R158 to R160) and house modes (R161). The blocks take a beat in Beat. -/

namespace Sys2Proof.Machine

/-! ### The beat generator -/

/-- A trimmed interval's length and the accumulator after it is computed (R152). -/
def Sck.newInterval (x : Sck) : Sck :=
  let a := x.acc + x.trim
  let q := a.tdiv 10
  { x with intervalLen := (Config.beatTicks - q).toNat, acc := a - 10 * q }

/-- Trimmed intervals are used: INTERNAL, or FOLLOW in HOLDOVER (R152). -/
def Sck.isTrimmed (x : Sck) : Bool := x.source != .following

/-- The count at which the present interval ends: its length, or 150 000 in FOLLOWING (R152, R153). -/
def Sck.intervalEnd (x : Sck) : Nat := if x.isTrimmed then x.intervalLen else Config.selfMadeTicks

/-- `n` reference ticks pass at the spacing count, which is held at 110 001 (R150). -/
def Sck.spaceBy (n : Nat) (x : Sck) : Sck := { x with spacing := x.spacing.map fun c => min (c + n) Config.spacingHold }

/-- One reference tick (R150): the interval count waits at the interval's end for the event that ends it. -/
def Sck.tick (x : Sck) : Sck :=
  { x with interval := if x.interval < x.intervalEnd then x.interval + 1 else x.interval }.spaceBy 1

/-- The ticks that remain of the interval have passed and a beat is produced: the interval count returns to 0. -/
def Sck.endInterval (x : Sck) : Sck := { x.spaceBy (x.intervalEnd - x.interval) with interval := 0 }

/-- A trimmed interval ends: the next one is computed (R152). -/
def Sck.trimmedEnd (x : Sck) : Sck := x.endInterval.newInterval

/-- A self-made beat in FOLLOWING (R153): the miss count grows, and at 8 the follow state becomes HOLDOVER. -/
def Sck.selfMade (x : Sck) : Sck :=
  let y := { x.endInterval with miss := x.miss + 1 }
  if x.miss + 1 < Config.holdoverMisses then y else { y with source := .holdover, hit := 0 }.newInterval

/-- A spacing count inside the window of R154. -/
def wellSpaced (c : Option Nat) : Bool :=
  match c with
  | some c => decide (90000 ≤ c ∧ c ≤ 110000)
  | none => false

/-- A taken SYNC frame at the generator (R153 to R155), and whether it is a beat. -/
def Sck.sync (x : Sck) : Sck × Bool :=
  match x.source with
  | .internal => ({ x with spacing := some 0 }, false)
  | .following => ({ x with interval := 0, miss := 0, spacing := some 0 }, true)
  | .holdover =>
    let hit := if wellSpaced x.spacing then x.hit + 1 else 0
    if hit < Config.recoveryHits then ({ x with hit, spacing := some 0 }, false)
    else ({ x with source := .following, interval := 0, miss := 0, hit := 0, spacing := some 0 }, true)

/-- SET-TRIM at the generator (R155). -/
def Sck.setTrim (t : Int) (x : Sck) : Sck := { x with trim := t, acc := 0 }

/-- A change from FOLLOW to INTERNAL (R155): a new length at once, and a beat when the count already reaches it. -/
def Sck.toInternal (x : Sck) : Sck × Bool :=
  let y := { x with source := .internal }.newInterval
  if y.intervalLen ≤ y.interval then ({ y with interval := 0 }.newInterval, true) else (y, false)

/-- SET-BEAT-SOURCE at the generator (R155), and whether a beat falls at once. -/
def Sck.setSource (follow : Bool) (x : Sck) : Sck × Bool :=
  match follow, x.source with
  | true, .internal => ({ x with source := .following, miss := 0, hit := 0 }, false)
  | true, .following => (x, false)
  | true, .holdover => (x, false)
  | false, .internal => (x, false)
  | false, .following => x.toInternal
  | false, .holdover => x.toInternal

/-! ### The calendar (R156, R157) -/

/-- The length of a month. -/
def monthLength (year month : Nat) : Nat :=
  if month = 2 then (if year % 4 = 0 then 29 else 28)
  else if month = 4 ∨ month = 6 ∨ month = 9 ∨ month = 11 then 30
  else 31

/-- Hour 23 has passed: day and weekday advance, with the carries into month and year. -/
def Calendar.nextDay (c : Calendar) : Calendar :=
  let c := { c with weekday := if c.weekday < 6 then c.weekday + 1 else 0 }
  if c.day < monthLength c.year c.month then { c with day := c.day + 1 }
  else if c.month < 12 then { c with day := 1, month := c.month + 1 }
  else { c with day := 1, month := 1, year := if c.year < 99 then c.year + 1 else 0 }

/-- The second advances with its carries. -/
def Calendar.nextSecond (c : Calendar) : Calendar :=
  if c.second < 59 then { c with second := c.second + 1 }
  else if c.minute < 59 then { c with second := 0, minute := c.minute + 1 }
  else if c.hour < 23 then { c with second := 0, minute := 0, hour := c.hour + 1 }
  else { c with second := 0, minute := 0, hour := 0 }.nextDay

/-- A RUNNING calendar takes a beat, and whether its second changed (R156). -/
def Calendar.takeBeat (c : Calendar) : Calendar × Bool :=
  if !c.running then (c, false)
  else if c.beat < 99 then ({ c with beat := c.beat + 1 }, false)
  else ({ c with beat := 0 }.nextSecond, true)

/-- The fields of a SET-TIME lie in their ranges (R157). -/
def Calendar.inRange (c : Calendar) : Bool :=
  decide (c.year ≤ 99 ∧ 1 ≤ c.month ∧ c.month ≤ 12 ∧ 1 ≤ c.day ∧ c.day ≤ monthLength c.year c.month ∧ c.weekday ≤ 6 ∧
    c.hour ≤ 23 ∧ c.minute ≤ 59 ∧ c.second ≤ 59)

/-- An accepted SET-TIME: the calendar is written and RUNNING, and the match memory of every alarm that did not fire at
the last evaluation is cleared (R157). -/
def Sck.setTime (c : Calendar) (x : Sck) : Sck :=
  { x with
    cal := { c with running := true, beat := 0 }
    alarms := Vector.ofFn fun n =>
      if (x.alarms[n]).fired then x.alarms[n] else { x.alarms[n] with matched := false } }

/-! ### Alarms (R158 to R160) -/

/-- Each enabled field of a record equals the calendar's (R159). -/
def alarmMatches (r : AlrmRec) (c : Calendar) : Bool :=
  (!r.enables.getLsbD 0 || r.second == c.second) && (!r.enables.getLsbD 1 || r.minute == c.minute) &&
  (!r.enables.getLsbD 2 || r.hour == c.hour) && (!r.enables.getLsbD 3 || r.weekday == c.weekday) &&
  (!r.enables.getLsbD 4 || r.day == c.day) && (!r.enables.getLsbD 5 || r.month == c.month)

/-- The alarm state beside an evaluated record (R159); a SPENT or EMPTY record's marks are cleared. -/
def evalAlarm (r : Option AlrmRec) (c : Calendar) (x : AlarmRun) : AlarmRun :=
  match r with
  | none => {}
  | some r =>
    if x.spent then { x with matched := false, fired := false }
    else
      let m := alarmMatches r c
      { spent := r.once && m && !x.matched, matched := m, fired := m && !x.matched }

/-- The alarm state of a record that a load wrote (R158). -/
def loadedAlarm (r : Option AlrmRec) (c : Calendar) (x : AlarmRun) : AlarmRun :=
  match r with
  | none => {}
  | some r => { spent := false, fired := x.fired, matched := x.fired || (c.running && alarmMatches r c) }

/-- A change of house mode (R161), handed to the IOU, the ARB and the SEQ; the order of the last two is open (log
entry 4). A mode equal to the present one is no change. That the STATUS is asked for last, after the reports of the ARB's
walk, is the model's choice (DESIGN CHOICE, log entry 54). So is that the IOU and the ARB take a change in one event, so
that a press judged under the old mode never meets an ARB that holds the new one (R32, R42; DESIGN CHOICE, log entry 56). -/
def State.changeMode (m : HouseMode) (flagsFirst : Bool) (s : State) : State :=
  if s.sck.mode = m then s
  else
    let s := (s.onSck fun x => { x with mode := m }).onIou fun x => { x with mode := m }
    let clear : State → State := fun s =>
      if m = .opened ∧ s.mu.tables.unit.openClears then s.clearStoryFlags (BitVec.allOnes 32) else s
    let s := if flagsFirst then (clear s).arbHouse m else clear (s.arbHouse m)
    s.judgeIndicators.askStatus

/-- The SCK takes the show to be STOPPED when it judges an ENQUEUE (R160): what it last learned from the ARB, which is
the state before the latest change where that change races the beat. -/
def Sck.seesStopped (raced : Bool) (x : Sck) : Bool := x.showStopped != (raced && x.showNews)

/-- A firing alarm performs its action (R160). An ENQUEUE that a show stop races is judged by the ARB, which refuses it
STOPPED. -/
def State.alarmAction (n : AlarmId) (flagsFirst raced : Bool) (a : AlarmAction) (s : State) : State :=
  match a with
  | .enqueue i =>
    if s.sck.mode = .service ∨ s.sck.seesStopped raced then s else (s.request i (.schedule n) none none).2
  | .setMode m => s.changeMode m flagsFirst
  | .setFlag f => s.setStoryFlags (single f)
  | .clearFlags => s.clearStoryFlags (BitVec.allOnes 32)

/-- One record is evaluated at the calendar's present second (R159), and its action is done before the next record is
evaluated. R160 orders the actions at each receiving block; that the ARB is done with the request of a lower alarm before
the SEQ takes the flags of a higher one is the model's choice (DESIGN CHOICE, log entry 48). -/
def State.evaluateAlarm (flagsFirst raced : Bool) (n : AlarmId) (s : State) : State :=
  let r := s.mu.tables.alrm[n]
  let x := evalAlarm r s.sck.cal s.sck.alarms[n]
  let s := s.onSck fun k => { k with alarms := k.alarms.set n x }
  match r with
  | some r => if x.fired then (s.raiseAlarm n).alarmAction n flagsFirst raced r.action else s
  | none => s

/-- The SCK takes a beat for its calendar (R151, R156): a change of the second is followed by the evaluation of the
alarms in index order. Whether the SEQ or the ARB takes a house-mode change first is open for each change (R161); that
one operand, flagsFirst, gives every change of one evaluation the same order is the model's choice (DESIGN CHOICE, log
entry 62). -/
def State.sckBeat (flagsFirst raced : Bool) (s : State) : State :=
  let c := s.sck.cal.takeBeat
  let s := s.onSck fun x => { x with cal := c.1 }
  (if c.2 then forEach 8 (State.evaluateAlarm flagsFirst raced) s else s).onSck fun x => { x with showNews := false }

end Sys2Proof.Machine
end

