-- ==== Sys2Proof/Machine/Load.lean ====
section
/-! DEFINITION. LOADING and its completion (R182): the IN-USE rule (R183), the look pool, the write, and what the blocks
do with the new records. -/

namespace Sys2Proof.Machine

/-- A reply with no further fields, or with the fields given, joins the own-report queue. -/
def State.reply (code : Byte) (st : Status) (tag : Half) (fields : List Byte) (s : State) : State :=
  s.join (.reply code st tag fields)

/-! ### The IN-USE rule (R183) -/

/-- Some segment of a playing scene names a look. -/
def State.lookInUse (s : State) (i : Nat) : Bool :=
  (List.finRange 8).any fun k => match s.play k with
    | some p => (match s.scene p.scene with
      | some sc => sc.segments.any fun g => match g.look with
        | some l => l.1.val == i
        | none => false
      | none => false)
    | none => false

/-- Some PLAYING slot's current effect names a pattern. -/
def State.fxInUse (s : State) (i : Nat) : Bool :=
  (List.finRange 8).any fun k => (s.play k).isSome && match s.lco.effects[k] with
    | some e => e.pattern.val == i
    | none => false

/-- An axis's envelope may not be rewritten now (R110, R183). -/
def State.envInUse (s : State) (a : AxisId) (r : EnvRec) : Bool :=
  (s.mu.tables.env[a]).enable && !(s.mgt.axes[a]).mode.isOffline &&
    ((s.mgt.axes[a]).step != 0 || !inRange r (s.mgt.axes[a]).pos)

/-- The new ROUTE record changes the class of a stream that a slot owns. -/
def State.routeInUse (s : State) (r : RouteRec) : Bool :=
  (List.finRange 8).any fun t =>
    (r.ambient.getLsbD t != s.mu.tables.route.ambient.getLsbD t) && (s.arb.owners[streamRes t]).isSome

/-- A record written at an index is in use (R183). -/
def State.inUse (s : State) (i : Nat) : TableRec → Bool
  | .unit _ => false
  | .route r => s.routeInUse r
  | .ceil _ => false
  | .admt _ => false
  | .env r => if h : i < 32 then s.envInUse ⟨i, h⟩ r else false
  | .look _ => s.lookInUse i
  | .fx _ => s.fxInUse i
  | .scn _ => if h : i < 48 then s.isBusy ⟨i, h⟩ else false
  | .line _ => false
  | .trig _ => false
  | .alrm _ => false

/-- The index of the first record of a load that is in use. -/
def State.firstInUse (s : State) (i : Nat) : List TableRec → Option Nat
  | [] => none
  | r :: rs => if s.inUse i r then some i else s.firstInUse (i + 1) rs

/-! ### What the blocks do with the new records -/

/-- A LINE record written over an old one differs in role, zone or active level (R26). -/
def lineDiffers (old new : LineRec) : Bool :=
  old.role != new.role || old.zone != new.zone || old.activeLow != new.activeLow

/-- The zones from which a LINE load took a PRESENCE line away (R26, R36). -/
def zonesLeft (old new : Vector LineRec 16) : BitVec 4 :=
  BitVec.ofFnLE fun z => (List.finRange 16).any fun n =>
    lineDiffers old[n] new[n] && old[n].role == .presence && old[n].zone == z.val

/-- An accepted LINE load (R26): the runtime records of changed lines are reset, the zones that lost a PRESENCE line are
judged at once, and the indicators are judged. The spec does not order zones that one load makes judged; that they are
taken in the order Z0 to Z3, each whole with what its change of occupancy brings, is the model's choice (DESIGN CHOICE, log
entry 41). -/
def State.linesLoaded (old : Vector LineRec 16) (s : State) : State :=
  let new := s.mu.tables.line
  let s := s.onIou fun x => { x with
    lines := Vector.ofFn fun n => if lineDiffers old[n] new[n] then {} else x.lines[n] }
  (forEach 4 (fun z s => if (zonesLeft old new).getLsbD z then s.judgeZone z else s) s).judgeIndicators

/-- An index of a load. -/
def inLoad (l : Load) (i : Nat) : Bool := decide (l.first ≤ i ∧ i < l.first + l.recs.length)

/-- The blocks act on the records a load has written (R183; `old` is the store before it). -/
def State.afterLoad (l : Load) (old : Tables) (s : State) : State :=
  match l.table with
  | 2 => s.onNmx (Nmx.clampDuck s.mu.tables.route)
  | 5 => forEach 32 (fun a s => if inLoad l a.val then s.envLoaded a old.env[a] else s) s
  | 9 => s.linesLoaded old.line
  | 10 => s.renewIndicators
  | 11 =>
    let t := s.mu.tables.alrm
    s.onSck fun x => { x with
      alarms := Vector.ofFn fun n => if inLoad l n.val then loadedAlarm t[n] x.cal x.alarms[n] else x.alarms[n] }
  | _ => s

/-! ### Completion (R182) -/

/-- The load completes: checks 5 and 6, then the write; the reply joins and the MU is IDLE. Where a rule has the new
records act from the next beat, that a block which takes the beat of the completion after the MU acts on them on that same
beat is the model's choice (DESIGN CHOICE, log entry 53). -/
def State.completeLoad (l : Load) (s : State) : State :=
  let s := s.onMu fun x => { x with st := .idle }
  match s.firstInUse l.first l.recs with
  | some i => s.reply 1 .inUse l.tag (put16 i)
  | none =>
    let old := s.mu.tables
    let new := writeRecs old l.first l.recs
    if l.table = 6 ∧ Config.lookPool < pairsInUse new then s.reply 1 .noSpace l.tag []
    else ((s.onMu fun x => { x with tables := new }).afterLoad l old).reply 1 .done l.tag []

/-- The MU takes a beat (R182). -/
def State.muBeat (s : State) : State :=
  match s.mu.st with
  | .loading l =>
    if l.writes ≤ 1 then s.completeLoad l
    else s.onMu fun x => { x with st := .loading { l with writes := l.writes - 1 } }
  | .idle => s
  | .resetPending => s

end Sys2Proof.Machine
end

