-- ==== Sys2Proof/Machine/Status.lean ====
section
/-! DEFINITION. The STATUS body (Section 11.3): eleven sections, each composed from the block that owns its state, as the
rule named lists its items. The layout choices that Section 11.3 leaves to a reader are gathered in log entry 24. -/

namespace Sys2Proof.Machine

/-! ### Item forms (Section 11.3) -/

/-- A list in index order. -/
def putEach {n : Nat} (f : Fin n → List Byte) : List Byte := (List.finRange n).flatMap f

/-- A conditional item: 1 and its bytes, or 0 and as many zero bytes. -/
def putCond (width : Nat) : Option (List Byte) → List Byte
  | some bs => 1 :: bs
  | none => 0 :: List.replicate width 0

/-- A list of varying length, preceded by its one-byte count. -/
def putList {α : Type} (f : α → List Byte) (l : List α) : List Byte := put8 l.length ++ l.flatMap f

/-- A section: its id, its length and its contents. -/
def putSection (id : Nat) (bs : List Byte) : List Byte := put8 id ++ put16 bs.length ++ bs

/-- Kind and number of a source: the choice byte and its argument, 255 for SERVER. -/
def sourceBytes : Source → List Byte
  | .visitor n => put8 0 ++ put8 n.val
  | .virtual n => put8 1 ++ put8 n.val
  | .schedule n => put8 2 ++ put8 n.val
  | .server => put8 3 ++ put8 255

/-- A freshness: FRESH 0, STALE 1. -/
def freshByte (fresh : Bool) : List Byte := putBool (!fresh)

/-- A position item; −32768 for "stop" or no position. -/
def targetBytes : Option Target → List Byte
  | some (.pos p) => putI16 p
  | some .stop => putI16 Config.motionHold
  | none => putI16 Config.motionHold

/-! ### Section 1: the SLI's part (R175) -/

/-- The notices of R174 with what they carry. -/
def State.noticeBytes (s : State) : List Byte :=
  putBool s.sli.linkError ++ putSet (s.sli.linkSides ++ s.sli.linkCauses) ++
  putBool s.sli.thruOverrun ++ putBool s.sli.reportOverrun ++ putBool s.sli.queueFull ++
  putBool s.sli.lineStuck ++ putSet s.sli.stuckLines ++ putBool s.sli.alarm ++ putSet s.sli.alarmNumbers ++
  putEach (fun z : ZoneId => putBool (s.sli.powerFault.getLsbD z)) ++
  putEach (fun z : ZoneId => putBool (s.ports[z]).unlisted) ++ putEach (fun z : ZoneId => putBool (s.ports[z]).conflict)

/-- The SLI's part, under an upstream sequence number and a number of reports behind the STATUS. -/
def State.sliSection (s : State) (seq : Half) (behind : Nat) : List Byte :=
  put8 s.sli.ownAddr.toNat ++ put16 seq.toNat ++ put16 s.sli.lastTaken.toNat ++
  putEach (fun i : Fin 44 => freshByte (s.sli.sources[i]).fresh ++ put8 (s.sli.sources[i]).age) ++
  put8 behind ++ putBool s.sli.owed ++ put8 s.sli.forward.length ++ put16 s.sli.badFrames.toNat ++
  put8 s.mu.tables.unit.staleLimit ++ put16 s.mu.tables.unit.statusInterval ++ putBool s.mu.tables.unit.autoClear ++
  s.noticeBytes

/-! ### Section 2: the show clock (R162) -/

/-- EMPTY 0, ARMED 1, SPENT 2. -/
def alarmState (r : Option AlrmRec) (x : AlarmRun) : Nat := if r.isNone then 0 else if x.spent then 2 else 1

/-- The calendar's state, UNSET 0 or RUNNING 1, and its eight fields (R156; also the REPLY to READ-TIME). -/
def calendarBytes (c : Calendar) : List Byte :=
  putBool c.running ++ put8 c.year ++ put8 c.month ++ put8 c.day ++ put8 c.weekday ++ put8 c.hour ++ put8 c.minute ++
    put8 c.second ++ put8 c.beat

/-- The show clock. -/
def State.clockSection (s : State) : List Byte :=
  put8 (if s.sck.source = .internal then 0 else 1) ++
  putCond 3 (if s.sck.source = .internal then none
    else some (putBool (s.sck.source == .holdover) ++ put8 s.sck.miss ++ put8 s.sck.hit)) ++
  putI16 s.sck.trim ++ calendarBytes s.sck.cal ++
  putEach (fun n : AlarmId => put8 (alarmState s.mu.tables.alrm[n] s.sck.alarms[n])) ++
  put8 (modeByte s.sck.mode) ++ putBool s.sli.alarm ++ putSet s.sli.alarmNumbers

/-! ### Section 3: lines, zones, the show-stop line and indicators (R40) -/

/-- CLEAR 0, OCCUPIED 1, LINGER 2. -/
def occByte : OccKind → Nat
  | .clear => 0
  | .occupied => 1
  | .linger => 2

/-- DARK 0, BUSY 1, READY 2. -/
def indicatorByte : Indicator → Nat
  | .dark => 0
  | .busy => 1
  | .ready => 2

/-- A line: role, accepted level (active 0, inactive 1), stuck mark and, for a BUTTON line, its lockout count. -/
def State.lineBytes (s : State) (n : LineId) : List Byte :=
  let x := s.iou.lines[n]
  let r := (s.mu.tables.line[n]).role
  put8 (roleByte r) ++ putBool (!x.accepted) ++ putBool x.stuck ++
    putCond 2 (if r = .button then some (put16 x.lockout) else none)

/-- The inputs. -/
def State.inputSection (s : State) : List Byte :=
  putEach s.lineBytes ++
  putEach (fun z : ZoneId => put8 (occByte (s.iou.zones[z]).kind) ++
    putCond 2 (if (s.iou.zones[z]).kind = .linger then some (put16 (s.iou.zones[z]).count) else none)) ++
  putBool (!s.iou.stopAccepted) ++
  putEach (fun n : EntryId => putCond 1 ((s.iou.indicators[n]).map fun i => put8 (indicatorByte i)))

/-! ### Sections 4 to 6: requests, owners and the outcome log (R64) -/

/-- The show state (RUNNING 0, STOPPED 1) and the queued requests in queue order. -/
def State.requestSection (s : State) : List Byte :=
  putBool s.arb.showStopped ++ putList (fun r : Request =>
    put8 r.scene.val ++ sourceBytes r.source ++ put8 r.priority ++ put16 r.deadline) s.arb.queue

/-- The owners of the 96 resources. -/
def State.ownerSection (s : State) : List Byte := putEach fun i : ResourceId => putOpt s.arb.owners[i]

/-- The place of a refusal code in the list of R42 (R64). The list names NOT-READY for two checks; that each code is
counted once, at its first check, is the model's choice (DESIGN CHOICE, log entry 50). -/
def refuseByte : RefuseCode → Nat
  | .stopped => 0
  | .notReady => 1
  | .duplicate => 2
  | .ineligible => 3
  | .queueFull => 4

/-- The place of a departure reason in the list of R48, in which STARTED is 0. -/
def departureByte : Departure → Nat
  | .ineligible => 1
  | .timedOut => 2
  | .house => 3
  | .stopped => 4
  | .showStop => 5

/-- An outcome: STARTED, refusal, departure or PREEMPTED, its argument, and for PREEMPTED the slot that ended. -/
def outcomeBytes : OutcomeKind → List Byte
  | .started k => put8 0 ++ put8 k.val ++ putCond 1 none
  | .refused c => put8 1 ++ put8 (refuseByte c) ++ putCond 1 none
  | .departed d => put8 2 ++ put8 (departureByte d) ++ putCond 1 none
  | .preempted k new => put8 3 ++ put8 new.val ++ putCond 1 (some (put8 k.val))

/-- The outcome log, oldest first. -/
def State.logSection (s : State) : List Byte :=
  putList (fun e : LogEntry => put16 e.number.toNat ++ put8 e.scene.val ++ sourceBytes e.source ++ put8 e.priority ++
    outcomeBytes e.kind ++ putCond 2 (e.tag.map fun t => put16 t.toNat)) s.arb.log

/-! ### Section 7: slot records (R23) -/

/-- The place of an end reason in the list of R5. -/
def endByte : EndReason → Nat
  | .complete => 0
  | .stopped => 1
  | .preempted => 2
  | .abandoned => 3
  | .showStop => 4
  | .reset => 5

/-- The place of a cue state in the list of R94. -/
def cueStateByte : CueState → Nat
  | .requested => 0
  | .pending => 1
  | .live => 2
  | .done => 3
  | .failed => 4
  | .lost => 5

/-- The cue state of a slot record: none 0, then REQUESTED to LOST as 1 to 6. -/
def slotCueByte : Option Cue → Nat
  | some c => cueStateByte c.state + 1
  | none => 0

/-- A slot record, 16 bytes. -/
def State.slotBytes (s : State) (k : SlotId) : List Byte :=
  match s.seq.slots[k] with
  | .playing p =>
    put8 1 ++ put8 p.scene.val ++ sourceBytes p.source ++ put8 p.priority ++ put16 p.position ++ put8 p.segment ++
      put8 p.plays ++ putSet p.marks ++ put8 (slotCueByte s.nmx.cues[k]) ++ List.replicate 5 0
  | .free last reason => put8 0 ++ putOpt last ++ List.replicate 9 0 ++ put8 (endByte reason) ++ List.replicate 4 0

/-! ### Section 8: light composition (R89) -/

/-- Number of a zone's channels whose base levels carry the stale mark. -/
def Lco.staleCount (z : ZoneId) (x : Lco) : Nat :=
  ((List.finRange 192).filter fun i => (x.channels[globalChannel z i]).stale).length

/-- A slot's effect: pattern, phase, parity of the period count, and the state of the last composed beat, HIGH 0 or LOW
1; that of an effect not composed yet is a free value (log entry 13). -/
def State.effectBytes (s : State) (k : SlotId) : List Byte :=
  putCond 5 ((s.lco.effects[k]).map fun e =>
    put8 e.pattern.val ++ put16 e.phase ++ putBool (e.count.getLsbD 0) ++
      putBool (e.lastLow.getD (Config.uncomposedLow (s.free + k.val))))

/-- The LCO's part. -/
def State.lightSection (s : State) : List Byte :=
  putEach (fun z : ZoneId => put16 s.lco.masters[z] ++ put8 (s.lco.staleCount z)) ++
  put16 (pairsInUse s.mu.tables) ++ putEach s.effectBytes

/-! ### Section 9: streams, outputs and cues (R108) -/

/-- A slot's cue: number, clip, state and, in PENDING, the wait remaining. -/
def cueBytes (c : Option Cue) : List Byte :=
  putCond 8 (c.map fun c => put16 c.number.toNat ++ put16 c.clip ++ put8 (cueStateByte c.state) ++
    putCond 2 (if c.state = .pending then some (put16 c.remaining) else none))

/-- The NMX's part. -/
def State.soundSection (s : State) : List Byte :=
  putEach (fun t : StreamId => putBool (s.mu.tables.route.ambient.getLsbD t) ++ freshByte (s.isFresh (.stream t))) ++
  putEach (fun o : OutputId => put16 s.nmx.duck[o] ++ putBool (s.nmx.present.getLsbD o) ++ putBool (s.nmx.liveAt o)) ++
  putEach fun k : SlotId => cueBytes s.nmx.cues[k]

/-! ### Section 10: axes (R127) -/

/-- Mode and cause (R127): the mode's place in R112 and a cause. The spec numbers no causes of a mode; that a cause which
R112 gives a name is its place within its mode, and that GUARDED, HOLDING and TRACKING, whose causes R112 describes and
does not name, carry 255, is the model's choice (DESIGN CHOICE, log entry 50). -/
def axisModeBytes : AxisMode → List Byte
  | .disabledNoEnvelope => [0, 0]
  | .disabledOutOfRange => [0, 1]
  | .offlineCensus => [1, 0]
  | .offlinePower => [1, 1]
  | .guarded => [2, 255]
  | .holding => [3, 255]
  | .tracking => [4, 255]

/-- An axis. That the guarded mark is sent as 1 when set, like every mark of STATUS, is the model's choice (DESIGN CHOICE,
log entry 50). -/
def State.axisBytes (s : State) (a : AxisId) : List Byte :=
  let x := s.mgt.axes[a]
  axisModeBytes x.mode ++ putI16 x.pos ++ putI16 x.step ++ putBool x.present ++ putOpt (s.axisOwner a) ++
    targetBytes x.lastTarget ++
    putCond 6 (x.keyframe.map fun k => putI16 k.target ++ put16 k.elapsed ++ put16 k.travel) ++
    putI16 x.setpoint ++ freshByte (s.isFresh (.setpoint a)) ++ putBool x.guarded ++ put16 x.rearm

/-! ### Section 11: zone ports (R149) -/

/-- Number of records of a test. -/
def Port.count (test : Option CensusRec → Bool) (p : Port) : Nat := (p.census.toList.filter test).length

/-- A zone's port; the motion power is an on/off field (R187: 1 for ON). -/
def portBytes (fault : Bool) (p : Port) : List Byte :=
  put8 (p.count isAdmitted) ++ put8 (p.count isConflict) ++ put8 (p.count isRefused) ++ put8 (p.count isLost) ++
  put8 (p.count fun r => r.isNone) ++ putBool p.changeFlag ++ putBool (!p.armed) ++ putBool p.unlisted ++
  putBool p.conflict ++ putBool fault ++ putBool p.powerOff.isNone ++ putCond 1 (p.powerOff.map put8) ++
  putBool p.sweep.isSome ++ putCond 1 (p.sweep.map fun q => put8 (q.val + 1)) ++ put16 p.superseded.toNat ++
  put16 p.discarded.toNat

/-- A STATUS body, composed from the state as it stands, under an upstream sequence number and a number of reports
behind it (R173, R175). -/
def State.statusBody (s : State) (seq : Half) (behind : Nat) : List Byte :=
  putSection 1 (s.sliSection seq behind) ++ putSection 2 s.clockSection ++ putSection 3 s.inputSection ++
  putSection 4 s.requestSection ++ putSection 5 s.ownerSection ++ putSection 6 s.logSection ++
  putSection 7 (putEach s.slotBytes) ++ putSection 8 s.lightSection ++ putSection 9 s.soundSection ++
  putSection 10 (putEach s.axisBytes) ++
  putSection 11 (putEach fun z : ZoneId => portBytes (s.sli.powerFault.getLsbD z) s.ports[z])

/-- The counter of free values after a status image was composed: one index for each slot's effect has been read. -/
def State.afterImage (s : State) : State := { s with free := s.free + 8 }

end Sys2Proof.Machine
end

