-- ==== Sys2Proof/Machine/Resets.lean ====
section
/-! DEFINITION. The resets: the soft-reset values of each block as its chapter gives them (R186 and the rules cited), and
the full reset as an event on a running machine. -/

namespace Sys2Proof.Machine

/-- SLI (R171, R172, R174): the own-report queue is emptied and the STATUS of the reset joins it; the owed mark is clear
and the status interval count is 0; the rest is kept. -/
def Sli.softReset (x : Sli) : Sli := { x with ownQueue := [.status], owed := false, statusCount := 0 }

/-- MU (R176): IDLE with its tables kept. -/
def Mu.softReset (x : Mu) : Mu := { x with st := .idle }

/-- SCK (R150, R156, R158, R161): everything kept, but for the show state of the same reset (R61). -/
def Sck.softReset (stopped : Bool) (x : Sck) : Sck := { x with showStopped := stopped, showNews := false }

/-- IOU (R26, R38, R39, R61): lines, zones and the show-stop line are set anew; the house mode is kept. The indicators
are judged after all blocks have taken the reset. -/
def Iou.softReset (stopped : Bool) (x : Iou) : Iou :=
  { x with lines := Vector.replicate 16 {}, zones := Vector.replicate 4 {}, stopAccepted := stopped, stopDebounce := 0,
           showStopped := stopped }

/-- ARB (R38, R47, R49, R61, R64): queue, claims and log are emptied; the log's numbering and the house mode are kept. -/
def Arb.softReset (stopped : Bool) (x : Arb) : Arb :=
  { x with queue := [], owners := Vector.replicate 96 none, showStopped := stopped, log := [],
           occ := Vector.replicate 4 .clear }

/-- LCO (R66, R73 to R75, R86): layers, effects and LIVE marks are dropped; base levels, masters and presence are kept. -/
def Lco.softReset (x : Lco) : Lco := { x.dropAll with cueLive := 0 }

/-- NMX (R94, R105, R107): no cue, no ramp, every duck gain 4096; the cue numbering and the presence are kept. -/
def Nmx.softReset (x : Nmx) : Nmx :=
  { x with cues := Vector.replicate 8 none, ramps := Vector.replicate 8 none, duck := Vector.replicate 8 4096 }

/-- One axis (R126): its scene target and keyframe go, the reset-hold mark is set unless it is DISABLED or OFFLINE, and
an axis with a guard zone set starts its re-arm countdown. The rule neither keeps nor removes the target of the last beat;
that it is kept is the model's choice (DESIGN CHOICE, log entry 43). -/
def Axis.softReset (e : EnvRec) (x : Axis) : Axis :=
  let y := { x with sceneTarget := none, keyframe := none, resetHold := x.mode.isSending }
  if e.guardZones = 0 then y else { y with rearm := e.rearm, guarded := decide (0 < e.rearm) }

/-- MGT (R126, R38, R61). -/
def Mgt.softReset (env : Vector EnvRec 32) (stopped : Bool) (x : Mgt) : Mgt :=
  { x with
    axes := Vector.ofFn fun a => (x.axes[a]).softReset env[a]
    occ := Vector.replicate 4 .clear
    showStopped := stopped }

/-- A port (R128): the audio queue is emptied; the rest is kept. -/
def Port.softReset (p : Port) : Port := { p with audio := [] }

/-- The soft reset takes effect in every block (R186), finding this level at SHOWSTOP_N (R39); the axes' modes and the
indicators are then judged (R112, R35). -/
def State.softReset (stopped : Bool) (s : State) : State :=
  State.renewIndicators <| State.judgeAxes
    { s with
      sli := s.sli.softReset
      mu := s.mu.softReset
      sck := s.sck.softReset stopped
      iou := s.iou.softReset stopped
      arb := s.arb.softReset stopped
      seq := {}
      lco := s.lco.softReset
      nmx := s.nmx.softReset
      mgt := s.mgt.softReset s.mu.tables.env stopped
      ports := Vector.ofFn fun z => (s.ports[z]).softReset }

/-- A full reset ends (R180 and each block's rules): every field takes its full-reset value. The command queue and the
counter of free values are the model's own and go on. -/
def State.fullReset (addrPins : BitVec 4) (stopActive : Bool) (s : State) : State :=
  { State.afterFullReset addrPins stopActive with free := s.free, pending := s.pending }

end Sys2Proof.Machine
end

