-- ==== Sys2Proof/Machine/Link.lean ====
section
/-! DEFINITION. The Show Link Interface (Chapter 9): routing and judging of received frames (R164 to R168), source ages
(R170), the status interval (R172), and the two transmitters (R167, R169, R173). -/

namespace Sys2Proof.Machine

/-! ### Source freshness (R170) and the status interval (R172) -/

/-- The 44 sources in the order of STATUS. -/
def allSources : List SourceId :=
  (List.finRange 4).map .light ++ (List.finRange 8).map .stream ++ (List.finRange 32).map .setpoint

/-- The block concerned takes a source's change to STALE (R68, R98, R116). -/
def State.handStale (src : SourceId) (s : State) : State :=
  match src with
  | .light z => s.onLco (Lco.markStale z)
  | .stream t => s.streamStale t
  | .setpoint a => s.judgeAxis a

/-- The age a source has after a beat. -/
def nextAge (x : Src) : Nat := min (x.age + 1) 255

/-- A source becomes STALE on the next beat: it is FRESH, and its age will then have reached the UNIT stale limit. -/
def State.goesStale (s : State) (src : SourceId) : Bool :=
  (s.sli.sources[sourceIndex src]).fresh && decide (s.mu.tables.unit.staleLimit ≤ nextAge s.sli.sources[sourceIndex src])

/-- One source takes a beat (R170). -/
def State.sourceBeat (src : SourceId) (s : State) : State :=
  let x := s.sli.sources[sourceIndex src]
  let stale := s.goesStale src
  let s := s.onSli fun y => { y with
    sources := y.sources.set (sourceIndex src) { age := nextAge x, fresh := x.fresh && !stale } }
  if stale then s.handStale src else s

/-- The status interval ends on the next beat (R172). -/
def State.statusDue (s : State) : Bool := decide (s.mu.tables.unit.statusInterval ≤ s.sli.statusCount + 1)

/-- The status interval count takes a beat (R172). -/
def State.statusBeat (s : State) : State :=
  if s.statusDue then (s.onSli fun x => { x with statusCount := 0 }).askStatus
  else s.onSli fun x => { x with statusCount := x.statusCount + 1 }

/-- The SLI takes a beat (R170, R172). The spec does not order the sources; that they are taken in the order of STATUS,
and with them the CUE CANCEL LOST reports of one beat (R98), all before the status interval is counted, is the model's
choice (DESIGN CHOICE, log entry 39). -/
def State.sliBeat (s : State) : State := (allSources.foldl (fun s src => s.sourceBeat src) s).statusBeat

/-! ### Reception (R164 to R168) -/

/-- A frame's address is the unit's own or broadcast (R165). -/
def State.takes (s : State) (addr : Byte) : Bool := isBroadcast addr || addr == s.sli.ownAddr.zeroExtend 8

/-- A valid downstream frame arrives at IN (R165, R166): a frame for another unit is passed on; a taken frame is recorded
and acted on, or discarded with FORMAT when it disagrees with its layout; a broadcast frame is passed on as well. -/
def State.receive (f : Frame) (act : State → State) (s : State) : State :=
  if s.takes f.addr then
    let s := s.onSli fun x => { x with lastTaken := f.seq }
    let s := if agrees f then act s else s.linkError .format .inSide
    if isBroadcast f.addr then s.passOn f else s
  else s.passOn f

/-- A LIGHT frame reaches its block (R67); a zone byte of 4 to 255 writes nothing and carries no source. -/
def State.lightArrival (body : List Byte) (s : State) : State :=
  if h : u8 body 0 < 4 then
    (s.onLco (Lco.writeZone ⟨u8 body 0, h⟩ (fun i => u16 body (4 + 2 * i)) (u16 body 2))).refresh (.light ⟨u8 body 0, h⟩)
  else s

/-- A SOUND frame reaches its block (R93); its sources are refreshed as part of the handing (R170). -/
def State.soundFrameArrival (body : List Byte) (s : State) : State :=
  match soundBody body with
  | some blocks => (s.refreshStreams blocks).soundArrival blocks
  | none => s

/-- A valid frame arrives at THRU (R168). -/
def State.thruArrival (f : Frame) (s : State) : State :=
  if s.sli.forward.length < Config.forwardCap then s.onSli fun x => { x with forward := x.forward ++ [f] }
  else s.raiseThruOverrun

/-- The cause of LINK-ERROR for a dropped frame (R164). -/
def BadCause.link : BadCause → LinkCause
  | .length => .length
  | .crc => .crc

/-- Bytes received at a side that make no valid frame are dropped (R164). -/
def State.dropBad (side : Side) (bytes : List Byte) (s : State) : State :=
  match judgeBytes bytes with
  | .error c => s.linkError c.link side
  | .ok _ => s

/-! ### The IN transmitter (R169, R173) -/

/-- The body of a CUE report, 10 bytes. -/
def cueBody (kind : Nat) (i : CueInfo) (cause : Nat) : List Byte :=
  put8 kind ++ put16 i.number.toNat ++ put8 i.slot.val ++ put8 i.scene.val ++ put8 i.zone.val ++ put8 i.stream.val ++
    put16 i.clip ++ put8 cause

/-- The number of a cancellation cause (Section 11.1). -/
def causeByte : CancelCause → Nat
  | .replaced => 0
  | .complete => 1
  | .stopped => 2
  | .preempted => 3
  | .abandoned => 4
  | .showStop => 5
  | .lost => 6

/-- The number of a REPLY status code (Section 11.2). -/
def statusByte : Status → Nat
  | .done => 0
  | .busy => 1
  | .badCommand => 2
  | .badTable => 3
  | .badRange => 4
  | .badCheck => 5
  | .badRecord => 6
  | .inUse => 7
  | .noSpace => 8
  | .notReady => 9
  | .queueFull => 10
  | .ineligible => 11
  | .duplicate => 12
  | .stopped => 13

/-- Kind and body of a report that leaves now (R173); `behind` reports wait behind it. -/
def State.reportFrame (s : State) (behind : Nat) : Report → Byte × List Byte
  | .status => (9, s.statusBody s.sli.upSeq behind)
  | .cueStart i => (10, cueBody 0 i 0)
  | .cueCancel i c => (10, cueBody 1 i (causeByte c))
  | .reply code st tag fields => (11, code :: put8 (statusByte st) ++ put16 tag.toNat ++ fields)

/-- The report is the REPLY DONE of the RESET command that the MU waits for (R186). -/
def State.isResetReply (s : State) : Report → Bool
  | .reply code st _ _ => s.mu.st == .resetPending && code == 20 && st == .done
  | .status => false
  | .cueStart _ => false
  | .cueCancel _ _ => false

/-- What a departure does in the SLI: the report leaves the queue under the next upstream sequence number, and an owed
STATUS joins within it (R169, R172). -/
def Sli.departed (f : Frame) (rest : List Report) (x : Sli) : Sli :=
  { x with
    ownQueue := if x.owed then rest ++ [.status] else rest
    owed := false, servedOwn := true, upSeq := x.upSeq + 1, inTx := some f }

/-- What a departure does by its kind (R173, R186). -/
def State.afterDeparture (stopActive : Bool) (r : Report) (reset : Bool) (s : State) : State :=
  match r with
  | .status =>
    let s := s.afterImage
    if s.mu.tables.unit.autoClear then s.onSli (Sli.clearNotices (BitVec.allOnes 7) (BitVec.allOnes 4)) else s
  | .cueStart i => s.cueDeparted i
  | .cueCancel _ _ => s
  | .reply _ _ _ _ => if reset then s.softReset stopActive else s

/-- An own report leaves the transmitter (R169, R173). -/
def State.sendReport (stopActive : Bool) (r : Report) (rest : List Report) (s : State) : State :=
  let kb := { s with sli := { s.sli with ownQueue := rest } }.reportFrame rest.length r
  let f : Frame := { addr := s.sli.ownAddr.zeroExtend 8, kind := kb.1, seq := s.sli.upSeq, body := kb.2 }
  (s.onSli (Sli.departed f rest)).afterDeparture stopActive r (s.isResetReply r)

/-- A forwarded frame leaves the transmitter, unchanged (R168, R169). -/
def State.sendForward (f : Frame) (rest : List Frame) (s : State) : State :=
  s.onSli fun x => { x with forward := rest, servedOwn := false, inTx := some f }

/-- The arbiter takes an own report next (R169). -/
def Sli.ownNext (x : Sli) : Bool := !x.ownQueue.isEmpty && (x.forward.isEmpty || !x.servedOwn)

/-- The IN transmitter is free and chooses the next frame (R169). -/
def State.inNext (stopActive : Bool) (s : State) : State :=
  if s.sli.ownNext then
    match s.sli.ownQueue with
    | r :: rest => s.sendReport stopActive r rest
    | [] => s
  else
    match s.sli.forward with
    | f :: rest => s.sendForward f rest
    | [] => s.onSli fun x => { x with inTx := none }

/-- The next departure is the one at which a pending soft reset takes effect (R171, R186). -/
def State.resetLeaves (s : State) : Bool :=
  s.sli.ownNext && (match s.sli.ownQueue with
    | r :: _ => s.isResetReply r
    | [] => false)

/-- The THRU transmitter is free and sends the next frame to be passed on (R167). -/
def State.thruNext (s : State) : State :=
  s.onSli fun x => match x.thruQueue with
    | f :: rest => { x with thruQueue := rest, thruTx := some f }
    | [] => { x with thruTx := none }

end Sys2Proof.Machine
end

