-- ==== Sys2Proof/Machine/Beat.lean ====
section
/-! DEFINITION. A beat is one event handed to every block that counts beats (R151); the order in which the blocks take it
is open and comes with the beat (log entry 4). -/

namespace Sys2Proof.Machine

/-- The thirteen blocks that take a beat. -/
def allBlocks : List Block :=
  [.sli, .mu, .sck, .iou, .arb, .seq, .lco, .nmx, .mgt, .port 0, .port 1, .port 2, .port 3]

/-- An order in which every block takes the beat once: the given order without repeats, then the blocks it leaves out. -/
def fullOrder (order : List Block) : List Block :=
  order.eraseDups ++ allBlocks.filter fun k => !order.contains k

/-- One block takes a beat. -/
def State.blockBeat (b : BeatIn) (s : State) : Block → State
  | .sli => s.sliBeat
  | .mu => s.muBeat
  | .sck => s.sckBeat b.flagsFirst b.showRaced
  | .iou => s.iouBeat b
  | .arb => s.arbBeat
  | .seq => s.seqBeat
  | .lco => s.lcoBeat
  | .nmx => s.nmxBeat
  | .mgt => s.mgtBeat
  | .port z => s.portBeat z (b.sense.getLsbD z)

/-- Every block takes a beat (R151). -/
def State.beat (b : BeatIn) (s : State) : State := (fullOrder b.order).foldl (State.blockBeat b) s

/-- A taken SYNC frame at the SCK (R153 to R155). -/
def State.syncArrival (b : BeatIn) (s : State) : State :=
  let r := s.sck.sync
  let s := s.onSck fun _ => r.1
  if r.2 then s.beat b else s

end Sys2Proof.Machine
end

