-- ==== Sys2Proof/Machine/Commands.lean ====
section
/-! DEFINITION. The meanings of the COMMAND rows (Chapter 10): how the MU judges and answers a command (R176, R177), and
each command's execution (R178, R179, R181, R184, R186). -/

namespace Sys2Proof.Machine

/-! ### Judging and answering -/

/-- A REPLY's status code and fields. -/
abbrev Result := Status × List Byte

/-- The answer that joins the own-report queue when an execution is finished; `none` when the execution answers itself
or later. -/
def State.answer (code : Byte) (tag : Half) (r : Option Result × State) : State :=
  match r.1 with
  | some x => r.2.reply code x.1 tag x.2
  | none => r.2

/-- A COMMAND frame at the MU (R176, R177): a broadcast command is executed in every state and never answered; an
addressed one is answered BUSY unless the MU is IDLE, then judged for form and range, then executed and answered. -/
def State.judgeCommand (code : Byte) (c : Cmd) (form range : Bool) (run : State → Option Result × State) (s : State) :
    State :=
  if isBroadcast c.addr then (if form && range then (run s).2 else s)
  else if s.mu.st ≠ .idle then s.reply code .busy c.tag []
  else if !form then s.reply code .badCommand c.tag []
  else if !range then s.reply code .badRange c.tag []
  else State.answer code c.tag (run s)

/-- A COMMAND frame arrives at IN and, when it is taken and agrees with its layout, reaches the MU. -/
def State.command (code : Byte) (c : Cmd) (form range : Bool) (run : State → Option Result × State) (s : State) : State :=
  s.receive (Cmd.frame c code) (State.judgeCommand code c form range run)

/-- An execution that only changes the state, answered DONE. -/
def doneBy (f : State → State) (s : State) : Option Result × State := (some (.done, []), f s)

/-- An execution that only reads the state, answered DONE with these fields. -/
def doneWith (f : State → List Byte) (s : State) : Option Result × State := (some (.done, f s), s)

/-! ### LOAD-TABLE and READ-TABLE -/

/-- The length of data with its padding (R180). -/
def paddedLength (n : Nat) : Nat := (n + 15) / 16 * 16

/-- A LOAD-TABLE body carries its header and the padded length (R180). -/
def loadForm (b : List Byte) : Bool := decide (10 ≤ b.length) && b.length == 10 + paddedLength (u16 b 6)

/-- The capacity of a table and whether a range of its records exists (R181, checks 1 and 2). -/
def judgeRange (table first count : Nat) : Option Status :=
  match tableCapacity table with
  | none => some .badTable
  | some cap => if 1 ≤ count ∧ first + count ≤ cap then none else some .badRange

/-- The write count of a load (R182). -/
def writeCount (dataLength : Nat) : Nat := (paddedLength dataLength + 2047) / 2048

/-- LOAD-TABLE at an IDLE MU (R181): the checks in order, then LOADING. -/
def State.runLoad (tag : Half) (b : List Byte) (s : State) : Option Result × State :=
  let table := u8 b 1
  let first := u16 b 2
  let count := u16 b 4
  let data := (b.drop 10).take (u16 b 6)
  if u8 b 0 ≠ 0xC5 then (some (.badTable, []), s)
  else match judgeRange table first count with
    | some st => (some (st, []), s)
    | none =>
      if u16 b 8 ≠ (crc16 data).toNat then (some (.badCheck, []), s)
      else match checkLoad table s.mu.tables first count data with
        | .error i => (some (.badRecord, put16 i), s)
        | .ok recs =>
          (none, s.onMu fun x => { x with st := .loading { tag, table, first, recs, writes := writeCount (u16 b 6) } })

/-- As many whole records of a table, from an index on, as fit in `room` bytes (R184). -/
def recordsFrom (t : Tables) (table : Nat) : Nat → Nat → Nat → List (List Byte)
  | 0, _, _ => []
  | n + 1, i, room =>
    match readRec t table i with
    | some r => if (recBytes r).length ≤ room then recBytes r :: recordsFrom t table n (i + 1) (room - (recBytes r).length) else []
    | none => []

/-- READ-TABLE (R184): a REPLY body holds 9 bytes before the records. -/
def State.runRead (b : List Byte) (s : State) : Option Result × State :=
  match judgeRange (u8 b 0) (u16 b 1) (u16 b 3) with
  | some st => (some (st, []), s)
  | none =>
    let recs := recordsFrom s.mu.tables (u8 b 0) (u16 b 3) (u16 b 1) (Config.bodyMax - 9)
    (some (.done, put8 (u8 b 0) ++ put16 (u16 b 1) ++ put16 recs.length ++ recs.flatten), s)

/-- LOAD_TABLE (R181). -/
def execLoadTable (c : Cmd) (s : State) : Host.Outcome State Fault Refusal :=
  .next (s.command 1 c (loadForm c.fields) true (State.runLoad c.tag c.fields))

/-- READ_TABLE (R184). -/
def execReadTable (c : Cmd) (s : State) : Host.Outcome State Fault Refusal :=
  .next (s.command 2 c (c.fields.length == 5) true (State.runRead c.fields))

/-! ### State commands -/

/-- The status image of READ-STATUS (R179); its upstream sequence number is a free value (log entry 12). -/
def State.runImage (s : State) : Option Result × State :=
  (some (.done, s.statusBody (Config.imageSequence s.free) s.sli.ownQueue.length), s.afterImage)

/-- READ_STATUS (R179). -/
def execReadStatus (c : Cmd) (s : State) : Host.Outcome State Fault Refusal :=
  .next (s.command 3 c c.fields.isEmpty true State.runImage)

/-- READ-CENSUS for a zone (R145). -/
def State.runCensus (z : ZoneId) (s : State) : Option Result × State :=
  let p := s.ports[z]
  (some (.done, put8 z.val ++ putEach fun q : PosId => censusBytes q p.census[q]), s.onPort z Port.censusRead)

/-- READ_CENSUS (R145). -/
def execReadCensus (c : Cmd) (s : State) : Host.Outcome State Fault Refusal :=
  .next (s.command 4 c (c.fields.length == 1) (decide (u8 c.fields 0 < 4))
    (State.runCensus (Fin.ofNat 4 (u8 c.fields 0))))

/-- CENSUS_SWEEP (R141). -/
def execCensusSweep (c : Cmd) (s : State) : Host.Outcome State Fault Refusal :=
  .next (s.command 5 c (c.fields.length == 1) (decide (u8 c.fields 0 < 4))
    (doneBy (State.onPort (Fin.ofNat 4 (u8 c.fields 0)) Port.beginSweep)))

/-- CLEAR_NOTICES (R174). -/
def execClearNotices (c : Cmd) (s : State) : Host.Outcome State Fault Refusal :=
  .next (s.command 19 c (c.fields.length == 2) (decide (u8 c.fields 0 < 128 ∧ u8 c.fields 1 < 16))
    (doneBy (State.onSli (Sli.clearNotices (setAt 7 c.fields 0 1) (setAt 4 c.fields 1 1)))))

/-- RESET (R186): the MU is RESET-PENDING until its REPLY leaves; a dropped REPLY brings the soft reset at once. -/
def State.runReset (tag : Half) (stopActive : Bool) (s : State) : Option Result × State :=
  let room := s.hasReportRoom
  let s := (s.onMu fun x => { x with st := .resetPending }).reply 20 .done tag []
  (none, if room then s else s.softReset stopActive)

/-- RESET (R186). -/
def execReset (c : Cmd) (stopActive : Bool) (s : State) : Host.Outcome State Fault Refusal :=
  .next (s.command 20 c c.fields.isEmpty true (State.runReset c.tag stopActive))

/-- UNKNOWN_COMMAND (R176): answered BAD-COMMAND with the code as received. -/
def execUnknownCommand (code : Byte) (c : Cmd) (s : State) : Host.Outcome State Fault Refusal :=
  .next (s.command code c false true (doneBy id))

/-! ### Time commands -/

/-- The calendar fields of a SET-TIME. -/
def timeFields (b : List Byte) : Calendar :=
  { year := u8 b 0, month := u8 b 1, day := u8 b 2, weekday := u8 b 3, hour := u8 b 4, minute := u8 b 5,
    second := u8 b 6 }

/-- SET_TIME (R157). -/
def execSetTime (c : Cmd) (s : State) : Host.Outcome State Fault Refusal :=
  .next (s.command 6 c (c.fields.length == 7) (timeFields c.fields).inRange
    (doneBy (State.onSck (Sck.setTime (timeFields c.fields)))))

/-- READ_TIME (R157). -/
def execReadTime (c : Cmd) (s : State) : Host.Outcome State Fault Refusal :=
  .next (s.command 7 c c.fields.isEmpty true (doneWith fun s => calendarBytes s.sck.cal))

/-- SET_TRIM (R155). -/
def execSetTrim (c : Cmd) (s : State) : Host.Outcome State Fault Refusal :=
  .next (s.command 8 c (c.fields.length == 1) (decide (-100 ≤ i8 c.fields 0 ∧ i8 c.fields 0 ≤ 100))
    (doneBy (State.onSck (Sck.setTrim (i8 c.fields 0)))))

/-- SET-BEAT-SOURCE (R155): the REPLY joins, and then the beat that falls at once is handed out (log entry 16). -/
def State.runSource (tag : Half) (follow : Bool) (b : BeatIn) (s : State) : Option Result × State :=
  let r := s.sck.setSource follow
  let s := (s.onSck fun _ => r.1).reply 9 .done tag []
  (none, if r.2 then s.beat b else s)

/-- SET_BEAT_SOURCE (R155). -/
def execSetBeatSource (c : Cmd) (b : BeatIn) (s : State) : Host.Outcome State Fault Refusal :=
  .next (s.command 9 c (c.fields.length == 1) (decide (u8 c.fields 0 ≤ 1))
    (State.runSource c.tag (u8 c.fields 0 == 1) b))

/-- The house mode a SET-HOUSE-MODE names. -/
def modeField (b : List Byte) : HouseMode := (readMode (u8 b 0)).getD .closed

/-- SET_HOUSE_MODE (R161). -/
def execSetHouseMode (c : Cmd) (flagsFirst : Bool) (s : State) : Host.Outcome State Fault Refusal :=
  .next (s.command 10 c (c.fields.length == 1) (readMode (u8 c.fields 0)).isSome
    (doneBy (State.changeMode (modeField c.fields) flagsFirst)))

/-! ### Scene, show, flag and trigger commands -/

/-- The REPLY status of a refusal code. -/
def RefuseCode.status : RefuseCode → Status
  | .stopped => .stopped
  | .notReady => .notReady
  | .duplicate => .duplicate
  | .ineligible => .ineligible
  | .queueFull => .queueFull

/-- The REPLY to a START-SCENE (R43, R178). -/
def Answer.result : Answer → Result
  | .started k => (.done, put8 0 ++ put8 k.val)
  | .queued => (.done, put8 1 ++ put8 255)
  | .timedOut => (.done, put8 2 ++ put8 255)
  | .refused c => (c.status, [])

/-- The REPLY to a STOP-SCENE (R178). -/
def StopResult.result : StopResult → Result
  | .ended k => (.done, put8 0 ++ put8 k.val)
  | .removed => (.done, put8 1 ++ put8 255)
  | .nothing => (.done, put8 2 ++ put8 255)

/-- The REPLY to a FIRE-TRIGGER (R31). -/
def FireResult.result : FireResult → Result
  | .stopped => (.stopped, [])
  | .notReady => (.notReady, [])
  | .done => (.done, [])
  | .refused c => (c.status, [])

/-- The priority override of a START-SCENE: 255 for none. -/
def prioField (b : List Byte) : Option Nat := if u8 b 1 = 255 then none else some (u8 b 1)

/-- START-SCENE (R178). -/
def State.runStart (tag : Half) (b : List Byte) (s : State) : Option Result × State :=
  let r := s.request (Fin.ofNat 48 (u8 b 0)) .server (prioField b) (some tag)
  (some r.1.result, r.2)

/-- START_SCENE (R178). -/
def execStartScene (c : Cmd) (s : State) : Host.Outcome State Fault Refusal :=
  .next (s.command 11 c (c.fields.length == 2)
    (decide (u8 c.fields 0 < 48 ∧ (u8 c.fields 1 ≤ 7 ∨ u8 c.fields 1 = 255))) (State.runStart c.tag c.fields))

/-- STOP-SCENE naming a scene (R60). -/
def State.runStopScene (i : SceneId) (s : State) : Option Result × State :=
  (some (s.stopScene i).1.result, (s.stopScene i).2)

/-- STOP_SCENE_BY_SCENE (R60). -/
def execStopSceneByScene (c : Cmd) (s : State) : Host.Outcome State Fault Refusal :=
  .next (s.command 12 c (c.fields.length == 2) (decide (u8 c.fields 0 = 0 ∧ u8 c.fields 1 < 48))
    (State.runStopScene (Fin.ofNat 48 (u8 c.fields 1))))

/-- STOP-SCENE naming a slot (R60). -/
def State.runStopSlot (k : SlotId) (s : State) : Option Result × State := (some (s.stopSlot k).1.result, (s.stopSlot k).2)

/-- STOP_SCENE_BY_SLOT (R60). -/
def execStopSceneBySlot (c : Cmd) (s : State) : Host.Outcome State Fault Refusal :=
  .next (s.command 12 c (c.fields.length == 2) (decide (u8 c.fields 0 = 1 ∧ u8 c.fields 1 < 8))
    (State.runStopSlot (Fin.ofNat 8 (u8 c.fields 1))))

/-- STOP_SHOW (R61). -/
def execStopShow (c : Cmd) (s : State) : Host.Outcome State Fault Refusal :=
  .next (s.command 13 c c.fields.isEmpty true (doneBy State.stopShow))

/-- RESUME-SHOW (R63). -/
def State.runResume (s : State) : Option Result × State :=
  (some (if s.resume.1 then .done else .notReady, []), s.resume.2)

/-- RESUME_SHOW (R63). -/
def execResumeShow (c : Cmd) (s : State) : Host.Outcome State Fault Refusal :=
  .next (s.command 14 c c.fields.isEmpty true State.runResume)

/-- SET_FLAGS (R21). -/
def execSetFlags (c : Cmd) (s : State) : Host.Outcome State Fault Refusal :=
  .next (s.command 15 c (c.fields.length == 4) true (doneBy (State.setStoryFlags (setAt 32 c.fields 0 4))))

/-- CLEAR_FLAGS (R21). -/
def execClearFlags (c : Cmd) (s : State) : Host.Outcome State Fault Refusal :=
  .next (s.command 16 c (c.fields.length == 4) true (doneBy (State.clearStoryFlags (setAt 32 c.fields 0 4))))

/-- READ_FLAGS (R22). -/
def execReadFlags (c : Cmd) (s : State) : Host.Outcome State Fault Refusal :=
  .next (s.command 17 c c.fields.isEmpty true (doneWith fun s => putSet s.seq.flags))

/-- FIRE-TRIGGER (R31). -/
def State.runFire (n : LineId) (s : State) : Option Result × State := (some (s.fireVirtual n).1.result, (s.fireVirtual n).2)

/-- FIRE_TRIGGER (R31). -/
def execFireTrigger (c : Cmd) (s : State) : Host.Outcome State Fault Refusal :=
  .next (s.command 18 c (c.fields.length == 1) (decide (u8 c.fields 0 < 16))
    (State.runFire (Fin.ofNat 16 (u8 c.fields 0))))

end Sys2Proof.Machine
end

