-- ==== Sys2Proof/Machine/Events.lean ====
section
/-! DEFINITION. The meanings of the rows that no frame brings: resets, beats, and the events a count or a pin level makes
due. Such an event given alone is its item's own share of a beat; where it is not due nothing changes (log entry 2). -/

namespace Sys2Proof.Machine

/-! ### Resets and beats -/

/-- FULL_RESET (R180). -/
def execFullReset (addrPins : BitVec 4) (stopActive : Bool) (s : State) : Host.Outcome State Fault Refusal :=
  .next (s.fullReset addrPins stopActive)

/-- SOFT_RESET (R186): the RESET command's REPLY DONE leaves, and the reset takes effect. -/
def execSoftReset (stopActive : Bool) (s : State) : Host.Outcome State Fault Refusal :=
  .next (if s.resetLeaves then s.inNext stopActive else s)

/-- TRIMMED_INTERVAL_END (R152). -/
def execTrimmedIntervalEnd (b : BeatIn) (s : State) : Host.Outcome State Fault Refusal :=
  .next (if s.sck.isTrimmed then (s.onSck Sck.trimmedEnd).beat b else s)

/-- SELF_MADE_BEAT (R153). -/
def execSelfMadeBeat (b : BeatIn) (s : State) : Host.Outcome State Fault Refusal :=
  .next (if s.sck.isTrimmed then s else (s.onSck Sck.selfMade).beat b)

/-! ### Motion power and the show-stop line -/

/-- MOTION_POWER_FAULT (R146): a sense sample of FAULT after a last level of OK. -/
def execMotionPowerFault (z : ZoneId) (s : State) : Host.Outcome State Fault Refusal :=
  .next (if s.ports[z].senseFault then s else s.powerFaultEvent z)

/-- The hold-off of a zone ends on its next OK sample. -/
def State.holdOffDue (s : State) (z : ZoneId) : Bool :=
  match s.ports[z].powerOff with
  | some n => decide (n ≤ 1)
  | none => false

/-- POWER_HOLDOFF_EXPIRY (R147). -/
def execPowerHoldoffExpiry (z : ZoneId) (s : State) : Host.Outcome State Fault Refusal :=
  .next (if s.holdOffDue z then s.powerOn z else s)

/-- SHOWSTOP_LINE_CHANGE (R39). -/
def execShowstopLineChange (stopActive : Bool) (s : State) : Host.Outcome State Fault Refusal :=
  .next (if s.stopAccepts stopActive then s.acceptStop stopActive else s)

/-! ### Visitor lines and zones -/

/-- LINE_ACCEPTED_CHANGE (R25); the zone of a PRESENCE line is then judged, as on the beat (R36). -/
def execLineAcceptedChange (n : LineId) (high zoneFirst : Bool) (s : State) : Host.Outcome State Fault Refusal :=
  .next (if s.lineAccepts n high then (s.acceptLine n high zoneFirst).judgeLineZone n else s)

/-- LOCKOUT_EXPIRY (R27). -/
def execLockoutExpiry (n : LineId) (s : State) : Host.Outcome State Fault Refusal :=
  .next (if (s.iou.lines[n]).lockout = 1 then s.lockoutBeat n else s)

/-- A line of a role becomes stuck on the next beat (R28, R29). -/
def State.stuckDue (s : State) (n : LineId) (role : Role) (limit : Nat) : Bool :=
  let x := s.iou.lines[n]
  (s.mu.tables.line[n]).role == role && x.accepted && !x.stuck && decide (limit ≤ x.held + 1)

/-- BUTTON_STUCK (R28). -/
def execButtonStuck (n : LineId) (s : State) : Host.Outcome State Fault Refusal :=
  .next (if s.stuckDue n .button s.mu.tables.unit.buttonStuck then s.heldBeat n else s)

/-- PRESENCE_STUCK (R29). -/
def execPresenceStuck (n : LineId) (s : State) : Host.Outcome State Fault Refusal :=
  .next (if s.stuckDue n .presence s.mu.tables.unit.presenceStuck then s.heldBeat n else s)

/-- LINGER_EXPIRY (R37). -/
def execLingerExpiry (z : ZoneId) (s : State) : Host.Outcome State Fault Refusal :=
  .next (if (s.iou.zones[z]).kind = .linger ∧ (s.iou.zones[z]).count ≤ 1 then s.lingerBeat z else s)

/-! ### Requests and slots -/

/-- WAIT_DEADLINE_EXPIRY (R58): the requests whose deadlines the beat takes to 0. -/
def execWaitDeadlineExpiry (s : State) : Host.Outcome State Fault Refusal := .next (s.expire 1)

/-- The play of a slot ends on the next beat. -/
def State.playEnds (s : State) (k : SlotId) : Bool :=
  match s.play k with
  | some p =>
    match s.scene p.scene with
    | some sc => p.position + 1 == sc.length
    | none => false
  | none => false

/-- A segment of a slot begins on the next beat. -/
def State.segmentDue (s : State) (k : SlotId) : Bool :=
  match s.play k with
  | some p =>
    match s.scene p.scene with
    | some sc => (nextSegment p sc (p.position + 1)).isSome
    | none => false
  | none => false

/-- PLAY_END (R9). -/
def execPlayEnd (k : SlotId) (s : State) : Host.Outcome State Fault Refusal :=
  .next (if s.playEnds k then s.slotBeat k else s)

/-- SEGMENT_BEGIN (R10). -/
def execSegmentBegin (k : SlotId) (s : State) : Host.Outcome State Fault Refusal :=
  .next (if s.segmentDue k && !s.playEnds k then s.slotBeat k else s)

/-! ### Light, sound and motion -/

/-- A fade of a channel completes on the next beat (R79). -/
def fadeDue (l : Layer) : Bool :=
  (l.phase == .fading || l.phase == .releasing) && (advanceLayer l).pos == l.len

/-- FADE_COMPLETE (R79). -/
def execFadeComplete (c : ChannelId) (s : State) : Host.Outcome State Fault Refusal :=
  .next (if fadeDue (s.lco.channels[c]).layer then s.layerBeat c else s)

/-- A slot's effect reaches its period on the next beat (R73). -/
def State.wrapDue (s : State) (k : SlotId) : Bool :=
  match s.lco.effects[k] with
  | some e =>
    match s.mu.tables.fx[e.pattern] with
    | some r => decide (r.period ≤ e.phase + 1)
    | none => false
  | none => false

/-- EFFECT_PERIOD_WRAP (R73). -/
def execEffectPeriodWrap (k : SlotId) (s : State) : Host.Outcome State Fault Refusal :=
  .next (if s.wrapDue k then s.effectBeat k else s)

/-- A slot's cue runs out of wait on the next beat (R95). -/
def cueWaitDue (c : Option Cue) : Bool :=
  match c with
  | some c => c.state == .pending && decide (c.remaining ≤ 1)
  | none => false

/-- CUE_WAIT_EXPIRY (R95). -/
def execCueWaitExpiry (k : SlotId) (s : State) : Host.Outcome State Fault Refusal :=
  .next (if cueWaitDue s.nmx.cues[k] then s.cueBeat k else s)

/-- REARM_EXPIRY (R119). -/
def execRearmExpiry (a : AxisId) (s : State) : Host.Outcome State Fault Refusal :=
  .next (if (s.mgt.axes[a]).rearm = 1 then (s.onAxis a Axis.countRearm).judgeAxis a else s)

/-! ### The link and the table store -/

/-- STATUS_INTERVAL (R172). -/
def execStatusInterval (s : State) : Host.Outcome State Fault Refusal := .next (if s.statusDue then s.statusBeat else s)

/-- SOURCE_STALE (R170). -/
def execSourceStale (src : SourceId) (s : State) : Host.Outcome State Fault Refusal :=
  .next (if s.goesStale src then s.sourceBeat src else s)

/-- LOAD_COMPLETE (R182): the write count reaches 0. -/
def execLoadComplete (s : State) : Host.Outcome State Fault Refusal :=
  match s.mu.st with
  | .loading l => .next (if l.writes ≤ 1 then s.completeLoad l else s)
  | .idle => .next s
  | .resetPending => .next s

end Sys2Proof.Machine
end

