-- ==== Sys2Proof/Machine/Frames.lean ====
section
/-! DEFINITION. The meanings of the frame rows: frames received at IN and THRU, the transmitters, and the messages of a
zone bus. -/

namespace Sys2Proof.Machine

/-- SYNC_FRAME (R153 to R155). -/
def execSyncFrame (f : Rx) (b : BeatIn) (s : State) : Host.Outcome State Fault Refusal :=
  .next (s.receive (Rx.frame f 1) (State.syncArrival b))

/-- LIGHT_FRAME (R67). -/
def execLightFrame (f : Rx) (s : State) : Host.Outcome State Fault Refusal :=
  .next (s.receive (Rx.frame f 2) (State.lightArrival f.body))

/-- SOUND_FRAME (R93). -/
def execSoundFrame (f : Rx) (s : State) : Host.Outcome State Fault Refusal :=
  .next (s.receive (Rx.frame f 3) (State.soundFrameArrival f.body))

/-- MOTION_FRAME (R116). -/
def execMotionFrame (f : Rx) (s : State) : Host.Outcome State Fault Refusal :=
  .next (s.receive (Rx.frame f 4) (State.motionArrival f.body))

/-- TRIGGER_FRAME (R31). -/
def execTriggerFrame (f : Rx) (s : State) : Host.Outcome State Fault Refusal :=
  .next (s.receive (Rx.frame f 5) (State.triggerArrival f.body))

/-- THRU_FRAME (R168). -/
def execThruFrame (f : Frame) (s : State) : Host.Outcome State Fault Refusal := .next (s.thruArrival f)

/-- IN_TRANSMIT_NEXT (R169). -/
def execInTransmitNext (stopActive : Bool) (s : State) : Host.Outcome State Fault Refusal := .next (s.inNext stopActive)

/-- THRU_TRANSMIT_NEXT (R167). -/
def execThruTransmitNext (s : State) : Host.Outcome State Fault Refusal := .next s.thruNext

/-- ZBUS_TRANSMIT_NEXT (R130). -/
def execZbusTransmitNext (z : ZoneId) (s : State) : Host.Outcome State Fault Refusal :=
  .next (s.onPort z Port.transmit)

/-- FIXTURE_REPLY (R131); a message that is not a reply of its layout is discarded as not received (R188). -/
def execFixtureReply (z : ZoneId) (bytes : List Byte) (s : State) : Host.Outcome State Fault Refusal :=
  match parseReply bytes with
  | some m => .next (s.onPort z (Port.takeReply m))
  | none => .next s

/-- ANNOUNCEMENT (R137, R138); a message that is not an announcement of its layout is not filed (R188). -/
def execAnnouncement (z : ZoneId) (bytes : List Byte) (s : State) : Host.Outcome State Fault Refusal :=
  match parseAnnouncement bytes with
  | some (q, a) => .next (s.announce z q a)
  | none => .next s

/-- DOWNSTREAM_FRAME_PASSED_ON (R165); a frame the unit takes is no such frame and changes nothing (log entry 2). -/
def execDownstreamFramePassedOn (f : Frame) (s : State) : Host.Outcome State Fault Refusal :=
  .next (if s.takes f.addr then s else s.passOn f)

/-- BAD_FRAME (R164); bytes that make a valid frame are no bad frame and change nothing (log entry 2). -/
def execBadFrame (side : Side) (bytes : List Byte) (s : State) : Host.Outcome State Fault Refusal :=
  .next (s.dropBad side bytes)

/-- FORMAT_FAULT (R166); a frame that is not taken, or agrees with its layout, is no such fault and changes nothing (log
entry 2). -/
def execFormatFault (f : Frame) (s : State) : Host.Outcome State Fault Refusal :=
  .next (if s.takes f.addr && !agrees f then s.receive f id else s)

end Sys2Proof.Machine
end

