-- ==== Sys2Proof/Machine/Dispatch.lean ====
section
/-! DEFINITION. The effect of each command: one arm per row of spec/opcode_table.json, in the table's order. -/

namespace Sys2Proof.Machine

def exec (i : Instr) (s : State) : Host.Outcome State Fault Refusal :=
  match i with
  | .fullReset addrPins stopActive => Sys2Proof.Machine.execFullReset addrPins stopActive s
  | .softReset stopActive => Sys2Proof.Machine.execSoftReset stopActive s
  | .trimmedIntervalEnd b => Sys2Proof.Machine.execTrimmedIntervalEnd b s
  | .syncFrame f b => Sys2Proof.Machine.execSyncFrame f b s
  | .selfMadeBeat b => Sys2Proof.Machine.execSelfMadeBeat b s
  | .lightFrame f => Sys2Proof.Machine.execLightFrame f s
  | .soundFrame f => Sys2Proof.Machine.execSoundFrame f s
  | .motionFrame f => Sys2Proof.Machine.execMotionFrame f s
  | .triggerFrame f => Sys2Proof.Machine.execTriggerFrame f s
  | .thruFrame f => Sys2Proof.Machine.execThruFrame f s
  | .inTransmitNext stopActive => Sys2Proof.Machine.execInTransmitNext stopActive s
  | .thruTransmitNext => Sys2Proof.Machine.execThruTransmitNext s
  | .zbusTransmitNext z => Sys2Proof.Machine.execZbusTransmitNext z s
  | .fixtureReply z bytes => Sys2Proof.Machine.execFixtureReply z bytes s
  | .announcement z bytes => Sys2Proof.Machine.execAnnouncement z bytes s
  | .motionPowerFault z => Sys2Proof.Machine.execMotionPowerFault z s
  | .powerHoldoffExpiry z => Sys2Proof.Machine.execPowerHoldoffExpiry z s
  | .showstopLineChange stopActive => Sys2Proof.Machine.execShowstopLineChange stopActive s
  | .lineAcceptedChange n high zoneFirst => Sys2Proof.Machine.execLineAcceptedChange n high zoneFirst s
  | .lockoutExpiry n => Sys2Proof.Machine.execLockoutExpiry n s
  | .buttonStuck n => Sys2Proof.Machine.execButtonStuck n s
  | .presenceStuck n => Sys2Proof.Machine.execPresenceStuck n s
  | .lingerExpiry z => Sys2Proof.Machine.execLingerExpiry z s
  | .waitDeadlineExpiry => Sys2Proof.Machine.execWaitDeadlineExpiry s
  | .playEnd k => Sys2Proof.Machine.execPlayEnd k s
  | .segmentBegin k => Sys2Proof.Machine.execSegmentBegin k s
  | .fadeComplete c => Sys2Proof.Machine.execFadeComplete c s
  | .effectPeriodWrap k => Sys2Proof.Machine.execEffectPeriodWrap k s
  | .cueWaitExpiry k => Sys2Proof.Machine.execCueWaitExpiry k s
  | .rearmExpiry a => Sys2Proof.Machine.execRearmExpiry a s
  | .statusInterval => Sys2Proof.Machine.execStatusInterval s
  | .sourceStale src => Sys2Proof.Machine.execSourceStale src s
  | .loadComplete => Sys2Proof.Machine.execLoadComplete s
  | .loadTable c => Sys2Proof.Machine.execLoadTable c s
  | .readTable c => Sys2Proof.Machine.execReadTable c s
  | .readStatus c => Sys2Proof.Machine.execReadStatus c s
  | .readCensus c => Sys2Proof.Machine.execReadCensus c s
  | .censusSweep c => Sys2Proof.Machine.execCensusSweep c s
  | .setTime c => Sys2Proof.Machine.execSetTime c s
  | .readTime c => Sys2Proof.Machine.execReadTime c s
  | .setTrim c => Sys2Proof.Machine.execSetTrim c s
  | .setBeatSource c b => Sys2Proof.Machine.execSetBeatSource c b s
  | .setHouseMode c flagsFirst => Sys2Proof.Machine.execSetHouseMode c flagsFirst s
  | .startScene c => Sys2Proof.Machine.execStartScene c s
  | .stopSceneByScene c => Sys2Proof.Machine.execStopSceneByScene c s
  | .stopSceneBySlot c => Sys2Proof.Machine.execStopSceneBySlot c s
  | .stopShow c => Sys2Proof.Machine.execStopShow c s
  | .resumeShow c => Sys2Proof.Machine.execResumeShow c s
  | .setFlags c => Sys2Proof.Machine.execSetFlags c s
  | .clearFlags c => Sys2Proof.Machine.execClearFlags c s
  | .readFlags c => Sys2Proof.Machine.execReadFlags c s
  | .fireTrigger c => Sys2Proof.Machine.execFireTrigger c s
  | .clearNotices c => Sys2Proof.Machine.execClearNotices c s
  | .reset c stopActive => Sys2Proof.Machine.execReset c stopActive s
  | .unknownCommand code c => Sys2Proof.Machine.execUnknownCommand code c s
  | .downstreamFramePassedOn f => Sys2Proof.Machine.execDownstreamFramePassedOn f s
  | .badFrame side bytes => Sys2Proof.Machine.execBadFrame side bytes s
  | .formatFault f => Sys2Proof.Machine.execFormatFault f s

end Sys2Proof.Machine
end

