-- ==== Sys2Proof/Safety.lean ====
section
/-! DEFINITION. What claims about the block are made of: the laws the spec states of its state, which every step keeps,
and the conditions under which a command reaches its block. -/

namespace Sys2Proof.Machine

/-! ### Laws of the state -/

/-- The own-report queue and the forward buffer (R168, R171, R172): at most 32 reports with at most one STATUS among
them, a STATUS owed only while the queue is full and holds none, at most 4 forwarded frames. -/
structure ReportLaw (x : Sli) : Prop where
  length_le : x.ownQueue.length ≤ 32
  oneStatus : (x.ownQueue.filter Report.isStatus).length ≤ 1
  owedFull : x.owed = true → x.ownQueue.length = 32 ∧ x.ownQueue.any Report.isStatus = false
  forward_le : x.forward.length ≤ 4

/-- The claim table, the slots and the request queue (the laws of R47 and R49). -/
structure ShowLaw (s : State) : Prop where
  /-- A slot holds a resource only while it is PLAYING and the resource is in its claim set. -/
  ownerPlays : ∀ (i : ResourceId) (k : SlotId), s.arb.owners[i] = some k →
    ∃ p, s.play k = some p ∧ p.claims.mask.getLsbD i = true
  /-- A PLAYING slot holds every resource of its claim set. -/
  claimsHeld : ∀ (k : SlotId) (p : PlayRec) (i : ResourceId), s.play k = some p →
    p.claims.mask.getLsbD i = true → s.arb.owners[i] = some k
  /-- A scene index appears at most once among the PLAYING slots … -/
  playsOnce : ∀ (k j : SlotId) (p q : PlayRec), s.play k = some p → s.play j = some q → p.scene = q.scene → k = j
  /-- … and the queued requests … -/
  queuedOnce : (s.arb.queue.map (·.scene)).Nodup
  /-- … taken together. -/
  notBoth : ∀ (k : SlotId) (p : PlayRec), s.play k = some p → s.isQueued p.scene = false
  queue_le : s.arb.queue.length ≤ 16
  /-- The queue stands in order of priority, highest first (R47). -/
  ordered : s.arb.queue.Pairwise fun x y => y.priority ≤ x.priority
  /-- The queue holds only requests whose source kind the house mode admits. -/
  admitted : ∀ r ∈ s.arb.queue, admits s.arb.mode r.source = true
  /-- While the show is STOPPED no slot is PLAYING and the queue is empty. -/
  stopped : s.arb.showStopped = true → s.arb.queue = [] ∧ ∀ k : SlotId, s.play k = none

/-- The calendar's fields lie in their ranges, the day within its month (R156). -/
def Calendar.valid (c : Calendar) : Prop := c.inRange = true ∧ c.beat ≤ 99

/-- The beat generator's values lie in their ranges (R150), and the calendar's in theirs (R156). -/
structure ClockLaw (x : Sck) : Prop where
  trim_le : -100 ≤ x.trim ∧ x.trim ≤ 100
  acc_le : -9 ≤ x.acc ∧ x.acc ≤ 9
  length_in : 99990 ≤ x.intervalLen ∧ x.intervalLen ≤ 100010
  interval_le : x.interval ≤ 150000
  trimmed_le : x.source = .internal → x.interval ≤ x.intervalLen
  miss_le : x.miss ≤ 8
  following_miss : x.source = .following → x.miss ≤ 7
  hit_le : x.hit ≤ 15
  spacing_le : ∀ n, x.spacing = some n → n ≤ 110001
  calendar : x.cal.valid

/-- The ADMITTED records of a zone (R136, R138): each has one of the three classes, drives at least one local number and
lies in the zone's capacity for its class; no two of one class drive the same local number. -/
structure CensusLaw (s : State) : Prop where
  within : ∀ (z : ZoneId) (q : PosId) (r : CensusRec), s.ports[z].census[q] = some r → r.state = .admitted →
    ∃ c, readClass r.ann.cls = some c ∧ 1 ≤ r.ann.count ∧ r.ann.start + r.ann.count ≤ classCapacity c
  apart : ∀ (z : ZoneId) (p q : PosId) (x y : CensusRec), s.ports[z].census[p] = some x →
    s.ports[z].census[q] = some y → x.state = .admitted → y.state = .admitted → x.ann.cls = y.ann.cls → p ≠ q →
    ∀ i : Nat, ¬(x.ann.spans i = true ∧ y.ann.spans i = true)

/-! ### How a command reaches its block -/

/-- An address is this unit's own, and the unit has one (R165: none when the pins read 15). -/
def State.isOwn (s : State) (addr : Byte) : Prop := addr = s.sli.ownAddr.zeroExtend 8 ∧ s.sli.ownAddr ≠ 15

/-- A COMMAND frame addressed to the unit while its MU is IDLE (R165, R177). -/
def State.hears (s : State) (c : Cmd) : Prop := s.isOwn c.addr ∧ s.mu.st = .idle ∧ c.fields.length ≤ 8188

/-- A taken frame's sequence number is recorded (R165). -/
def State.record (seq : Half) (s : State) : State := s.onSli fun x => { x with lastTaken := seq }

/-- The fields of a command have the length that Section 11.1 gives its code, and the code names a command (R176, R180,
R188). -/
def commandForm (code : Byte) (fields : List Byte) : Prop :=
  match code.toNat with
  | 1 => 10 ≤ fields.length ∧ fields.length = 10 + (u16 fields 6 + 15) / 16 * 16
  | 2 => fields.length = 5
  | 4 | 5 | 8 | 9 | 10 | 18 => fields.length = 1
  | 6 => fields.length = 7
  | 11 | 12 | 19 => fields.length = 2
  | 15 | 16 => fields.length = 4
  | 3 | 7 | 13 | 14 | 17 | 20 => fields.length = 0
  | _ => False

/-- The values of a command's fields lie in their ranges (R155, R157, R178, R179, R187). LOAD-TABLE and READ-TABLE have
checks of their own (R181, R184). -/
def commandInRange (code : Byte) (fields : List Byte) : Prop :=
  let at_ (i : Nat) : Nat := u8 fields i
  match code.toNat with
  | 4 | 5 => at_ 0 < 4
  | 6 =>
    let days := if at_ 1 = 2 then (if at_ 0 % 4 = 0 then 29 else 28) else if at_ 1 ∈ [4, 6, 9, 11] then 30 else 31
    at_ 0 ≤ 99 ∧ 1 ≤ at_ 1 ∧ at_ 1 ≤ 12 ∧ 1 ≤ at_ 2 ∧ at_ 2 ≤ days ∧ at_ 3 ≤ 6 ∧ at_ 4 ≤ 23 ∧ at_ 5 ≤ 59 ∧ at_ 6 ≤ 59
  | 8 => -100 ≤ i8 fields 0 ∧ i8 fields 0 ≤ 100
  | 9 => at_ 0 ≤ 1
  | 10 => at_ 0 ≤ 2
  | 11 => at_ 0 < 48 ∧ (at_ 1 ≤ 7 ∨ at_ 1 = 255)
  | 12 => (at_ 0 = 0 ∧ at_ 1 < 48) ∨ (at_ 0 = 1 ∧ at_ 1 < 8)
  | 18 => at_ 0 < 16
  | 19 => at_ 0 < 128 ∧ at_ 1 < 16
  | _ => True

/-- The SCK's part with the interval state that a beat leaves under a trimmed interval (R151, R152). -/
def Sck.afterTrimmed (ticks : Nat) (x : Sck) : Sck :=
  { x with
    interval := 0
    intervalLen := (100000 - (x.acc + x.trim).tdiv 10).toNat
    acc := x.acc + x.trim - 10 * (x.acc + x.trim).tdiv 10
    spacing := x.spacing.map fun n => min (n + ticks) 110001 }

/-- The state of a slot's cue after a SOUND frame with these blocks (R96, R97): a PENDING or LIVE cue whose stream's
block carries its clip is LIVE, and DONE when that block has the last-block mark; any other cue is as it was. -/
def cueAfter (blocks : List StreamBlock) (c : Cue) : Cue :=
  if c.state = .pending ∨ c.state = .live then
    match cueBlock blocks c with
    | some b => { c with state := if b.last then .done else .live }
    | none => c
  else c

/-- A slot's cue is LIVE to an output at stage 3 of a SOUND frame (R96, R102). -/
def liveInFrame (blocks : List StreamBlock) (o : OutputId) (c : Option Cue) : Prop :=
  ∃ x, c = some x ∧ x.outputs.getLsbD o = true ∧
    (x.state = .live ∨ (x.state = .pending ∧ (cueBlock blocks x).isSome = true))

/-- Sample n of output o after a SOUND frame with these blocks (R103), from the cues and ramps as they were before the
frame and the output's duck gain as stage 3 leaves it: beds, routed cues and ramps, rounded and saturated. -/
def frameSample (r : RouteRec) (x : Nmx) (blocks : List StreamBlock) (duck : Nat) (o : OutputId) (n : Nat) : Int :=
  let sample (t : StreamId) : Int := match blockOf blocks t with
    | some b => b.samples.getD n 0
    | none => 0
  let beds : List Int := (List.finRange 8).map fun t : StreamId =>
    if r.ambient.getLsbD t then ((r.bed[8 * t.val + o.val]'(by omega) * duck / 4096 : Nat) : Int) * sample t else 0
  let cues : List Int := (List.finRange 8).map fun k : SlotId => match x.cues[k] with
    | some c => if (c.state = .pending ∨ c.state = .live) ∧ c.outputs.getLsbD o ∧ (cueBlock blocks c).isSome
        then (c.gain : Int) * sample c.stream else 0
    | none => 0
  let ramps : List Int := (List.finRange 8).map fun t : StreamId => match x.ramps[t] with
    | some m => if m.outputs.getLsbD o then ((m.gain * (480 - n) / 480 : Nat) : Int) * sample t else 0
    | none => 0
  max (-32768) (min 32767 ((beds.sum + cues.sum + ramps.sum + 2048) / 4096))

/-- The block that output o hands its zone's port after a SOUND frame (R104): none while the output is absent. -/
def frameBlock (r : RouteRec) (x : Nmx) (blocks : List StreamBlock) (duck : Nat) (o : OutputId) : Option AudioBlock :=
  if x.present.getLsbD o then
    some { second := o.val % 2 == 1, samples := (List.range 480).map (frameSample r x blocks duck o) }
  else none

/-- What a port that is handed a block, or none, becomes (R130): the block joins the tail of the audio queue, whose
oldest block is discarded and counted when it holds 4. -/
def Port.handed (b : Option AudioBlock) (p : Port) : Port :=
  match b with
  | none => p
  | some b =>
    if p.audio.length < 4 then { p with audio := p.audio ++ [b] }
    else { p with audio := p.audio.drop 1 ++ [b], discarded := p.discarded + 1 }

/-- A layer after its release with a fade (R76). What a release of fade 0 leaves in it besides phase and owner is the model's
choice (log entry 38). -/
def releasedLayer (fade : Nat) (ch : Channel) : Layer :=
  if fade = 0 then { owner := none, phase := .idle, fromLevel := 0, toLevel := 0, len := 0, pos := 0 }
  else { owner := none, phase := .releasing, fromLevel := capture ch, toLevel := 0, len := fade, pos := 0 }

/-- The cues of some slots are cancelled with a cause by one event (R100, R101): each that is REQUESTED, PENDING or LIVE
queues CUE CANCEL where the queue has room for all of them, and a LIVE one that is alone on its stream leaves a ramp there
and leaves LIVE at the LCO. -/
def CuesCancelled (which : SlotId → Prop) (cause : CancelCause) (s t : State) : Prop :=
  ∀ (k : SlotId) (c : Cue), which k → s.nmx.cues[k] = some c →
    (c.state = .requested ∨ c.state = .pending ∨ c.state = .live → s.sli.ownQueue.length ≤ 23 →
      .cueCancel (cueInfo k c) cause ∈ t.sli.ownQueue) ∧
    (c.state = .live →
      (∀ (j : SlotId) (d : Cue), j ≠ k → s.nmx.cues[j] = some d → d.state = .live → d.stream ≠ c.stream) →
      t.nmx.ramps[c.stream] = some { outputs := c.outputs, gain := c.gain } ∧ t.lco.cueLive.getLsbD k = false)

/-- The guards of the axes after changes of the zones' occupancy (R119): an axis with a guard zone that has left CLEAR is
guarded and no countdown runs; one whose guard zones are all CLEAR after a change of one of them has its countdown at the
re-arm time, and loses its mark at once where that is 0; no other change acts on a guard. -/
def GuardsJudged (s t : State) : Prop :=
  ∀ a : AxisId,
    let e := t.mu.tables.env[a]
    let x := s.mgt.axes[a]
    let y := t.mgt.axes[a]
    let left : Prop := ∃ z : ZoneId, e.guardZones.getLsbD z = true ∧ s.mgt.occ[z] = .clear ∧ t.mgt.occ[z] ≠ .clear
    let cleared : Prop :=
      (∃ z : ZoneId, e.guardZones.getLsbD z = true ∧ s.mgt.occ[z] ≠ .clear ∧ t.mgt.occ[z] = .clear) ∧
      ∀ z : ZoneId, e.guardZones.getLsbD z = true → t.mgt.occ[z] = .clear
    (left → y.guarded = true ∧ y.rearm = 0) ∧
    (cleared → y.rearm = e.rearm ∧ y.guarded = (x.guarded && decide (0 < e.rearm))) ∧
    (¬left → ¬cleared → y.guarded = x.guarded ∧ y.rearm = x.rearm)

/-- A zone's occupancy has become `o` in every block that holds a view of it (R38), and on a change to CLEAR with no
request waiting every slot that R20 names has ended ABANDONED, with its layers released, its effect and cue gone, its axes
without keyframe and scene target and its claims free (R18); the other slots play on. The guards of the axes follow their
zones (R119) and the modes are judged. The other zones, the SCK, the tables and the ports are as they were. -/
structure OccTaken (s t : State) (z : ZoneId) (o : ZoneOcc) : Prop where
  zone : t.iou.zones[z] = o
  views : t.arb.occ[z] = o.kind ∧ t.mgt.occ[z] = o.kind
  others : ∀ y : ZoneId, y ≠ z → t.iou.zones[y] = s.iou.zones[y] ∧ t.arb.occ[y] = s.arb.occ[y] ∧
    t.mgt.occ[y] = s.mgt.occ[y]
  abandoned : o.kind = .clear → s.arb.queue = [] → ∀ (k : SlotId) (p : PlayRec) (sc : SceneRec), s.play k = some p →
    s.scene p.scene = some sc → sc.abandonOnClear = true → sc.home = z →
    t.seq.slots[k] = .free (some p.scene) .abandoned ∧ t.lco.effects[k] = none ∧ t.nmx.cues[k] = none ∧
    (∀ x : ResourceId, p.claims.mask.getLsbD x = true → t.arb.owners[x] ≠ some k) ∧
    (∀ a : AxisId, p.claims.axes.getLsbD a = true →
      (t.mgt.axes[a]).keyframe = none ∧ (t.mgt.axes[a]).sceneTarget = none) ∧
    ∀ c : ChannelId, p.claims.groups.getLsbD (channelGroup c) = true → (s.lco.channels[c]).layer.owner = some k →
      (t.lco.channels[c]).layer = releasedLayer sc.releaseFade s.lco.channels[c]
  cancelled : o.kind = .clear → s.arb.queue = [] → CuesCancelled (fun k => ∃ p sc, s.play k = some p ∧
    s.scene p.scene = some sc ∧ sc.abandonOnClear = true ∧ sc.home = z) .abandoned s t
  guards : GuardsJudged s t
  modes : ∀ a : AxisId, (t.mgt.axes[a]).mode = t.modeOf a
  playsOn : ∀ (k : SlotId) (p : PlayRec) (sc : SceneRec), s.play k = some p → s.scene p.scene = some sc →
    (o.kind = .clear → s.arb.queue = [] ∧ ¬(sc.abandonOnClear = true ∧ sc.home = z)) →
    ∃ q, t.play k = some q ∧ q = { p with marks := q.marks }
  rest : t.mu = s.mu ∧ t.sck = s.sck ∧ t.ports = s.ports
  flags : (o.kind = .clear → s.arb.queue = []) → t.seq.flags = s.seq.flags

/-- A firing of a trigger entry would be refused now (R32). -/
def fireBarred (t : State) (n : EntryId) : Prop :=
  t.iou.showStopped = true ∨ (n.val < 16 ∧ t.iou.mode ≠ .opened) ∨ (16 ≤ n.val ∧ t.iou.mode = .service)

/-- A firing of an entry with this record that R32 accepts, taken at `s`, has been acted on by the steps of R33 and R34: `r`
is its outcome and `t` the state after it. While its scene plays the behaviour decides; while it is queued nothing
happens; otherwise it is requested, and where the answer is INELIGIBLE so is the alternate, unless there is none or it is
playing or queued. -/
def Acted (e : TrigRec) (source : Source) (s : State) (r : FireResult) (t : State) : Prop :=
  (∀ k : SlotId, s.playingSlot e.scene = some k →
    r = .done ∧ (e.behaviour = .ignore → t = s) ∧ (e.behaviour = .restart → t = s.restartSlot k) ∧
    (e.behaviour = .stop → t = s.endAndWalk k .stopped)) ∧
  (s.playingSlot e.scene = none → s.isQueued e.scene = true → r = .done ∧ t = s) ∧
  (s.playingSlot e.scene = none → s.isQueued e.scene = false →
    ∀ (ans : Answer) (u : State), s.request e.scene source none none = (ans, u) →
      (ans ≠ .refused .ineligible → r = ans.outcome ∧ t = u) ∧
      (ans = .refused .ineligible →
        (e.alternate = none ∨ (∃ a, e.alternate = some a ∧ u.isBusy a = true) → r = .refused .ineligible ∧ t = u) ∧
        ∀ (a : SceneId) (ans' : Answer) (v : State), e.alternate = some a → u.isBusy a = false →
          u.request a source none none = (ans', v) → r = ans'.outcome ∧ t = v))

/-- An entry's scene or its alternate is queued or playing, or its line has a lockout running (R35). -/
def entryBusy (t : State) (n : EntryId) (e : TrigRec) : Prop :=
  t.isBusy e.scene = true ∨ (∃ a, e.alternate = some a ∧ t.isBusy a = true) ∨
    ∃ h : n.val < 16, 0 < (t.iou.lines[(⟨n.val, h⟩ : LineId)]).lockout

/-- Every indicator is as R35 judges it now, and each channel that one entry alone names has that indicator's level. -/
def IndicatorsJudged (t : State) : Prop :=
  (∀ n : EntryId, t.mu.tables.trig[n] = none → t.iou.indicators[n] = none) ∧
  ∀ (n : EntryId) (e : TrigRec), t.mu.tables.trig[n] = some e →
    (e.hasIndicator = false → t.iou.indicators[n] = none) ∧
    (e.hasIndicator = true → ∃ i, t.iou.indicators[n] = some i ∧ (i = .dark ↔ fireBarred t n) ∧
      (i = .busy ↔ ¬fireBarred t n ∧ entryBusy t n e) ∧
      ∀ h : e.channel < 768,
        (∀ (m : EntryId) (d : TrigRec), m ≠ n → t.mu.tables.trig[m] = some d → d.hasIndicator = true →
          d.channel ≠ e.channel) →
        (t.lco.channels[(⟨e.channel, h⟩ : ChannelId)]).indicator = some (match i with
          | .dark => e.dark
          | .busy => e.busy
          | .ready => e.ready))

/-- The outcome log after these requests have left with a reason, in this order (R48, R64): each is entered with the next
outcome number, and the log keeps the last 16 entries. -/
def departuresLogged (reason : Departure) (rs : List Request) (x : Arb) : List LogEntry :=
  let all := x.log ++ rs.zipIdx.map fun (r, i) => {
    number := x.nextNumber + BitVec.ofNat 16 i, scene := r.scene, source := r.source, priority := r.priority
    kind := .departed reason, tag := r.tag }
  if rs = [] then x.log else all.drop (all.length - 16)

/-- Some PLAYING slot's scene claims an axis. -/
def claimedByPlay (s : State) (a : AxisId) : Prop :=
  ∃ (k : SlotId) (p : PlayRec), s.play k = some p ∧ p.claims.axes.getLsbD a = true

/-- The show has been taken from RUNNING in `s` to STOPPED in `t` (R62): every block holds it; the queued requests have
left and are logged with reason SHOW-STOP; every PLAYING slot has ended SHOW-STOP and the claims it held are free; every
layer is IDLE, and no effect and no cue is left; every axis in a mode that moves is GUARDED or HOLDING (R121), and the axes
of the ended slots have lost keyframe and scene target (R117); every indicator is judged (R35), and a STATUS is asked for
(R61). -/
structure StoppedShow (s t : State) : Prop where
  views : t.arb.showStopped = true ∧ t.iou.showStopped = true ∧ t.mgt.showStopped = true ∧ t.sck.showStopped = true
  arb : t.arb = { s.arb with
    showStopped := true, queue := [], owners := t.arb.owners
    log := departuresLogged .showStop s.arb.queue s.arb
    nextNumber := s.arb.nextNumber + BitVec.ofNat 16 s.arb.queue.length }
  slots : ∀ k : SlotId, t.seq.slots[k] = match s.play k with
    | some p => .free (some p.scene) .showStop
    | none => s.seq.slots[k]
  owners : ∀ x : ResourceId,
    let freed : Prop := ∃ k p, s.arb.owners[x] = some k ∧ s.play k = some p ∧ p.claims.mask.getLsbD x = true
    (freed → t.arb.owners[x] = none) ∧ (¬freed → t.arb.owners[x] = s.arb.owners[x])
  layers : ∀ c : ChannelId, (t.lco.channels[c]).layer = {}
  effects : ∀ k : SlotId, t.lco.effects[k] = none
  cues : ∀ k : SlotId, t.nmx.cues[k] = none
  modes : ∀ a : AxisId, (t.mgt.axes[a]).mode =
    if (s.modeOf a).isSending then (if (s.mgt.axes[a]).guarded then .guarded else .holding) else s.modeOf a
  axes : ∀ a : AxisId,
    let x := s.mgt.axes[a]
    let y := t.mgt.axes[a]
    y = { x with
      mode := y.mode, step := if y.mode.isSending then x.step else 0
      resetHold := y.mode.isSending && x.resetHold, keyframe := y.keyframe, sceneTarget := y.sceneTarget } ∧
    (claimedByPlay s a → y.keyframe = none ∧ y.sceneTarget = none) ∧
    (¬claimedByPlay s a → y.keyframe = x.keyframe ∧ y.sceneTarget = x.sceneTarget)
  indicators : IndicatorsJudged t
  status : .status ∈ t.sli.ownQueue ∨ t.sli.owed = true

/-! ### A beat at the IOU -/

/-- The runtime record of a line after the IOU's beat (R25, R27 to R29): from its own record, the level at its pin, and
whether a press on it would be acted on. A line of role UNUSED keeps its record, which is the model's choice (log entry
22). -/
def lineAfterBeat (u : UnitRec) (r : LineRec) (high fires : Bool) (x : LineRt) : LineRt :=
  let active := if r.activeLow = 1 then !high else high
  let counted := x.accepted && !x.stuck && (r.role == .button || r.role == .presence)
  let limit := if r.role = .button then u.buttonStuck else u.presenceStuck
  if r.role = .unused then x
  else if active ≠ x.accepted ∧ r.debounce ≤ x.debounce + 1 then {
    accepted := active, debounce := 0, held := if active then 0 else x.held, stuck := x.stuck && active
    lockout := if x.lockout = 0 ∧ r.role = .button ∧ active ∧ fires then r.lockout else x.lockout - 1 }
  else {
    accepted := x.accepted, debounce := if active = x.accepted then 0 else x.debounce + 1, lockout := x.lockout - 1
    held := if counted then x.held + 1 else x.held
    stuck := x.stuck || (counted && decide (limit ≤ x.held + 1)) }

/-- A zone's occupancy after the IOU's beat (R36, R37): whether a PRESENCE line of it is accepted active after the beat,
and whether a break of it was accepted on the beat. That the judgement of R36 comes before the countdown (log entry 46),
and what a break does in LINGER at linger time 0 (log entry 11), are the model's choices. -/
def zoneAfterBeat (linger : Nat) (present broken : Prop) (x y : ZoneOcc) : Prop :=
  let lingering : ZoneOcc := if 0 < linger then { kind := .linger, count := linger } else { kind := .clear, count := 0 }
  (present → y = if x.kind = .occupied then x else { kind := .occupied, count := 0 }) ∧
  (¬present →
    (x.kind = .occupied → y = lingering) ∧
    (x.kind = .linger → broken → y = { kind := .linger, count := linger }) ∧
    (x.kind = .linger → ¬broken →
      y = if x.count ≤ 1 then { kind := .clear, count := 0 } else { kind := .linger, count := x.count - 1 }) ∧
    (x.kind = .clear → broken → y = lingering) ∧
    (x.kind = .clear → ¬broken → y = x))

/-- A channel that no entry with an indicator names. -/
def unnamedChannel (t : State) (c : ChannelId) : Prop :=
  ∀ (n : EntryId) (e : TrigRec), t.mu.tables.trig[n] = some e → e.hasIndicator = true → e.channel ≠ c.val

/-- A well-formed announcement (R133). -/
def announceFormed (a : Announce) : Prop :=
  1 ≤ a.count ∧ ((a.cls = 0 ∧ a.count ≤ 48) ∨ (a.cls = 1 ∧ a.count ≤ 4 ∧ a.positions.length = a.count) ∨
    (a.cls = 2 ∧ a.count ≤ 2)) ∧ ∀ p ∈ a.positions, p ≠ -32768

/-- An announcement the admission list lists (R135). -/
def announceListed (admt : Vector (Option AdmtRec) 40) (a : Announce) : Prop :=
  (∀ i : Fin 40, admt[i] = none) ∨ ∃ (i : Fin 40) (r : AdmtRec), admt[i] = some r ∧
    (r.matchSet.getLsbD 0 = true → r.maker = a.maker) ∧ (r.matchSet.getLsbD 1 = true → r.model = a.model) ∧
    (r.matchSet.getLsbD 2 = true → r.revision = a.revision) ∧ (r.matchSet.getLsbD 3 = true → classByte r.cls = a.cls)

/-- An announcement's range lies in the zone's capacity for its class (Section 7.1). -/
def announceFits (a : Announce) : Prop :=
  (a.cls = 0 ∧ a.start + a.count ≤ 192) ∨ (a.cls = 1 ∧ a.start + a.count ≤ 8) ∨ (a.cls = 2 ∧ a.start + a.count ≤ 2)

/-- An announcement at a position meets the range of an ADMITTED record of its class at another position (R138). -/
def announceMeets (census : Vector (Option CensusRec) 12) (q : PosId) (a : Announce) (p : PosId) : Prop :=
  p ≠ q ∧ ∃ r, census[p] = some r ∧ r.state = .admitted ∧ r.ann.cls = a.cls ∧ a.start < r.ann.start + r.ann.count ∧
    r.ann.start < a.start + a.count

/-- An axis has become absent (R114): it stays where it is, at rest, and is OFFLINE with cause CENSUS, or POWER while its
zone is in motion-power fault, unless it is DISABLED without an envelope; one that enters OFFLINE marks its owner slot
AXIS-OFFLINE. -/
def AxisLost (s t : State) (a : AxisId) : Prop :=
  let enable := (s.mu.tables.env[a]).enable
  let x := s.mgt.axes[a]
  let y := t.mgt.axes[a]
  y.present = false ∧ y.pos = x.pos ∧ y.step = 0 ∧ y.resetHold = false ∧
  y.mode = (if enable = false then .disabledNoEnvelope
    else if t.mgt.powerFault.getLsbD (axisZone a) = true then .offlinePower else .offlineCensus) ∧
  (enable = true → x.mode ≠ .offlineCensus → x.mode ≠ .offlinePower →
    ∀ (k : SlotId) (p : PlayRec), s.axisOwner a = some k → s.play k = some p →
      ∃ q, t.play k = some q ∧ q.marks.getLsbD 3 = true)

/-- Some record of a zone is REFUSED: its UNLISTED notice is set (R143). -/
def unlistedSet (p : Port) : Prop :=
  ∃ (q : PosId) (r : CensusRec), p.census[q] = some r ∧ (r.state = .refusedMalformed ∨ r.state = .refusedUnlisted)

/-- Some record of a zone is CONFLICT: its CONFLICT notice is set (R143). -/
def conflictSet (p : Port) : Prop :=
  ∃ (q : PosId) (r : CensusRec), p.census[q] = some r ∧
    (r.state = .conflictCapacity ∨ ∃ i, r.state = .conflictOverlap i)

/-- A zone's change flag after an event that is a census change or not (R144): a change sets it while the zone is ARMED. -/
def FlagTold (s t : State) (z : ZoneId) (changed : Prop) : Prop :=
  t.ports[z].armed = s.ports[z].armed ∧
  (t.ports[z].changeFlag = true ↔ s.ports[z].changeFlag = true ∨ (s.ports[z].armed = true ∧ changed))

/-- A STATUS is asked for when a level notice of a zone becomes set or its change flag goes from clear to set, and at no
other census event (R143, R144). -/
def StatusTold (s t : State) (z : ZoneId) : Prop :=
  let news : Prop := (unlistedSet t.ports[z] ∧ ¬unlistedSet s.ports[z]) ∨
    (conflictSet t.ports[z] ∧ ¬conflictSet s.ports[z]) ∨
    (t.ports[z].changeFlag = true ∧ s.ports[z].changeFlag = false)
  (news → t.sli = s.sli.askStatus) ∧ (¬news → t.sli = s.sli)

/-- Some record of a zone has become LOST (R144). -/
def newlyLost (s t : State) (z : ZoneId) : Prop :=
  ∃ q : PosId, isLost t.ports[z].census[q] = true ∧ isLost s.ports[z].census[q] = false

/-! ### The end of a slot (R18) -/

/-- The cue of a slot that has ended is cancelled with a cause (R100, R101), and then the STATUS of the end is asked for: a
REQUESTED, PENDING or LIVE cue queues CUE CANCEL, and a LIVE one leaves a ramp on its stream and leaves LIVE at the LCO. -/
def CueCancelled (k : SlotId) (cause : CancelCause) (s t : State) : Prop :=
  let ended (c : Cue) : Prop := c.state = .done ∨ c.state = .failed ∨ c.state = .lost
  (∀ j : SlotId, t.nmx.cues[j] = if j = k then none else s.nmx.cues[j]) ∧
  ((∀ c, s.nmx.cues[k] = some c → ended c) → t.sli = s.sli.askStatus) ∧
  (∀ c, s.nmx.cues[k] = some c → ¬ended c →
    (s.sli.ownQueue.length < 32 → t.sli =
      Sli.askStatus { s.sli with ownQueue := s.sli.ownQueue ++ [.cueCancel (cueInfo k c) cause] }) ∧
    (32 ≤ s.sli.ownQueue.length → t.sli = Sli.askStatus { s.sli with reportOverrun := true })) ∧
  (∀ c, s.nmx.cues[k] = some c → c.state = .live →
    t.nmx.ramps = s.nmx.ramps.set c.stream (some { outputs := c.outputs, gain := c.gain }) ∧
    t.lco.cueLive.getLsbD k = false) ∧
  ((∀ c, s.nmx.cues[k] = some c → c.state ≠ .live) →
    t.nmx.ramps = s.nmx.ramps ∧ t.lco.cueLive.getLsbD k = s.lco.cueLive.getLsbD k) ∧
  (∀ j : SlotId, j ≠ k → t.lco.cueLive.getLsbD j = s.lco.cueLive.getLsbD j) ∧
  t.nmx.duck = s.nmx.duck ∧ t.nmx.present = s.nmx.present ∧ t.nmx.nextCue = s.nmx.nextCue

/-- A PLAYING slot has ended with a reason other than PREEMPTED and SHOW-STOP, and the ARB has taken its release and no
more (R18, R50): the layers that it owned in its groups are released with its scene's release fade (R76), its effect is
gone and its cue cancelled (R73, R100), its axes have lost keyframe and scene target (R117), and its claims are free
(R50). The other slots play on, the modes of the axes are judged, and at most the indicators are. -/
structure SlotEnded (k : SlotId) (p : PlayRec) (reason : EndReason) (cause : CancelCause) (s t : State) : Prop where
  slot : t.seq.slots[k] = .free (some p.scene) reason
  others : ∀ (j : SlotId) (q : PlayRec), j ≠ k → s.play j = some q → ∃ r, t.play j = some r ∧ r = { q with marks := r.marks }
  layers : ∀ (sc : SceneRec) (c : ChannelId), s.scene p.scene = some sc → (t.lco.channels[c]).layer =
    if p.claims.groups.getLsbD (channelGroup c) = true ∧ (s.lco.channels[c]).layer.owner = some k then
      releasedLayer sc.releaseFade s.lco.channels[c]
    else (s.lco.channels[c]).layer
  effects : ∀ j : SlotId, t.lco.effects[j] = if j = k then none else s.lco.effects[j]
  cue : CueCancelled k cause s t
  axes : ∀ a : AxisId,
    let claimed := p.claims.axes.getLsbD a
    let x := s.mgt.axes[a]
    t.mgt.axes[a] = { x with
      mode := t.modeOf a, step := if (t.modeOf a).isSending then x.step else 0
      resetHold := (t.modeOf a).isSending && x.resetHold
      keyframe := if claimed then none else x.keyframe, sceneTarget := if claimed then none else x.sceneTarget }
  owners : ∀ x : ResourceId, t.arb.owners[x] =
    if p.claims.mask.getLsbD x = true ∧ s.arb.owners[x] = some k then none else s.arb.owners[x]
  rest : t.seq.flags = s.seq.flags ∧ t.arb = { s.arb with owners := t.arb.owners } ∧
    t.iou = { s.iou with indicators := t.iou.indicators } ∧ t.mu = s.mu ∧ t.sck = s.sck ∧ t.ports = s.ports ∧
    t.lco.masters = s.lco.masters ∧
    ∀ c : ChannelId, t.lco.channels[c] = { s.lco.channels[c] with
      layer := (t.lco.channels[c]).layer, indicator := (t.lco.channels[c]).indicator }

/-! ### Judging a request (R53, R54) -/

/-- A slot owns a resource of a claim set. -/
def ownsClaim (s : State) (c : Claims) (k : SlotId) : Prop :=
  ∃ x : ResourceId, c.mask.getLsbD x = true ∧ s.arb.owners[x] = some k

/-- The resource test of one resource for a scene's request at a priority (R54): nothing owns it, or the scene may preempt
and the owner plays a yieldable scene at a lower priority. -/
def mayTake (s : State) (sc : SceneRec) (priority : Nat) (x : ResourceId) : Prop :=
  ∀ k : SlotId, s.arb.owners[x] = some k → sc.mayPreempt = true ∧
    ∃ p d, s.play k = some p ∧ s.scene p.scene = some d ∧ d.yieldable = true ∧ p.priority < priority

/-- A slot is FREE (log entry 21), or ends for the preemption set of a claim set (R53, R55). -/
def mayUse (s : State) (c : Claims) (k : SlotId) : Prop :=
  ownsClaim s c k ∨ (s.play k = none ∧ ∀ x : ResourceId, s.arb.owners[x] ≠ some k)

/-- An eligible request of a scene waits in a walk with a blocked set: step 2, 3 or 4 of R52 fails. -/
def waits (s : State) (sc : SceneRec) (priority : Nat) (blocked : BitVec 96) : Prop :=
  (∃ x : ResourceId, sc.claims.mask.getLsbD x = true ∧ blocked.getLsbD x = true) ∨
  (∃ x : ResourceId, sc.claims.mask.getLsbD x = true ∧ ¬mayTake s sc priority x) ∨
  ∀ k : SlotId, ¬mayUse s sc.claims k

/-! ### A segment's parts (R10 to R15): `s` before they are handed out and `t` after, `p` and `p'` the slot's record -/

/-- The parts of a segment are handed out for a slot: the look to the channels of its claimed groups, the effect or its
absence, the cue, the keyframes and the flag action; a mark may join those of the slot. A LIVE cue that the new one
replaces leaves a ramp on its stream and leaves LIVE at the LCO (R100, R101). -/
def PartsHanded (k : SlotId) (p : PlayRec) (sc : SceneRec) (g : Segment) (s t : State) (p' : PlayRec) : Prop :=
  (∀ i : Fin 4, p.marks.getLsbD i = true → p'.marks.getLsbD i = true) ∧
  t.seq.flags = (match g.flag with
    | some (true, f) => s.seq.flags ||| single f
    | some (false, f) => s.seq.flags &&& ~~~(single f)
    | none => s.seq.flags) ∧
  (g.look = none → ∀ c : ChannelId, (t.lco.channels[c]).layer = (s.lco.channels[c]).layer) ∧
  (∀ i fade, g.look = some (i, fade) → s.mu.tables.look[i] = none → p'.marks.getLsbD 0 = true ∧
    ∀ c : ChannelId, (t.lco.channels[c]).layer = (s.lco.channels[c]).layer) ∧
  (∀ i fade r, g.look = some (i, fade) → s.mu.tables.look[i] = some r →
    (∀ (c : ChannelId) (l : Nat) (xs ys : List (Nat × Nat)), r.pairs = xs ++ (c.val, l) :: ys →
      (∀ q ∈ xs ++ ys, q.1 ≠ c.val) → p.claims.groups.getLsbD (channelGroup c) = true →
      (t.lco.channels[c]).layer = {
        owner := some k, phase := if 0 < fade then .fading else .settled, fromLevel := capture s.lco.channels[c]
        toLevel := l, len := fade, pos := 0 }) ∧
    ∀ c : ChannelId, (p.claims.groups.getLsbD (channelGroup c) = false ∨ ∀ q ∈ r.pairs, q.1 ≠ c.val) →
      (t.lco.channels[c]).layer = (s.lco.channels[c]).layer) ∧
  (∀ e, g.effect = some e → (s.mu.tables.fx[e.pattern]).isSome = true → t.lco.effects[k] = some {
    pattern := e.pattern, targets := e.targets, depth := e.depth, phase := 0, count := 0, lastLow := none }) ∧
  ((g.effect = none ∨ ∃ e, g.effect = some e ∧ s.mu.tables.fx[e.pattern] = none) → t.lco.effects[k] = none) ∧
  (g.cue = none → t.nmx = s.nmx) ∧
  (∀ x, g.cue = some x →
    let new (st : CueState) : Cue := {
      number := s.nmx.nextCue, scene := p.scene, zone := sc.home, stream := x.stream, clip := x.clip
      outputs := x.outputs, gain := x.gain, wait := x.wait, remaining := x.wait, state := st }
    t.nmx.nextCue = s.nmx.nextCue + 1 ∧
    (s.nmx.cues[k] = none → s.sli.ownQueue.length < 32 → t.nmx.cues[k] = some (new .requested) ∧
      t.sli.ownQueue = s.sli.ownQueue ++ [.cueStart (cueInfo k (new .requested))]) ∧
    (s.nmx.cues[k] = none → 32 ≤ s.sli.ownQueue.length → t.nmx.cues[k] = some (new .failed) ∧
      t.sli.ownQueue = s.sli.ownQueue ∧ t.sli.reportOverrun = true ∧ p'.marks.getLsbD 1 = true) ∧
    (∀ old, s.nmx.cues[k] = some old → old.state = .done ∨ old.state = .failed ∨ old.state = .lost →
      s.sli.ownQueue.length < 32 → t.nmx.cues[k] = some (new .requested) ∧
      t.sli.ownQueue = s.sli.ownQueue ++ [.cueStart (cueInfo k (new .requested))]) ∧
    (∀ old, s.nmx.cues[k] = some old → old.state = .requested ∨ old.state = .pending ∨ old.state = .live →
      s.sli.ownQueue.length < 31 → t.nmx.cues[k] = some (new .requested) ∧
      t.sli.ownQueue = s.sli.ownQueue ++ [.cueCancel (cueInfo k old) .replaced,
        .cueStart (cueInfo k (new .requested))]) ∧
    (∀ old, s.nmx.cues[k] = some old → old.state = .live →
      t.nmx.ramps = s.nmx.ramps.set old.stream (some { outputs := old.outputs, gain := old.gain }) ∧
      t.lco.cueLive.getLsbD k = false) ∧
    ((∀ old, s.nmx.cues[k] = some old → old.state ≠ .live) → t.nmx.ramps = s.nmx.ramps ∧
      t.lco.cueLive.getLsbD k = s.lco.cueLive.getLsbD k) ∧
    (∀ j : SlotId, j ≠ k → t.nmx.cues[j] = s.nmx.cues[j]) ∧ t.nmx.duck = s.nmx.duck ∧ t.nmx.present = s.nmx.present) ∧
  (∀ j : SlotId, j ≠ k ∨ g.cue = none → t.lco.cueLive.getLsbD j = s.lco.cueLive.getLsbD j) ∧
  t.lco.masters = s.lco.masters ∧
  (∀ c : ChannelId, t.lco.channels[c] = { s.lco.channels[c] with layer := (t.lco.channels[c]).layer }) ∧
  (g.keys = none → t.mgt = s.mgt) ∧
  (∀ ks, g.keys = some ks →
    (∀ (e : KeyEntry) (xs ys : List KeyEntry), ks = xs ++ e :: ys → (∀ d ∈ ys, d.axis ≠ e.axis) →
      t.mgt.axes[e.axis] = { s.mgt.axes[e.axis] with keyframe := some {
        start := (s.mgt.axes[e.axis]).pos, target := e.target, travel := e.travel, elapsed := 0 } } ∧
      ((s.mgt.axes[e.axis]).mode.isOffline = true → p'.marks.getLsbD 3 = true)) ∧
    ∀ a : AxisId, (∀ e ∈ ks, e.axis ≠ a) → t.mgt.axes[a] = s.mgt.axes[a])

/-! ### The STATUS body (Section 11.3) -/

/-- The bytes of a STATUS body, item by item (Section 11.3 with R23, R40, R64, R89, R108, R127, R149, R162, R175): eleven
sections, each with its number and its length before its contents. Log entries 24 and 50 name what the layout leaves to
its reader; the state of an effect that no beat has composed is open (log entry 13), so `low` is bound only where one
has. -/
def StatusImage (s : State) (seq : Half) (behind : Nat) (body : List Byte) : Prop :=
  ∃ low : SlotId → Bool, (∀ (k : SlotId) (e : Effect) (l : Bool), s.lco.effects[k] = some e → e.lastLow = some l → low k = l) ∧
  let each {n : Nat} (f : Fin n → List Byte) : List Byte := (List.finRange n).flatMap f
  let bit (b : Bool) : List Byte := [if b then 1 else 0]
  let stale (src : SourceId) : List Byte := [if (s.sli.sources[sourceIndex src]).fresh then 0 else 1]
  let owner {n : Nat} (o : Option (Fin n)) : List Byte := match o with
    | some i => put8 i.val
    | none => [255]
  let source (x : Source) : List Byte := match x with
    | .visitor n => [0] ++ put8 n.val
    | .virtual n => [1] ++ put8 n.val
    | .schedule n => [2] ++ put8 n.val
    | .server => [3, 255]
  let link : List Byte :=
    put8 s.sli.ownAddr.toNat ++ put16 seq.toNat ++ put16 s.sli.lastTaken.toNat ++
    (each fun z : ZoneId => stale (.light z) ++ put8 (s.sli.sources[sourceIndex (.light z)]).age) ++
    (each fun t : StreamId => stale (.stream t) ++ put8 (s.sli.sources[sourceIndex (.stream t)]).age) ++
    (each fun a : AxisId => stale (.setpoint a) ++ put8 (s.sli.sources[sourceIndex (.setpoint a)]).age) ++
    put8 behind ++ bit s.sli.owed ++ put8 s.sli.forward.length ++ put16 s.sli.badFrames.toNat ++
    put8 s.mu.tables.unit.staleLimit ++ put16 s.mu.tables.unit.statusInterval ++ bit s.mu.tables.unit.autoClear ++
    bit s.sli.linkError ++ put8 (s.sli.linkCauses.toNat + 8 * s.sli.linkSides.toNat) ++ bit s.sli.thruOverrun ++
    bit s.sli.reportOverrun ++ bit s.sli.queueFull ++ bit s.sli.lineStuck ++ put16 s.sli.stuckLines.toNat ++
    bit s.sli.alarm ++ put8 s.sli.alarmNumbers.toNat ++ (each fun z : ZoneId => bit (s.sli.powerFault.getLsbD z)) ++
    (each fun z : ZoneId => bit s.ports[z].unlisted) ++ each fun z : ZoneId => bit s.ports[z].conflict
  let c := s.sck.cal
  let clock : List Byte :=
    (match s.sck.source with
      | .internal => [0, 0, 0, 0, 0]
      | .following => [1, 1, 0] ++ put8 s.sck.miss ++ put8 s.sck.hit
      | .holdover => [1, 1, 1] ++ put8 s.sck.miss ++ put8 s.sck.hit) ++
    putI16 s.sck.trim ++ bit c.running ++ put8 c.year ++ put8 c.month ++ put8 c.day ++ put8 c.weekday ++ put8 c.hour ++
    put8 c.minute ++ put8 c.second ++ put8 c.beat ++
    (each fun n : AlarmId => [if (s.mu.tables.alrm[n]).isNone then 0 else if (s.sck.alarms[n]).spent then 2 else 1]) ++
    put8 (modeByte s.sck.mode) ++ bit s.sli.alarm ++ put8 s.sli.alarmNumbers.toNat
  let inputs : List Byte :=
    (each fun n : LineId => put8 (roleByte (s.mu.tables.line[n]).role) ++ bit (!(s.iou.lines[n]).accepted) ++
      bit (s.iou.lines[n]).stuck ++
      if (s.mu.tables.line[n]).role = .button then [1] ++ put16 (s.iou.lines[n]).lockout else [0, 0, 0]) ++
    (each fun z : ZoneId => match (s.iou.zones[z]).kind with
      | .clear => [0, 0, 0, 0]
      | .occupied => [1, 0, 0, 0]
      | .linger => [2, 1] ++ put16 (s.iou.zones[z]).count) ++
    bit (!s.iou.stopAccepted) ++
    each fun n : EntryId => match s.iou.indicators[n] with
      | none => [0, 0]
      | some .dark => [1, 0]
      | some .busy => [1, 1]
      | some .ready => [1, 2]
  let requests : List Byte := bit s.arb.showStopped ++ put8 s.arb.queue.length ++ s.arb.queue.flatMap fun r =>
    put8 r.scene.val ++ source r.source ++ put8 r.priority ++ put16 r.deadline
  let outcomes : List Byte := put8 s.arb.log.length ++ s.arb.log.flatMap fun e =>
    put16 e.number.toNat ++ put8 e.scene.val ++ source e.source ++ put8 e.priority ++
    (match e.kind with
      | .started k => [0] ++ put8 k.val ++ [0, 0]
      | .refused .stopped => [1, 0, 0, 0]
      | .refused .notReady => [1, 1, 0, 0]
      | .refused .duplicate => [1, 2, 0, 0]
      | .refused .ineligible => [1, 3, 0, 0]
      | .refused .queueFull => [1, 4, 0, 0]
      | .departed .ineligible => [2, 1, 0, 0]
      | .departed .timedOut => [2, 2, 0, 0]
      | .departed .house => [2, 3, 0, 0]
      | .departed .stopped => [2, 4, 0, 0]
      | .departed .showStop => [2, 5, 0, 0]
      | .preempted k new => [3] ++ put8 new.val ++ [1] ++ put8 k.val) ++
    match e.tag with
      | some t => [1] ++ put16 t.toNat
      | none => [0, 0, 0]
  let cueState (x : Cue) : Nat := match x.state with
    | .requested => 0
    | .pending => 1
    | .live => 2
    | .done => 3
    | .failed => 4
    | .lost => 5
  let slots : List Byte := each fun k : SlotId => match s.seq.slots[k] with
    | .playing p =>
      [1] ++ put8 p.scene.val ++ source p.source ++ put8 p.priority ++ put16 p.position ++ put8 p.segment ++ put8 p.plays ++
      put8 p.marks.toNat ++ (match s.nmx.cues[k] with
        | some x => put8 (cueState x + 1)
        | none => [0]) ++ List.replicate 5 0
    | .free last reason => [0] ++ owner last ++ List.replicate 9 0 ++ (match reason with
        | .complete => [0]
        | .stopped => [1]
        | .preempted => [2]
        | .abandoned => [3]
        | .showStop => [4]
        | .reset => [5]) ++ List.replicate 4 0
  let light : List Byte :=
    (each fun z : ZoneId => put16 s.lco.masters[z] ++
      put8 ((List.finRange 192).filter fun i => (s.lco.channels[globalChannel z i]).stale).length) ++
    put16 (pairsInUse s.mu.tables) ++ each fun k : SlotId => match s.lco.effects[k] with
      | some e => [1] ++ put8 e.pattern.val ++ put16 e.phase ++ bit (e.count.getLsbD 0) ++ bit (low k)
      | none => [0, 0, 0, 0, 0, 0]
  let sound : List Byte :=
    (each fun t : StreamId => bit (s.mu.tables.route.ambient.getLsbD t) ++ stale (.stream t)) ++
    (each fun o : OutputId => put16 s.nmx.duck[o] ++ bit (s.nmx.present.getLsbD o) ++ bit (s.nmx.liveAt o)) ++
    each fun k : SlotId => match s.nmx.cues[k] with
      | some x => [1] ++ put16 x.number.toNat ++ put16 x.clip ++ put8 (cueState x) ++
          if x.state = .pending then [1] ++ put16 x.remaining else [0, 0, 0]
      | none => List.replicate 9 0
  let axes : List Byte := each fun a : AxisId =>
    let x := s.mgt.axes[a]
    (match x.mode with
      | .disabledNoEnvelope => [0, 0]
      | .disabledOutOfRange => [0, 1]
      | .offlineCensus => [1, 0]
      | .offlinePower => [1, 1]
      | .guarded => [2, 255]
      | .holding => [3, 255]
      | .tracking => [4, 255]) ++
    putI16 x.pos ++ putI16 x.step ++ bit x.present ++ owner (s.axisOwner a) ++
    (match x.lastTarget with
      | some (.pos p) => putI16 p
      | some .stop => putI16 (-32768)
      | none => putI16 (-32768)) ++
    (match x.keyframe with
      | some f => [1] ++ putI16 f.target ++ put16 f.elapsed ++ put16 f.travel
      | none => [0, 0, 0, 0, 0, 0, 0]) ++
    putI16 x.setpoint ++ stale (.setpoint a) ++ bit x.guarded ++ put16 x.rearm
  let ports : List Byte := each fun z : ZoneId =>
    let p := s.ports[z]
    let count (test : Option CensusRec → Bool) : List Byte :=
      put8 ((List.finRange 12).filter fun q : PosId => test p.census[q]).length
    count isAdmitted ++ count isConflict ++ count isRefused ++ count isLost ++ count (·.isNone) ++ bit p.changeFlag ++
    bit (!p.armed) ++ bit p.unlisted ++ bit p.conflict ++ bit (s.sli.powerFault.getLsbD z) ++
    (match p.powerOff with
      | none => [1, 0, 0]
      | some n => [0, 1] ++ put8 n) ++
    (match p.sweep with
      | none => [0, 0, 0]
      | some q => [1, 1] ++ put8 (q.val + 1)) ++
    put16 p.superseded.toNat ++ put16 p.discarded.toNat
  let part (id : Byte) (bs : List Byte) : List Byte := [id] ++ put16 bs.length ++ bs
  body = part 1 link ++ part 2 clock ++ part 3 inputs ++ part 4 requests ++
    part 5 (each fun x : ResourceId => owner s.arb.owners[x]) ++ part 6 outcomes ++ part 7 slots ++ part 8 light ++
    part 9 sound ++ part 10 axes ++ part 11 ports

/-! ### What a completed load changes (R182, R183): `s` before it and `t` after it, the REPLY aside -/

/-- A load writes the record of an index. -/
def Load.writesIndex (l : Load) (i : Nat) : Prop := l.first ≤ i ∧ i < l.first + l.recs.length

/-- ROUTE (R91): every duck gain is clamped into the range from its new depth to 4096. -/
def RouteTaken (s t : State) : Prop :=
  (∀ o : OutputId, t.nmx.duck[o] = min 4096 (max t.mu.tables.route.depth[o] s.nmx.duck[o])) ∧
  { t.nmx with duck := s.nmx.duck } = s.nmx ∧ { t with mu := s.mu, nmx := s.nmx } = s

/-- ENV (R110): the guard of a written axis is judged when its zone set changes, and its mode is judged. -/
def EnvTaken (s t : State) (written : AxisId → Prop) : Prop :=
  (∀ a : AxisId, ¬written a → t.mgt.axes[a] = s.mgt.axes[a]) ∧
  (∀ a : AxisId, written a →
    let e := t.mu.tables.env[a]
    let x := s.mgt.axes[a]
    let y := t.mgt.axes[a]
    let active : Prop := ∃ z : ZoneId, e.guardZones.getLsbD z = true ∧ s.mgt.occ[z] ≠ .clear
    let waits : Prop := x.guarded = true ∧ x.rearm = 0
    y = { x with
      mode := t.modeOf a, step := if (t.modeOf a).isSending then x.step else 0
      resetHold := (t.modeOf a).isSending && x.resetHold, guarded := y.guarded, rearm := y.rearm } ∧
    (e.enable = false → y.mode = .disabledNoEnvelope) ∧
    (e.guardZones = (s.mu.tables.env[a]).guardZones → y.guarded = x.guarded ∧ y.rearm = x.rearm) ∧
    (e.guardZones ≠ (s.mu.tables.env[a]).guardZones →
      (e.guardZones = 0 → y.guarded = false ∧ y.rearm = 0) ∧ (active → y.guarded = true ∧ y.rearm = 0) ∧
      (e.guardZones ≠ 0 → ¬active → waits → y.guarded = decide (0 < e.rearm) ∧ y.rearm = e.rearm) ∧
      (e.guardZones ≠ 0 → ¬active → ¬waits → y.guarded = x.guarded ∧ y.rearm = x.rearm))) ∧
  { t.mgt with axes := s.mgt.axes } = s.mgt ∧ t.seq.flags = s.seq.flags ∧
  { t with mu := s.mu, mgt := s.mgt, seq := s.seq } = s

/-- LINE (R26, R36, R20, R119): a line whose role, zone or active level changed is reset and taken as inactive; a zone that
such a line of role PRESENCE leaves is judged at once, and a change to CLEAR with no request waiting abandons its scenes;
the guards of the axes follow the zones, and the indicators are judged. -/
def LinesTaken (s t : State) : Prop :=
  let changed (n : LineId) : Prop := (s.mu.tables.line[n]).role ≠ (t.mu.tables.line[n]).role ∨
    (s.mu.tables.line[n]).zone ≠ (t.mu.tables.line[n]).zone ∨
    (s.mu.tables.line[n]).activeLow ≠ (t.mu.tables.line[n]).activeLow
  let judged (z : ZoneId) : Prop := ∃ n : LineId, changed n ∧ (s.mu.tables.line[n]).role = .presence ∧
    (s.mu.tables.line[n]).zone = z.val
  let held (z : ZoneId) : Prop := ∃ n : LineId, (t.mu.tables.line[n]).role = .presence ∧
    (t.mu.tables.line[n]).zone = z.val ∧ (t.iou.lines[n]).accepted = true
  let linger := t.mu.tables.unit.linger
  (∀ n : LineId, (changed n → t.iou.lines[n] = {
      accepted := false, debounce := 0, lockout := 0, held := 0, stuck := false }) ∧
    (¬changed n → t.iou.lines[n] = s.iou.lines[n])) ∧
  (∀ z : ZoneId,
    (judged z → held z → (s.iou.zones[z]).kind ≠ .occupied → t.iou.zones[z] = { kind := .occupied, count := 0 }) ∧
    (judged z → ¬held z → (s.iou.zones[z]).kind = .occupied →
      t.iou.zones[z] = if 0 < linger then { kind := .linger, count := linger } else { kind := .clear, count := 0 }) ∧
    (¬judged z ∨ (held z ↔ (s.iou.zones[z]).kind = .occupied) → t.iou.zones[z] = s.iou.zones[z]) ∧
    ((t.iou.zones[z]).kind = (s.iou.zones[z]).kind → t.arb.occ[z] = s.arb.occ[z] ∧ t.mgt.occ[z] = s.mgt.occ[z]) ∧
    ((t.iou.zones[z]).kind ≠ (s.iou.zones[z]).kind →
      t.arb.occ[z] = (t.iou.zones[z]).kind ∧ t.mgt.occ[z] = (t.iou.zones[z]).kind)) ∧
  (s.arb.queue = [] → ∀ (k : SlotId) (p : PlayRec) (sc : SceneRec), s.play k = some p → t.scene p.scene = some sc →
    let ends : Prop := sc.abandonOnClear = true ∧ (s.iou.zones[sc.home]).kind ≠ .clear ∧
      (t.iou.zones[sc.home]).kind = .clear
    (ends → t.seq.slots[k] = .free (some p.scene) .abandoned) ∧
    (¬ends → ∃ q, t.play k = some q ∧ q = { p with marks := q.marks })) ∧
  GuardsJudged s t ∧ IndicatorsJudged t ∧ t.sck = s.sck ∧ t.ports = s.ports

/-- TRIG (R35, R85): the indicators are judged, and a channel that no entry names any more has no indicator level. -/
def TrigTaken (s t : State) : Prop :=
  IndicatorsJudged t ∧
  (∀ c : ChannelId, t.lco.channels[c] = { s.lco.channels[c] with indicator := (t.lco.channels[c]).indicator }) ∧
  (∀ c : ChannelId, unnamedChannel t c → (t.lco.channels[c]).indicator = none) ∧
  { t.lco with channels := s.lco.channels } = s.lco ∧ { t.iou with indicators := s.iou.indicators } = s.iou ∧
  { t with mu := s.mu, iou := s.iou, lco := s.lco } = s

/-- ALRM (R158): every written alarm is ARMED and keeps its fired mark; its matched mark is set when it fired last, and
otherwise when the calendar runs and matches now. A record made EMPTY loses its state and marks. -/
def AlarmsTaken (s t : State) (written : AlarmId → Prop) : Prop :=
  (∀ n : AlarmId, ¬written n → t.sck.alarms[n] = s.sck.alarms[n]) ∧
  (∀ n : AlarmId, written n →
    let x := s.sck.alarms[n]
    let y := t.sck.alarms[n]
    (t.mu.tables.alrm[n] = none → y = { spent := false, matched := false, fired := false }) ∧
    ∀ r, t.mu.tables.alrm[n] = some r → y.spent = false ∧ y.fired = x.fired ∧
      (y.matched = true ↔ x.fired = true ∨ s.sck.cal.running = true ∧ alarmMatches r s.sck.cal = true)) ∧
  { t.sck with alarms := s.sck.alarms } = s.sck ∧ { t with mu := s.mu, sck := s.sck } = s

end Sys2Proof.Machine
end

