-- ==== Sys2Proof/WellFormed.lean ====
section
/-! DEFINITION. Which terms of `Instr` stand for something that can reach the block: a frame row holds a frame of its
kind that agrees with its layout (R166, R188), a bad frame is one, a beat names every block once. Fields of a COMMAND
are free, since judging them is the MU's work (R176). -/

namespace Sys2Proof

/-- A beat's order names each of the thirteen blocks once. -/
def orderOk (order : List Block) : Bool :=
  order.length == 13 && [Block.sli, .mu, .sck, .iou, .arb, .seq, .lco, .nmx, .mgt, .port 0, .port 1, .port 2,
    .port 3].all fun k => order.contains k

/-- A frame's body fits (R164). -/
def bodyFits (f : Frame) : Bool := decide (f.body.length ≤ Config.bodyMax)

/-- A frame of a row that names its kind: it agrees with its layout, and its body fits. -/
def frameOk (f : Frame) : Bool := Machine.agrees f && bodyFits f

/-- A COMMAND frame of a row that names its code. -/
def cmdOk (code : Byte) (c : Cmd) : Bool := frameOk (Machine.Cmd.frame c code)

/-- A STOP-SCENE's selector names a slot. -/
def namesSlot (c : Cmd) : Bool := c.fields.length == 2 && Machine.u8 c.fields 0 == 1

/-- The bytes received at a side fail a check of R164. -/
def isBad (bytes : List Byte) : Bool :=
  match Machine.judgeBytes bytes with
  | .error _ => true
  | .ok _ => false

/-- The Show Link frame that a row carries, if it carries one that is whole. -/
def Instr.frame? : Instr → Option Frame
  | .syncFrame f _ => some (Machine.Rx.frame f 1)
  | .lightFrame f => some (Machine.Rx.frame f 2)
  | .soundFrame f => some (Machine.Rx.frame f 3)
  | .motionFrame f => some (Machine.Rx.frame f 4)
  | .triggerFrame f => some (Machine.Rx.frame f 5)
  | .thruFrame f => some f
  | .loadTable c => some (Machine.Cmd.frame c 1)
  | .readTable c => some (Machine.Cmd.frame c 2)
  | .readStatus c => some (Machine.Cmd.frame c 3)
  | .readCensus c => some (Machine.Cmd.frame c 4)
  | .censusSweep c => some (Machine.Cmd.frame c 5)
  | .setTime c => some (Machine.Cmd.frame c 6)
  | .readTime c => some (Machine.Cmd.frame c 7)
  | .setTrim c => some (Machine.Cmd.frame c 8)
  | .setBeatSource c _ => some (Machine.Cmd.frame c 9)
  | .setHouseMode c _ => some (Machine.Cmd.frame c 10)
  | .startScene c => some (Machine.Cmd.frame c 11)
  | .stopSceneByScene c => some (Machine.Cmd.frame c 12)
  | .stopSceneBySlot c => some (Machine.Cmd.frame c 12)
  | .stopShow c => some (Machine.Cmd.frame c 13)
  | .resumeShow c => some (Machine.Cmd.frame c 14)
  | .setFlags c => some (Machine.Cmd.frame c 15)
  | .clearFlags c => some (Machine.Cmd.frame c 16)
  | .readFlags c => some (Machine.Cmd.frame c 17)
  | .fireTrigger c => some (Machine.Cmd.frame c 18)
  | .clearNotices c => some (Machine.Cmd.frame c 19)
  | .reset c _ => some (Machine.Cmd.frame c 20)
  | .unknownCommand code c => some (Machine.Cmd.frame c code)
  | .downstreamFramePassedOn f => some f
  | .formatFault f => some f
  | .fullReset _ _ => none
  | .softReset _ => none
  | .trimmedIntervalEnd _ => none
  | .selfMadeBeat _ => none
  | .inTransmitNext _ => none
  | .thruTransmitNext => none
  | .zbusTransmitNext _ => none
  | .fixtureReply _ _ => none
  | .announcement _ _ => none
  | .motionPowerFault _ => none
  | .powerHoldoffExpiry _ => none
  | .showstopLineChange _ => none
  | .lineAcceptedChange _ _ _ => none
  | .lockoutExpiry _ => none
  | .buttonStuck _ => none
  | .presenceStuck _ => none
  | .lingerExpiry _ => none
  | .waitDeadlineExpiry => none
  | .playEnd _ => none
  | .segmentBegin _ => none
  | .fadeComplete _ => none
  | .effectPeriodWrap _ => none
  | .cueWaitExpiry _ => none
  | .rearmExpiry _ => none
  | .statusInterval => none
  | .sourceStale _ => none
  | .loadComplete => none
  | .badFrame _ _ => none

/-- The command is well-formed. -/
def Instr.wellFormed : Instr → Bool
  | .fullReset _ _ => true
  | .softReset _ => true
  | .trimmedIntervalEnd b => orderOk b.order
  | .syncFrame f b => frameOk (Machine.Rx.frame f 1) && orderOk b.order
  | .selfMadeBeat b => orderOk b.order
  | .lightFrame f => frameOk (Machine.Rx.frame f 2)
  | .soundFrame f => frameOk (Machine.Rx.frame f 3)
  | .motionFrame f => frameOk (Machine.Rx.frame f 4)
  | .triggerFrame f => frameOk (Machine.Rx.frame f 5)
  | .thruFrame f => bodyFits f
  | .inTransmitNext _ => true
  | .thruTransmitNext => true
  | .zbusTransmitNext _ => true
  | .fixtureReply _ bytes => Machine.u8 bytes 0 == 2
  | .announcement _ bytes => Machine.u8 bytes 0 == 3
  | .motionPowerFault _ => true
  | .powerHoldoffExpiry _ => true
  | .showstopLineChange _ => true
  | .lineAcceptedChange _ _ _ => true
  | .lockoutExpiry _ => true
  | .buttonStuck _ => true
  | .presenceStuck _ => true
  | .lingerExpiry _ => true
  | .waitDeadlineExpiry => true
  | .playEnd _ => true
  | .segmentBegin _ => true
  | .fadeComplete _ => true
  | .effectPeriodWrap _ => true
  | .cueWaitExpiry _ => true
  | .rearmExpiry _ => true
  | .statusInterval => true
  | .sourceStale _ => true
  | .loadComplete => true
  | .loadTable c => cmdOk 1 c
  | .readTable c => cmdOk 2 c
  | .readStatus c => cmdOk 3 c
  | .readCensus c => cmdOk 4 c
  | .censusSweep c => cmdOk 5 c
  | .setTime c => cmdOk 6 c
  | .readTime c => cmdOk 7 c
  | .setTrim c => cmdOk 8 c
  | .setBeatSource c b => cmdOk 9 c && orderOk b.order
  | .setHouseMode c _ => cmdOk 10 c
  | .startScene c => cmdOk 11 c
  | .stopSceneByScene c => cmdOk 12 c && !namesSlot c
  | .stopSceneBySlot c => cmdOk 12 c && namesSlot c
  | .stopShow c => cmdOk 13 c
  | .resumeShow c => cmdOk 14 c
  | .setFlags c => cmdOk 15 c
  | .clearFlags c => cmdOk 16 c
  | .readFlags c => cmdOk 17 c
  | .fireTrigger c => cmdOk 18 c
  | .clearNotices c => cmdOk 19 c
  | .reset c _ => cmdOk 20 c
  | .unknownCommand code c => cmdOk code c && decide (code.toNat = 0 ∨ 20 < code.toNat)
  | .downstreamFramePassedOn f => bodyFits f && !Machine.isBroadcast f.addr
  | .badFrame _ bytes => isBad bytes
  | .formatFault f => bodyFits f && !Machine.agrees f

end Sys2Proof
end

