-- ==== Sys2Proof/Certificates/Slice0/Obligations.lean ====
section
/-! DEFINITION. The statements for the provers. A statement about a command says which next state `exec` answers, for
every state and operands that meet its hypotheses; what its conclusion does not name is equal to what it was. -/

open Sys2Proof Sys2Proof.Machine

/-! ### The step, the resets and the laws -/

/-- A step executes the command at the front of the queue on the state with the queue's rest. -/
def Obligations.StepRunsFrontCommand : Prop :=
  ∀ (c : Instr) (rest : List Instr) (s : State), s.pending = c :: rest → step s = exec c { s with pending := rest }

/-- On an empty queue one reference tick passes (the model's choice, log entry 3): the interval count advances up to the
interval's end, the spacing count up to 110 001, and nothing else changes. -/
def Obligations.EmptyQueueIsOneTick : Prop :=
  ∀ s : State, s.pending = [] → ∃ t, step s = .next t ∧
    t.sck.interval = (if s.sck.source = .following then
        (if s.sck.interval < 150000 then s.sck.interval + 1 else s.sck.interval)
      else if s.sck.interval < s.sck.intervalLen then s.sck.interval + 1 else s.sck.interval) ∧
    t.sck.spacing = s.sck.spacing.map (fun n => min (n + 1) 110001) ∧
    { t with sck := s.sck } = s ∧
    { t.sck with interval := s.sck.interval, spacing := s.sck.spacing } = s.sck

/-- The reset state meets the four laws, whatever the pins read. -/
def Obligations.ResetMeetsLaws : Prop :=
  ∀ (addrPins : BitVec 4) (stop : Bool), ReportLaw (State.afterFullReset addrPins stop).sli ∧
    ShowLaw (State.afterFullReset addrPins stop) ∧ ClockLaw (State.afterFullReset addrPins stop).sck ∧
    CensusLaw (State.afterFullReset addrPins stop)

/-- Every step keeps the law of the own-report queue and the forward buffer. -/
def Obligations.ReportLawKept : Prop := ∀ s t : State, ReportLaw s.sli → step s = .next t → ReportLaw t.sli

/-- Every step keeps the law of the claim table, the slots and the request queue. -/
def Obligations.ShowLawKept : Prop := ∀ s t : State, ShowLaw s → step s = .next t → ShowLaw t

/-- Every step keeps the ranges of the beat generator and the calendar. -/
def Obligations.ClockLawKept : Prop := ∀ s t : State, ClockLaw s.sck → step s = .next t → ClockLaw t.sck

/-- A full reset takes every field of every block to its full-reset value; the pins give the address and the show state.
Where no rule gives the value it is the model's: the axis's open reply, the port's fresh marks, its wait and its window
(log entries 6, 7), the records of what each transmitter sends (5), and the SCK's note of show news (45). The queue of
commands and the counter of free values stay (8). -/
def Obligations.FullResetValues : Prop :=
  ∀ (addrPins : BitVec 4) (stop : Bool) (s : State), ∃ t, exec (.fullReset addrPins stop) s = .next t ∧
    t.pending = s.pending ∧ t.free = s.free ∧
    t.sli = {
      ownAddr := addrPins, lastTaken := 0, sources := Vector.replicate 44 { age := 255, fresh := false }
      ownQueue := [.status], owed := false, statusCount := 0, forward := [], thruQueue := [], servedOwn := true
      upSeq := 0, badFrames := 0, linkError := false, linkCauses := 0, linkSides := 0, thruOverrun := false
      reportOverrun := false, queueFull := false, lineStuck := false, stuckLines := 0, alarm := false
      alarmNumbers := 0, powerFault := 0, inTx := none, thruTx := none } ∧
    t.mu.st = .idle ∧
    t.mu.tables.unit = {
      buttonStuck := 3000, presenceStuck := 180000, linger := 300, staleLimit := 5, statusInterval := 50
      autoClear := false, openClears := false } ∧
    t.mu.tables.route = {
      ambient := 0xC0, bed := Vector.replicate 64 0, depth := Vector.replicate 8 4096
      attack := Vector.replicate 8 256, release := Vector.replicate 8 64 } ∧
    t.mu.tables.ceil = Vector.replicate 768 65534 ∧ t.mu.tables.admt = Vector.replicate 40 none ∧
    (∀ a : AxisId, t.mu.tables.env[a] = {
      enable := false, min := -32767, max := 32767, vmax := 1, amax := 1, guardZones := 0, park := false
      parkPos := 0, vguard := 0, rearm := 0 }) ∧
    t.mu.tables.look = Vector.replicate 64 none ∧ t.mu.tables.fx = Vector.replicate 16 none ∧
    t.mu.tables.scn = Vector.replicate 48 none ∧
    (∀ n : LineId, t.mu.tables.line[n] = {
      role := .unused, zone := 0, activeLow := 0, debounce := 1, lockout := 0, trigOnBreak := 0 }) ∧
    t.mu.tables.trig = Vector.replicate 32 none ∧ t.mu.tables.alrm = Vector.replicate 8 none ∧
    t.sck = {
      source := .internal, trim := 0, acc := 0, interval := 0, intervalLen := 100000, miss := 0, hit := 0
      spacing := none
      cal := {
        running := false, year := 0, month := 1, day := 1, weekday := 0, hour := 0, minute := 0, second := 0
        beat := 0 }
      alarms := Vector.replicate 8 { spent := false, matched := false, fired := false }
      mode := .closed, showStopped := stop, showNews := false } ∧
    t.iou = {
      lines := Vector.replicate 16 { accepted := false, debounce := 0, lockout := 0, held := 0, stuck := false }
      zones := Vector.replicate 4 { kind := .clear, count := 0 }
      stopAccepted := stop, stopDebounce := 0, indicators := Vector.replicate 32 none, mode := .closed
      showStopped := stop } ∧
    t.arb = {
      queue := [], owners := Vector.replicate 96 none, showStopped := stop, log := [], nextNumber := 0
      mode := .closed, occ := Vector.replicate 4 .clear } ∧
    t.seq = { slots := Vector.replicate 8 (.free none .reset), flags := 0 } ∧
    (∀ c : ChannelId, t.lco.channels[c] = {
      base := 0, stale := true, lastFresh := 0
      layer := { owner := none, phase := .idle, fromLevel := 0, toLevel := 0, len := 0, pos := 0 }
      indicator := none, present := false }) ∧
    t.lco.masters = Vector.replicate 4 256 ∧ t.lco.effects = Vector.replicate 8 none ∧ t.lco.cueLive = 0 ∧
    t.nmx = {
      cues := Vector.replicate 8 none, nextCue := 0, ramps := Vector.replicate 8 none
      duck := Vector.replicate 8 4096, present := 0 } ∧
    (∀ a : AxisId, t.mgt.axes[a] = {
      pos := 0, step := 0, mode := .disabledNoEnvelope, present := false, setpoint := -32768, sceneTarget := none
      keyframe := none, guarded := false, rearm := 0, resetHold := false, lastTarget := none, reply := none }) ∧
    t.mgt.occ = Vector.replicate 4 .clear ∧ t.mgt.powerFault = 0 ∧ t.mgt.showStopped = stop ∧
    ∀ z : ZoneId, t.ports[z] = {
      census := Vector.replicate 12 none, light := none, lightFresh := false, motion := none, motionFresh := false
      awaiting := false, waiting := none, audio := [], frameNo := 0, lastSent := none, window := none
      sweep := some 0, calls := 0, changeFlag := false, armed := false, powerOff := none, senseFault := false
      superseded := 0, discarded := 0, sending := none }

/-- When the REPLY of the RESET command leaves, every block takes its soft-reset values and keeps the rest; the axes'
modes and the indicators are then judged. What no rule says a soft reset does to (the target of the last beat, an open
reply position, a port's fresh marks and window) is kept, which is the model's choice (log entries 43, 6, 7); so is that a
guarded axis with re-arm time 0 loses its mark (log entry 28), and the SCK's note of show news is the model's own (log
entry 45). -/
def Obligations.SoftResetValues : Prop :=
  ∀ (stop : Bool) (s : State), s.resetLeaves = true → ∃ t f, exec (.softReset stop) s = .next t ∧
    f.kind = 11 ∧ f.seq = s.sli.upSeq ∧ f.addr = s.sli.ownAddr.zeroExtend 8 ∧
    t.sli = { s.sli with
      ownQueue := [.status], owed := false, statusCount := 0, servedOwn := true, upSeq := s.sli.upSeq + 1
      inTx := some f } ∧
    t.mu = { s.mu with st := .idle } ∧ t.sck = { s.sck with showStopped := stop, showNews := false } ∧
    t.arb = { s.arb with
      queue := [], owners := Vector.replicate 96 none, showStopped := stop, log := []
      occ := Vector.replicate 4 .clear } ∧
    t.seq = { slots := Vector.replicate 8 (.free none .reset), flags := 0 } ∧
    t.iou = { s.iou with
      lines := Vector.replicate 16 { accepted := false, debounce := 0, lockout := 0, held := 0, stuck := false }
      zones := Vector.replicate 4 { kind := .clear, count := 0 }
      stopAccepted := stop, stopDebounce := 0, indicators := t.iou.indicators, showStopped := stop } ∧
    IndicatorsJudged t ∧
    (∀ c : ChannelId, t.lco.channels[c] = { s.lco.channels[c] with
      layer := { owner := none, phase := .idle, fromLevel := 0, toLevel := 0, len := 0, pos := 0 }
      indicator := (t.lco.channels[c]).indicator }) ∧
    (∀ c : ChannelId, unnamedChannel t c → (t.lco.channels[c]).indicator = none) ∧
    t.lco.masters = s.lco.masters ∧ t.lco.effects = Vector.replicate 8 none ∧ t.lco.cueLive = 0 ∧
    t.nmx = { s.nmx with
      cues := Vector.replicate 8 none, ramps := Vector.replicate 8 none, duck := Vector.replicate 8 4096 } ∧
    (∀ a : AxisId, t.mgt.axes[a] = { s.mgt.axes[a] with
        mode := t.modeOf a, sceneTarget := none, keyframe := none
        step := if (t.modeOf a).isSending then (s.mgt.axes[a]).step else 0
        resetHold := (t.modeOf a).isSending && (s.mgt.axes[a]).mode.isSending
        rearm := if (s.mu.tables.env[a]).guardZones = 0 then (s.mgt.axes[a]).rearm else (s.mu.tables.env[a]).rearm
        guarded := if (s.mu.tables.env[a]).guardZones = 0 then (s.mgt.axes[a]).guarded
          else decide (0 < (s.mu.tables.env[a]).rearm) } ∧
      ((t.modeOf a).isSending = (s.modeOf a).isSending)) ∧
    t.mgt.occ = Vector.replicate 4 .clear ∧ t.mgt.powerFault = s.mgt.powerFault ∧ t.mgt.showStopped = stop ∧
    (∀ z : ZoneId, t.ports[z] = { s.ports[z] with audio := [] }) ∧ t.pending = s.pending ∧ t.free = s.free

/-! ### Frames, commands and records as bytes -/

/-- A frame written by its layout with its CRC-32 is judged valid and read back whole. -/
def Obligations.FrameRoundTrip : Prop := ∀ f : Frame, f.body.length ≤ 8192 → judgeBytes (frameBytes f) = .ok f

/-- The bytes of a COMMAND frame taken at IN are read as the row of its code, every field as sent. -/
def Obligations.CommandRoundTrip : Prop :=
  ∀ (own : BitVec 4) (b : BeatIn) (code : Byte) (c : Cmd), c.fields.length ≤ 8188 →
    (c.addr = own.zeroExtend 8 ∧ own ≠ 15) →
    decodeReceived own b .inSide (frameBytes (Cmd.frame c code)) = commandRow b code c

/-- A record of any of the eleven tables that a load accepts is read back byte for byte as loaded. -/
def Obligations.RecordsReadBack : Prop :=
  ∀ (table : Nat) (b : List Byte) (r : TableRec), parseRec table b = some r → recContents r = b

/-! ### Beats and the clock -/

/-- Under INTERNAL or HOLDOVER the end of a trimmed interval is a beat that reaches every block once, and the next
interval is computed: its length, and the accumulator that keeps the fraction, so that no correction is lost. The
order within a beat is open in the spec and comes with the beat (the model's form: log entry 4); that the ticks which
remain of the interval pass first, whatever the count, is the model's choice (log entry 3). -/
def Obligations.TrimmedIntervalIsBeat : Prop :=
  (∀ (b : BeatIn) (s : State), orderOk b.order = true → s.sck.source ≠ .following →
    b.order.Perm allBlocks ∧
    exec (.trimmedIntervalEnd b) s = .next (b.order.foldl (State.blockBeat b)
      { s with sck := s.sck.afterTrimmed (s.sck.intervalLen - s.sck.interval) })) ∧
  ∀ (x : Sck) (ticks : Nat), -100 ≤ x.trim → x.trim ≤ 100 → -9 ≤ x.acc → x.acc ≤ 9 →
    (99990 ≤ (x.afterTrimmed ticks).intervalLen ∧ (x.afterTrimmed ticks).intervalLen ≤ 100010) ∧
    (-9 ≤ (x.afterTrimmed ticks).acc ∧ (x.afterTrimmed ticks).acc ≤ 9) ∧
    10 * (100000 - ((x.afterTrimmed ticks).intervalLen : Int)) + (x.afterTrimmed ticks).acc = x.acc + x.trim ∧
    (0 ≤ x.acc + x.trim → 0 ≤ (x.afterTrimmed ticks).acc) ∧
    (x.acc + x.trim ≤ 0 → (x.afterTrimmed ticks).acc ≤ 0)

/-- In FOLLOWING the 150 000th tick is a self-made beat; the eighth in a row enters HOLDOVER with a trimmed interval.
The order within a beat is open in the spec and comes with the beat (the model's form: log entry 4); that the ticks which
remain up to 150 000 pass first, whatever the count, is the model's choice (log entry 3). -/
def Obligations.SelfMadeBeats : Prop :=
  ∀ (b : BeatIn) (s : State), orderOk b.order = true → s.sck.source = .following →
    (s.sck.miss < 7 → exec (.selfMadeBeat b) s = .next (b.order.foldl (State.blockBeat b) { s with
      sck := { s.sck with
        interval := 0, miss := s.sck.miss + 1
        spacing := s.sck.spacing.map fun n => min (n + (150000 - s.sck.interval)) 110001 } })) ∧
    (s.sck.miss = 7 → exec (.selfMadeBeat b) s = .next (b.order.foldl (State.blockBeat b) { s with
      sck := { s.sck.afterTrimmed (150000 - s.sck.interval) with source := .holdover, miss := 8, hit := 0 } }))

/-- A SYNC frame addressed to the unit: under INTERNAL it restarts the spacing count; in FOLLOWING it is a beat; in
HOLDOVER it counts a hit when its spacing is 90 000 to 110 000, and the sixteenth hit in a row is a beat. The order
within a beat is open in the spec and comes with the beat (the model's form: log entry 4). -/
def Obligations.SyncFrames : Prop :=
  ∀ (f : Rx) (b : BeatIn) (s : State), s.isOwn f.addr → f.body = [] → orderOk b.order = true →
    (s.sck.source = .internal →
      exec (.syncFrame f b) s = .next { (s.record f.seq) with sck := { s.sck with spacing := some 0 } }) ∧
    (s.sck.source = .following → exec (.syncFrame f b) s = .next (b.order.foldl (State.blockBeat b) { (s.record f.seq) with
      sck := { s.sck with interval := 0, miss := 0, spacing := some 0 } })) ∧
    (s.sck.source = .holdover → ∀ n, s.sck.spacing = some n → 90000 ≤ n → n ≤ 110000 → s.sck.hit < 15 →
      exec (.syncFrame f b) s = .next { (s.record f.seq) with
        sck := { s.sck with hit := s.sck.hit + 1, spacing := some 0 } }) ∧
    (s.sck.source = .holdover → (∀ n, s.sck.spacing = some n → n < 90000 ∨ 110000 < n) →
      exec (.syncFrame f b) s = .next { (s.record f.seq) with sck := { s.sck with hit := 0, spacing := some 0 } }) ∧
    (s.sck.source = .holdover → ∀ n, s.sck.spacing = some n → 90000 ≤ n → n ≤ 110000 → s.sck.hit = 15 →
      exec (.syncFrame f b) s = .next (b.order.foldl (State.blockBeat b) { (s.record f.seq) with
        sck := { s.sck with source := .following, interval := 0, miss := 0, hit := 0, spacing := some 0 } }))

/-- The calendar and the alarms at the SCK. A beat advances the beat-in-second with every carry of R156, and changes
nothing of an UNSET calendar; where the second changes, the eight alarms are evaluated in index order, and nowhere else.
A record matches when each field it enables equals the calendar's. An evaluation of an unspent record leaves its matched
mark equal to the match, so that an alarm fires once per match: it never fires on two consecutive evaluations, and a
ONCE alarm is SPENT once it has fired. A firing raises ALARM with its number and does its record's action; an ENQUEUE in
SERVICE or under a stopped show is skipped, and one that a stop races is refused STOPPED. That the race comes with the
beat is the model's form (log entry 45); that each alarm's action is whole before the next alarm is evaluated, its
STATUS asked for before the action, and one order of SEQ and ARB for every house-mode change of an evaluation, are its
choices (log entries 48, 54, 62). -/
def Obligations.AlarmsFireOncePerMatch : Prop :=
  (∀ (r : AlrmRec) (c d : Calendar) (x : AlarmRun),
    (alarmMatches r c = true ↔ (r.enables.getLsbD 0 = true → r.second = c.second) ∧
      (r.enables.getLsbD 1 = true → r.minute = c.minute) ∧ (r.enables.getLsbD 2 = true → r.hour = c.hour) ∧
      (r.enables.getLsbD 3 = true → r.weekday = c.weekday) ∧ (r.enables.getLsbD 4 = true → r.day = c.day) ∧
      (r.enables.getLsbD 5 = true → r.month = c.month)) ∧
    ((evalAlarm (some r) c x).fired = true ↔ x.spent = false ∧ alarmMatches r c = true ∧ x.matched = false) ∧
    (x.spent = false → (evalAlarm (some r) c x).matched = alarmMatches r c) ∧
    ((evalAlarm (some r) c x).fired = true → (evalAlarm (some r) d (evalAlarm (some r) c x)).fired = false) ∧
    ((evalAlarm (some r) c x).fired = true → (evalAlarm (some r) c x).spent = r.once) ∧
    (x.spent = true → evalAlarm (some r) c x = { spent := true, matched := false, fired := false })) ∧
  (∀ (b : BeatIn) (s : State), s.sck.cal.valid →
    let c := s.sck.cal
    let d := (s.blockBeat b .sck).sck.cal
    let days := if c.month = 2 then (if c.year % 4 = 0 then 29 else 28)
      else if c.month ∈ [4, 6, 9, 11] then 30 else 31
    (c.running = false → d = c) ∧
    (c.running = true → c.beat < 99 → d = { c with beat := c.beat + 1 }) ∧
    ((c.running = false ∨ c.beat < 99) → s.blockBeat b .sck = { s with sck := { s.sck with cal := d, showNews := false } }) ∧
    (c.running = true → c.beat = 99 →
      (s.blockBeat b .sck = ((List.finRange 8).foldl (fun (s : State) n => s.evaluateAlarm b.flagsFirst b.showRaced n)
        { s with sck := { s.sck with cal := d } }).onSck fun x => { x with showNews := false }) ∧
      (c.second < 59 → d = { c with beat := 0, second := c.second + 1 }) ∧
      (c.second = 59 → c.minute < 59 → d = { c with beat := 0, second := 0, minute := c.minute + 1 }) ∧
      (c.second = 59 → c.minute = 59 → c.hour < 23 →
        d = { c with beat := 0, second := 0, minute := 0, hour := c.hour + 1 }) ∧
      (c.second = 59 → c.minute = 59 → c.hour = 23 → d = { c with
        beat := 0, second := 0, minute := 0, hour := 0, weekday := (c.weekday + 1) % 7
        day := if c.day < days then c.day + 1 else 1
        month := if c.day < days then c.month else if c.month < 12 then c.month + 1 else 1
        year := if c.day < days ∨ c.month < 12 then c.year else (c.year + 1) % 100 }))) ∧
  ∀ (flagsFirst raced : Bool) (n : AlarmId) (r : AlrmRec) (s : State), s.mu.tables.alrm[n] = some r →
    let x := evalAlarm (some r) s.sck.cal s.sck.alarms[n]
    let u : State := { s with sck := { s.sck with alarms := s.sck.alarms.set n x } }
    let v := u.raiseAlarm n
    let t := s.evaluateAlarm flagsFirst raced n
    (x.fired = false → t = u) ∧
    (x.fired = true → v.sli.alarm = true ∧ v.sli.alarmNumbers = s.sli.alarmNumbers ||| single n ∧
      (∀ i, r.action = .enqueue i →
        (s.sck.mode = .service → t = v) ∧
        (s.sck.mode ≠ .service → (raced = false ∨ s.sck.showNews = false) → s.sck.showStopped = true → t = v) ∧
        (s.sck.mode ≠ .service → (raced = false ∨ s.sck.showNews = false) → s.sck.showStopped = false →
          t = (v.request i (.schedule n) none none).2) ∧
        (s.sck.mode ≠ .service → raced = true → s.sck.showNews = true → s.sck.showStopped = true →
          s.arb.showStopped = true → t.arb.queue = s.arb.queue ∧ t.seq = s.seq ∧
          ∃ e, t.arb.log.getLast? = some e ∧ e.scene = i ∧ e.source = .schedule n ∧ e.kind = .refused .stopped)) ∧
      (∀ m, r.action = .setMode m → t = v.changeMode m flagsFirst) ∧
      (∀ f, r.action = .setFlag f → t = { v with seq := { s.seq with flags := s.seq.flags ||| single f } }) ∧
      (r.action = .clearFlags → t = { v with seq := { s.seq with flags := 0 } }))

/-! ### The data frames -/

/-- A LIGHT frame writes the zone's 192 base levels and its master, clears the zone's stale marks and makes its source
FRESH; it changes no layer, no other zone and no other block. -/
def Obligations.LightFrameWritesZone : Prop :=
  ∀ (f : Rx) (z : ZoneId) (s : State), s.isOwn f.addr → f.body.length = 388 → u8 f.body 0 = z.val →
    ∃ t, exec (.lightFrame f) s = .next t ∧
      (∀ i : Fin 192, t.lco.channels[globalChannel z i] = { s.lco.channels[globalChannel z i] with
        base := min (u16 f.body (4 + 2 * i.val)) 65534, stale := false
        lastFresh := min (u16 f.body (4 + 2 * i.val)) 65534 }) ∧
      (∀ c : ChannelId, channelZone c ≠ z → t.lco.channels[c] = s.lco.channels[c]) ∧
      t.lco.masters = s.lco.masters.set z (min (u16 f.body 2) 256) ∧
      t.lco.effects = s.lco.effects ∧ t.lco.cueLive = s.lco.cueLive ∧
      t.sli = { s.sli with
        lastTaken := f.seq, sources := s.sli.sources.set (sourceIndex (.light z)) { age := 0, fresh := true } } ∧
      { t with lco := s.lco, sli := s.sli } = s

/-- A SOUND frame: cues meet their tags and finish, and the LCO is told of each that becomes LIVE or leaves LIVE; duck
gains move one step toward their targets; carried streams are FRESH; every present output's 480 samples are mixed and
handed to its zone's audio queue; and ramps end. Channels, masters, effects, scenes, requests, inputs, axes, clock and
tables are as they were. That output 2z joins before output 2z + 1 is the model's choice (log entry 40). -/
def Obligations.SoundFrameMovesCuesAndDucks : Prop :=
  (∀ d target attack release : Nat,
    (target < d → duckStep d target attack release = max target (d - attack)) ∧
    (d < target → duckStep d target attack release = min target (d + release)) ∧
    (d = target → duckStep d target attack release = d)) ∧
  ∀ (f : Rx) (blocks : List StreamBlock) (s : State), s.isOwn f.addr → soundBody f.body = some blocks →
    ∃ t, exec (.soundFrame f) s = .next t ∧
      (∀ k : SlotId, t.nmx.cues[k] = (s.nmx.cues[k]).map (cueAfter blocks)) ∧
      (∀ k : StreamId, t.nmx.ramps[k] = none) ∧
      (∀ o : OutputId, (∃ k : SlotId, liveInFrame blocks o s.nmx.cues[k]) →
        t.nmx.duck[o] = duckStep s.nmx.duck[o] s.mu.tables.route.depth[o] s.mu.tables.route.attack[o]
          s.mu.tables.route.release[o]) ∧
      (∀ o : OutputId, (¬ ∃ k : SlotId, liveInFrame blocks o s.nmx.cues[k]) →
        t.nmx.duck[o] = duckStep s.nmx.duck[o] 4096 s.mu.tables.route.attack[o] s.mu.tables.route.release[o]) ∧
      (∀ z : ZoneId, t.ports[z] = Port.handed
        (frameBlock s.mu.tables.route s.nmx blocks t.nmx.duck[globalOutput z 1] (globalOutput z 1))
        (Port.handed (frameBlock s.mu.tables.route s.nmx blocks t.nmx.duck[globalOutput z 0] (globalOutput z 0))
          s.ports[z])) ∧
      (∀ k : StreamId, t.isFresh (.stream k) = (s.isFresh (.stream k) || (blockOf blocks k).isSome)) ∧
      t.nmx.nextCue = s.nmx.nextCue ∧ t.nmx.present = s.nmx.present ∧ t.lco = { s.lco with cueLive := t.lco.cueLive } ∧
      (∀ k : SlotId, s.nmx.cues[k] = none → t.lco.cueLive.getLsbD k = s.lco.cueLive.getLsbD k) ∧
      (∀ (k : SlotId) (c : Cue), s.nmx.cues[k] = some c → t.lco.cueLive.getLsbD k =
        if (cueAfter blocks c).state = c.state then s.lco.cueLive.getLsbD k
        else decide ((cueAfter blocks c).state = .live)) ∧
      t.sli.ownQueue = s.sli.ownQueue ∧
      { t with nmx := s.nmx, lco := s.lco, sli := s.sli, ports := s.ports } = s

/-- A MOTION frame writes the setpoint of each axis of its present set and makes its source FRESH; the records of the
other axes, and the light, sound, request and input blocks, are as they were. -/
def Obligations.MotionFrameWritesSetpoints : Prop :=
  ∀ (f : Rx) (s : State), s.isOwn f.addr → agrees (Rx.frame f 4) = true →
    ∃ t, exec (.motionFrame f) s = .next t ∧
      (∀ a : AxisId, (motionSet f.body).getLsbD a = true →
        (t.mgt.axes[a]).setpoint = motionSetpoint f.body a ∧ (t.mgt.axes[a]).pos = (s.mgt.axes[a]).pos ∧
        (t.mgt.axes[a]).keyframe = (s.mgt.axes[a]).keyframe ∧
        t.sli.sources[sourceIndex (.setpoint a)] = { age := 0, fresh := true }) ∧
      (∀ a : AxisId, (motionSet f.body).getLsbD a = false → t.mgt.axes[a] = s.mgt.axes[a] ∧
        t.sli.sources[sourceIndex (.setpoint a)] = s.sli.sources[sourceIndex (.setpoint a)]) ∧
      t.sli.lastTaken = f.seq ∧ t.sli.ownQueue = s.sli.ownQueue ∧ t.seq.flags = s.seq.flags ∧
      { t with mgt := s.mgt, sli := s.sli, seq := s.seq } = s

/-- A TRIGGER frame fires each listed virtual trigger once, at its first place in the list. That a firing is whole, with
the ARB's answer and the request for the alternate, before the next number fires is the model's choice (log entry 60).
-/
def Obligations.TriggerFrameFiresEachOnce : Prop :=
  ∀ (f : Rx) (l : List LineId) (s : State), s.isOwn f.addr → 1 ≤ l.length → l.length ≤ 16 →
    f.body = BitVec.ofNat 8 l.length :: l.map (fun n => BitVec.ofNat 8 n.val) →
    exec (.triggerFrame f) s = .next (l.eraseDups.foldl (fun s n => (s.fireVirtual n).2) (s.record f.seq))

/-! ### The link -/

/-- A frame arriving at THRU joins the tail of the forward buffer; at 4 frames it is dropped with THRU-OVERRUN and the
buffer is kept; the buffer is served from its head, each frame unchanged; a full reset empties it, a soft reset keeps it. -/
def Obligations.ForwardBuffer : Prop :=
  ∀ (f : Frame) (s : State),
    (s.sli.forward.length < 4 →
      exec (.thruFrame f) s = .next { s with sli := { s.sli with forward := s.sli.forward ++ [f] } }) ∧
    (4 ≤ s.sli.forward.length → exec (.thruFrame f) s =
      .next { s with sli := { s.sli with thruOverrun := true } }.askStatus) ∧
    (∀ (g : Frame) (rest : List Frame) (stop : Bool), s.sli.forward = g :: rest →
      (s.sli.ownQueue = [] ∨ s.sli.servedOwn = true) →
      exec (.inTransmitNext stop) s = .next { s with
        sli := { s.sli with forward := rest, servedOwn := false, inTx := some g } }) ∧
    (∀ (p : BitVec 4) (stop : Bool), (s.fullReset p stop).sli.forward = []) ∧
    ∀ stop : Bool, (s.softReset stop).sli.forward = s.sli.forward

/-- The own-report queue. A CUE or REPLY report joins its tail, and at 32 reports it is dropped and REPORT-OVERRUN is
raised; a STATUS that is asked for joins the tail, is already there, or is owed at a full queue. The IN transmitter
takes an own report when the forward buffer is empty or was served last: the report leaves under the next upstream
sequence number and the unit's address, with the kind and body of its layout, and an owed STATUS joins. A departing CUE
START makes its slot's REQUESTED cue of that number PENDING with its whole wait, and no other departure changes a cue.
With nothing waiting the transmitter stays free, which the model records as no frame (log entry 5). -/
def Obligations.InTransmitterServesOwnReports : Prop :=
  (∀ s : State,
    (.status ∈ s.sli.ownQueue → s.askStatus = s) ∧
    (.status ∉ s.sli.ownQueue → s.sli.ownQueue.length < 32 →
      s.askStatus = { s with sli := { s.sli with ownQueue := s.sli.ownQueue ++ [.status] } }) ∧
    (.status ∉ s.sli.ownQueue → 32 ≤ s.sli.ownQueue.length →
      s.askStatus = { s with sli := { s.sli with owed := true } }) ∧
    ∀ x : Sli, { s with sli := x.askStatus } = ({ s with sli := x } : State).askStatus) ∧
  (∀ (r : Report) (s : State),
    (s.sli.ownQueue.length < 32 →
      s.join r = { s with sli := { s.sli with ownQueue := s.sli.ownQueue ++ [r] } }) ∧
    (32 ≤ s.sli.ownQueue.length →
      s.join r = ({ s with sli := { s.sli with reportOverrun := true } } : State).askStatus)) ∧
  (∀ (code : Byte) (st : Status) (tag : Half) (fields : List Byte) (s : State),
    s.reply code st tag fields = s.join (.reply code st tag fields)) ∧
  ∀ (r : Report) (rest : List Report) (stop : Bool) (s : State),
    (s.sli.ownQueue = r :: rest → (s.sli.forward = [] ∨ s.sli.servedOwn = false) → s.isResetReply r = false →
      ∃ t f, exec (.inTransmitNext stop) s = .next t ∧ t.sli.inTx = some f ∧ f.seq = s.sli.upSeq ∧
        f.addr = s.sli.ownAddr.zeroExtend 8 ∧ t.sli.upSeq = s.sli.upSeq + 1 ∧ t.sli.servedOwn = true ∧
        t.sli.ownQueue = (if s.sli.owed then rest ++ [.status] else rest) ∧ t.sli.owed = false ∧
        t.sli.forward = s.sli.forward ∧ { t with sli := s.sli, nmx := s.nmx, free := s.free } = s ∧
        (r = .status → f.kind = 9) ∧
        (∀ i, r = .cueStart i → f.kind = 10 ∧ f.body = [0] ++ put16 i.number.toNat ++ put8 i.slot.val ++
          put8 i.scene.val ++ put8 i.zone.val ++ put8 i.stream.val ++ put16 i.clip ++ [0]) ∧
        (∀ i cause, r = .cueCancel i cause → f.kind = 10 ∧ f.body = [1] ++ put16 i.number.toNat ++ put8 i.slot.val ++
          put8 i.scene.val ++ put8 i.zone.val ++ put8 i.stream.val ++ put16 i.clip ++ put8 (causeByte cause)) ∧
        (∀ code st tag fields, r = .reply code st tag fields →
          f.kind = 11 ∧ f.body = [code] ++ put8 (statusByte st) ++ put16 tag.toNat ++ fields) ∧
        (∀ i c, r = .cueStart i → s.nmx.cues[i.slot] = some c → c.number = i.number → c.state = .requested →
          t.nmx = { s.nmx with
            cues := s.nmx.cues.set i.slot (some { c with state := .pending, remaining := c.wait }) }) ∧
        ((∀ i c, r = .cueStart i → s.nmx.cues[i.slot] = some c → ¬(c.number = i.number ∧ c.state = .requested)) →
          t.nmx = s.nmx)) ∧
    (s.sli.ownQueue = [] → s.sli.forward = [] →
      exec (.inTransmitNext stop) s = .next { s with sli := { s.sli with inTx := none } })

/-- A STATUS is composed as it leaves, byte for byte by its layout of eleven sections (log entries 24 and 50 name the
readings of the layout); with auto-clear on its departure clears every latched notice, otherwise none. -/
def Obligations.StatusDeparture : Prop :=
  ∀ (rest : List Report) (stop : Bool) (s : State), s.sli.ownQueue = .status :: rest →
    (s.sli.forward = [] ∨ s.sli.servedOwn = false) →
    ∃ t f, exec (.inTransmitNext stop) s = .next t ∧ t.sli.inTx = some f ∧ f.kind = 9 ∧
      f.body = { s with sli := { s.sli with ownQueue := rest } }.statusBody s.sli.upSeq rest.length ∧
      StatusImage { s with sli := { s.sli with ownQueue := rest } } s.sli.upSeq rest.length f.body ∧
      (s.mu.tables.unit.autoClear = true →
        t.sli.linkError = false ∧ t.sli.thruOverrun = false ∧ t.sli.reportOverrun = false ∧ t.sli.queueFull = false ∧
        t.sli.lineStuck = false ∧ t.sli.alarm = false ∧ t.sli.powerFault = 0 ∧ t.sli.stuckLines = 0 ∧
        t.sli.alarmNumbers = 0 ∧ t.sli.linkCauses = 0 ∧ t.sli.linkSides = 0) ∧
      (s.mu.tables.unit.autoClear = false →
        t.sli.linkError = s.sli.linkError ∧ t.sli.thruOverrun = s.sli.thruOverrun ∧
        t.sli.reportOverrun = s.sli.reportOverrun ∧ t.sli.queueFull = s.sli.queueFull ∧
        t.sli.lineStuck = s.sli.lineStuck ∧ t.sli.alarm = s.sli.alarm ∧ t.sli.powerFault = s.sli.powerFault ∧
        t.sli.stuckLines = s.sli.stuckLines ∧ t.sli.alarmNumbers = s.sli.alarmNumbers ∧
        t.sli.linkCauses = s.sli.linkCauses ∧ t.sli.linkSides = s.sli.linkSides) ∧
      t.sli.badFrames = s.sli.badFrames ∧ t.sli.sources = s.sli.sources ∧ { t with sli := s.sli, free := s.free } = s

/-- Downstream frames: one for another unit is passed on, in the order reception ended, and leaves THRU unchanged; a bad
frame is dropped with its cause and side; a taken frame of wrong form is discarded with FORMAT, and is the last taken
frame all the same, which is the model's choice (log entry 9). A broadcast SYNC, LIGHT, SOUND, MOTION or TRIGGER frame does
what the same frame addressed to the unit does and is passed on as well, and so is a broadcast frame of wrong form, once
discarded. -/
def Obligations.FramesPassedOnOrDropped : Prop :=
  (∀ (f : Frame) (s : State),
    (s.takes f.addr = false → exec (.downstreamFramePassedOn f) s =
      .next { s with sli := { s.sli with thruQueue := s.sli.thruQueue ++ [f] } }) ∧
    (∀ rest, s.sli.thruQueue = f :: rest → exec .thruTransmitNext s =
      .next { s with sli := { s.sli with thruQueue := rest, thruTx := some f } }) ∧
    (∀ (side : Side) (bytes : List Byte) (c : BadCause), judgeBytes bytes = .error c →
      exec (.badFrame side bytes) s = .next { s with sli := { s.sli with
        linkError := true, linkCauses := withMember s.sli.linkCauses c.link.member
        linkSides := withMember s.sli.linkSides (sideMember side), badFrames := s.sli.badFrames + 1 } }.askStatus) ∧
    (s.isOwn f.addr → agrees f = false → exec (.formatFault f) s = .next { s with sli := { s.sli with
        lastTaken := f.seq, linkError := true, linkCauses := withMember s.sli.linkCauses 2
        linkSides := withMember s.sli.linkSides 0, badFrames := s.sli.badFrames + 1 } }.askStatus) ∧
    (f.addr = 15 → agrees f = false → exec (.formatFault f) s = .next ({ s with sli := { s.sli with
        lastTaken := f.seq, linkError := true, linkCauses := withMember s.sli.linkCauses 2
        linkSides := withMember s.sli.linkSides 0, badFrames := s.sli.badFrames + 1 } }.askStatus.passOn f))) ∧
  ∀ (f : Rx) (b : BeatIn) (s : State), f.addr = 15 → s.sli.ownAddr ≠ 15 →
    let own : Rx := { f with addr := s.sli.ownAddr.zeroExtend 8 }
    (∃ t, exec (.syncFrame own b) s = .next t ∧ exec (.syncFrame f b) s = .next (t.passOn (Rx.frame f 1))) ∧
    (∃ t, exec (.lightFrame own) s = .next t ∧ exec (.lightFrame f) s = .next (t.passOn (Rx.frame f 2))) ∧
    (∃ t, exec (.soundFrame own) s = .next t ∧ exec (.soundFrame f) s = .next (t.passOn (Rx.frame f 3))) ∧
    (∃ t, exec (.motionFrame own) s = .next t ∧ exec (.motionFrame f) s = .next (t.passOn (Rx.frame f 4))) ∧
    ∃ t, exec (.triggerFrame own) s = .next t ∧ exec (.triggerFrame f) s = .next (t.passOn (Rx.frame f 5))

/-- The SLI's beat, the status interval and a source's failure. On a beat every source's age grows by 1, up to 255, and
the status interval count by 1; every source that fails on it is handed to its block, and what neither names stays. At
the UNIT status interval a STATUS is asked for and the count restarts. A source whose age reaches the UNIT stale limit
becomes STALE: of light, the zone's base levels take the stale mark; of a stream, a LIVE cue on it is LOST, marks its
slot and queues CUE CANCEL LOST; of a setpoint, the value is kept and an unowned axis holds, or stays guarded. That a
row of a beat, given alone, is its item's own share of the beat is the model's choice (log entry 2). So is that a UNIT
load which the MU completes on a beat before the SLI takes it acts on that beat (log entry 53). -/
def Obligations.StatusIntervalAndStaleSource : Prop :=
  (∀ (b : BeatIn) (s : State),
    let t := s.blockBeat b .sli
    let next (i : Fin 44) : Src :=
      let age := min ((s.sli.sources[i]).age + 1) 255
      { age, fresh := (s.sli.sources[i]).fresh && decide (age < s.mu.tables.unit.staleLimit) }
    let ends (src : SourceId) : Bool := (s.sli.sources[sourceIndex src]).fresh && !(next (sourceIndex src)).fresh
    let due : Prop := s.mu.tables.unit.statusInterval ≤ s.sli.statusCount + 1
    (∀ i : Fin 44, t.sli.sources[i] = next i) ∧
    (due → t.sli.statusCount = 0 ∧ (.status ∈ t.sli.ownQueue ∨ t.sli.owed = true)) ∧
    (¬due → t.sli.statusCount = s.sli.statusCount + 1) ∧
    ((∀ src, ends src = false) →
      let u : State := { s with sli := { s.sli with sources := t.sli.sources, statusCount := t.sli.statusCount } }
      (due → t = u.askStatus) ∧ (¬due → t = u)) ∧
    (∀ c : ChannelId, t.lco.channels[c] = { s.lco.channels[c] with
      stale := (s.lco.channels[c]).stale || ends (.light (channelZone c)) }) ∧
    (∀ k : SlotId, t.nmx.cues[k] = (s.nmx.cues[k]).map fun c =>
      if c.state = .live ∧ ends (.stream c.stream) then { c with state := .lost } else c) ∧
    (∀ a : AxisId, (ends (.setpoint a) = true → (t.mgt.axes[a]).mode = t.modeOf a ∧
        (t.mgt.axes[a]).setpoint = (s.mgt.axes[a]).setpoint ∧ (t.mgt.axes[a]).pos = (s.mgt.axes[a]).pos) ∧
      (ends (.setpoint a) = false → t.mgt.axes[a] = s.mgt.axes[a])) ∧
    (∀ (k : SlotId) (p : PlayRec), s.play k = some p → ∃ q, t.play k = some q ∧ q = { p with marks := q.marks } ∧
      ∀ c, s.nmx.cues[k] = some c → c.state = .live → ends (.stream c.stream) = true → q.marks.getLsbD 2 = true) ∧
    t.seq.flags = s.seq.flags ∧ t.nmx.ramps = s.nmx.ramps ∧ t.mu = s.mu ∧ t.arb = s.arb ∧ t.iou = s.iou ∧
    t.sck = s.sck ∧ t.ports = s.ports) ∧
  ∀ s : State,
    (s.mu.tables.unit.statusInterval ≤ s.sli.statusCount + 1 →
      exec .statusInterval s = .next { s with sli := { s.sli with statusCount := 0 } }.askStatus) ∧
    (∀ z : ZoneId, (s.sli.sources[sourceIndex (.light z)]).fresh = true →
      s.mu.tables.unit.staleLimit ≤ min ((s.sli.sources[sourceIndex (.light z)]).age + 1) 255 →
      ∃ t, exec (.sourceStale (.light z)) s = .next t ∧ t.isFresh (.light z) = false ∧
        (∀ c : ChannelId, t.lco.channels[c] =
          if channelZone c = z then { s.lco.channels[c] with stale := true } else s.lco.channels[c]) ∧
        t.lco.masters = s.lco.masters ∧ { t with lco := s.lco, sli := s.sli } = s) ∧
    (∀ k : StreamId, (s.sli.sources[sourceIndex (.stream k)]).fresh = true →
      s.mu.tables.unit.staleLimit ≤ min ((s.sli.sources[sourceIndex (.stream k)]).age + 1) 255 →
      let lost (j : SlotId) : Prop := ∃ c, s.nmx.cues[j] = some c ∧ c.state = .live ∧ c.stream = k
      ∃ t, exec (.sourceStale (.stream k)) s = .next t ∧ t.isFresh (.stream k) = false ∧
        (∀ (j : SlotId) (c : Cue), s.nmx.cues[j] = some c → c.state = .live → c.stream = k →
          t.nmx.cues[j] = some { c with state := .lost } ∧ t.lco.cueLive.getLsbD j = false ∧
          (∀ p, s.play j = some p → t.play j = some { p with marks := p.marks ||| 4 }) ∧
          ((∀ i : SlotId, i ≠ j → ¬lost i) →
            (s.sli.ownQueue.length < 32 → t.sli.ownQueue = s.sli.ownQueue ++ [.cueCancel (cueInfo j c) .lost]) ∧
            (32 ≤ s.sli.ownQueue.length → t.sli.ownQueue = s.sli.ownQueue ∧ t.sli.reportOverrun = true))) ∧
        (∀ j : SlotId, ¬lost j → t.nmx.cues[j] = s.nmx.cues[j] ∧ t.play j = s.play j ∧
          t.lco.cueLive.getLsbD j = s.lco.cueLive.getLsbD j) ∧
        ((∀ j : SlotId, ¬lost j) → t.sli.ownQueue = s.sli.ownQueue) ∧
        t.lco.channels = s.lco.channels ∧ t.nmx.ramps = s.nmx.ramps ∧ t.seq.flags = s.seq.flags ∧
        { t with nmx := s.nmx, lco := s.lco, sli := s.sli, seq := s.seq } = s) ∧
    ∀ a : AxisId, (s.sli.sources[sourceIndex (.setpoint a)]).fresh = true →
      s.mu.tables.unit.staleLimit ≤ min ((s.sli.sources[sourceIndex (.setpoint a)]).age + 1) 255 →
      ∃ t, exec (.sourceStale (.setpoint a)) s = .next t ∧ t.isFresh (.setpoint a) = false ∧
        (t.mgt.axes[a]).setpoint = (s.mgt.axes[a]).setpoint ∧ (t.mgt.axes[a]).pos = (s.mgt.axes[a]).pos ∧
        ((s.modeOf a).isSending = true → s.axisOwner a = none → (t.mgt.axes[a]).step = (s.mgt.axes[a]).step ∧
          (t.mgt.axes[a]).mode = if (s.mgt.axes[a]).guarded then .guarded else .holding) ∧
        ((s.axisOwner a).isSome = true → (t.mgt.axes[a]).mode = s.modeOf a) ∧
        (∀ b : AxisId, b ≠ a → t.mgt.axes[b] = s.mgt.axes[b]) ∧ t.sli.ownQueue = s.sli.ownQueue ∧
        t.seq.flags = s.seq.flags ∧ { t with mgt := s.mgt, sli := s.sli, seq := s.seq } = s

/-! ### Zone ports -/

/-- The port's transmitter sends the oldest audio block first, then the waiting control frame, which opens its reply
window, makes its call and moves a sweep on; with neither it stays free, which the model records as nothing sending (log
entry 5). A sweep begun again while a sweep frame waits is the model's choice (log entry 17), and so is that a sweep's
call leaves the pending calls too (log entry 33) and which call a frame carries that replaces a waiting one (log entry
63). On a beat with no window to close and the power sense OK, a port whose two parts are fresh forms its frame, in
place of one that still waits; otherwise the frame is formed on the arrival of the part that is missing; the motion part
carries the position of each axis that is GUARDED, HOLDING or TRACKING, and the HOLD code for one that is DISABLED or
OFFLINE. That a beat of the port with no position to hand leaves its zone's axes with none is the model's choice as well
(log entry 6). -/
def Obligations.ZoneBusTransmits : Prop :=
  (∀ (z : ZoneId) (s : State),
    (∀ b rest, s.ports[z].audio = b :: rest → exec (.zbusTransmitNext z) s =
      .next (s.onPort z fun p => { p with audio := rest, sending := some (.audio b) })) ∧
    (∀ f, s.ports[z].audio = [] → s.ports[z].waiting = some f →
      ∃ t, exec (.zbusTransmitNext z) s = .next t ∧ t.ports[z].sending = some (.control f) ∧
        t.ports[z].waiting = none ∧ t.ports[z].lastSent = some f.number ∧
        (∃ w, t.ports[z].window = some w ∧ w.number = f.number ∧ w.call = f.call ∧ w.received = 0) ∧
        (∀ q : PosId, t.ports[z].calls.getLsbD q = (s.ports[z].calls.getLsbD q && f.call != some q)) ∧
        (∀ q : PosId, f.sweepCall = true → f.call = some q → s.ports[z].sweep = some q →
          t.ports[z].sweep = (if h : q.val < 11 then some ⟨q.val + 1, by omega⟩ else none)) ∧
        t.ports[z].census = s.ports[z].census ∧ (∀ y : ZoneId, y ≠ z → t.ports[y] = s.ports[y]) ∧
        { t with ports := s.ports } = s) ∧
    (s.ports[z].audio = [] → s.ports[z].waiting = none →
      exec (.zbusTransmitNext z) s = .next (s.onPort z fun p => { p with sending := none }))) ∧
  (∀ (b : BeatIn) (z : ZoneId) (s : State), s.ports[z].window = none → s.ports[z].powerOff = none →
    b.sense.getLsbD z = false →
    (∀ l m, s.ports[z].light = some l → s.ports[z].motion = some m → s.ports[z].lightFresh = true →
      s.ports[z].motionFresh = true →
      ∃ f, s.blockBeat b (.port z) = (s.onPort z fun p => { p with
          waiting := some f, frameNo := p.frameNo + 1, lightFresh := false, motionFresh := false, awaiting := false
          senseFault := false
          superseded := if p.waiting.isSome then p.superseded + 1 else p.superseded }).onMgt (Mgt.dropReplies z) ∧
        f.number = s.ports[z].frameNo ∧ f.light = l ∧ f.motion = m ∧ f.sweepCall = s.ports[z].sweep.isSome ∧
        (∀ q, s.ports[z].sweep = some q → f.call = some q) ∧
        (∀ q : PosId, s.ports[z].sweep = none → s.ports[z].calls.getLsbD q = true →
          (∀ p : PosId, p < q → s.ports[z].calls.getLsbD p = false) → f.call = some q) ∧
        (s.ports[z].sweep = none → s.ports[z].calls = 0 → f.call = none) ∧
        (∀ q : PosId, f.admitted.getLsbD q = true ↔ ∃ r, s.ports[z].census[q] = some r ∧ r.state = .admitted)) ∧
    (s.ports[z].lightFresh = false ∨ s.ports[z].motionFresh = false →
      s.blockBeat b (.port z) =
        (s.onPort z fun p => { p with awaiting := true, senseFault := false }).onMgt (Mgt.dropReplies z))) ∧
  ∀ (b : BeatIn) (z : ZoneId) (s : State),
    (∀ m, s.ports[z].motion = some m → s.ports[z].motionFresh = true → s.ports[z].awaiting = true →
      ∃ f, (s.blockBeat b .lco).ports[z].waiting = some f ∧ f.number = s.ports[z].frameNo ∧ f.motion = m ∧
        (∀ i : Fin 192, f.light[i] = s.composed (globalChannel z i)) ∧
        (s.blockBeat b .lco).ports[z].lightFresh = false ∧ (s.blockBeat b .lco).ports[z].awaiting = false) ∧
    (∀ l, s.ports[z].light = some l → s.ports[z].lightFresh = true → s.ports[z].awaiting = true →
      ∃ f, (s.blockBeat b .mgt).ports[z].waiting = some f ∧ f.number = s.ports[z].frameNo ∧ f.light = l ∧
        (∀ i : Fin 8, f.motion[i] =
          if ((s.blockBeat b .mgt).mgt.axes[globalAxis z i]).mode ∈ [.guarded, .holding, .tracking] then
            ((s.blockBeat b .mgt).mgt.axes[globalAxis z i]).pos
          else -32768) ∧
        (s.blockBeat b .mgt).ports[z].motionFresh = false ∧ (s.blockBeat b .mgt).ports[z].awaiting = false) ∧
    (s.ports[z].awaiting = false →
      (∃ l : Vector Nat 192, (s.blockBeat b .lco).ports[z] = { s.ports[z] with light := some l, lightFresh := true } ∧
        ∀ i : Fin 192, l[i] = s.composed (globalChannel z i)) ∧
      ∃ m : Vector Int 8, (s.blockBeat b .mgt).ports[z] = { s.ports[z] with motion := some m, motionFresh := true } ∧
        ∀ i : Fin 8, m[i] =
          if ((s.blockBeat b .mgt).mgt.axes[globalAxis z i]).mode ∈ [.guarded, .holding, .tracking] then
            ((s.blockBeat b .mgt).mgt.axes[globalAxis z i]).pos
          else -32768)

/-- A reply, as its bytes stand on the bus, is held for the window of the frame it answers, and discarded otherwise. On
the next beat, with the power sense OK, the window closes and judges every position: an answer clears a record's miss
count, a third miss makes it LOST, and a position without a live record that answered joins the pending calls; what is
no longer present is absent in the LCO, the NMX and the MGT, where such an axis is OFFLINE and at rest and marks its
owner slot; a loss sets the change flag of an ARMED zone, and a STATUS is asked for when the flag or a level notice
becomes set; and the positions of an ADMITTED MOTION record's reply reach its axes. With no window nothing is judged.
Each beat of the port replaces the positions of the one before; until then a position stands, and a DISABLED axis that
is present takes it on each beat of the MGT. Five things are the model's choice: that a reply with another number of
positions than the record hands those it has, by index (log entry 44), that a reply without an announcement answers a
call too (log entry 58), that a second reply to one frame replaces the first (log entry 59), where a position waits for
the MGT, where a beat with none to hand leaves none (log entry 6), and that an axis lost in motion-power fault is
OFFLINE with cause POWER (log entry 31). -/
def Obligations.FixtureReplyIsHeld : Prop :=
  (∀ (z : ZoneId) (q : PosId) (number : Half) (ps : List Int) (s : State), ps.length ≤ 4 →
    (∀ p ∈ ps, -32768 ≤ p ∧ p ≤ 32767) →
    let bytes := withCheck (put8 2 ++ put8 (q.val + 1) ++ put16 number.toNat ++ put8 ps.length ++ ps.flatMap putI16)
    (∀ w, s.ports[z].window = some w → w.number = number → exec (.fixtureReply z bytes) s =
      .next (s.onPort z fun p => { p with
        window := some { w with received := w.received ||| single q, replies := w.replies.set q ps } })) ∧
    ((∀ w, s.ports[z].window = some w → w.number ≠ number) → exec (.fixtureReply z bytes) s = .next s)) ∧
  (∀ (b : BeatIn) (a : AxisId) (p : Int) (s : State), (s.mgt.axes[a]).mode.isDisabled = true →
    (s.mgt.axes[a]).present = true → (s.mgt.axes[a]).reply = some p → p ≠ -32768 →
    let y := (s.blockBeat b .mgt).mgt.axes[a]
    y.pos = p + y.step ∧ (y.mode.isSending = false → y.step = 0) ∧ y.reply = some p) ∧
  ∀ (b : BeatIn) (z : ZoneId) (s : State), s.ports[z].powerOff = none → b.sense.getLsbD z = false →
    let t := s.blockBeat b (.port z)
    FlagTold s t z (newlyLost s t z) ∧ StatusTold s t z ∧
    (s.ports[z].window = none → t.ports[z].census = s.ports[z].census ∧ t.ports[z].calls = s.ports[z].calls ∧
      (∀ i : Fin 8, t.mgt.axes[globalAxis z i] = { s.mgt.axes[globalAxis z i] with reply := none })) ∧
    (∀ a : AxisId, axisZone a ≠ z → t.mgt.axes[a] = s.mgt.axes[a]) ∧
    (∀ w, s.ports[z].window = some w →
      t.ports[z].window = none ∧
      (∀ q : PosId, (s.ports[z].census[q] = none → t.ports[z].census[q] = none) ∧
        ∀ r, s.ports[z].census[q] = some r →
          (isLost (some r) = true → t.ports[z].census[q] = some r) ∧
          (isLost (some r) = false → w.received.getLsbD q = true →
            t.ports[z].census[q] = some { r with miss := 0 }) ∧
          (isLost (some r) = false → w.received.getLsbD q = false → r.miss < 2 →
            t.ports[z].census[q] = some { r with miss := r.miss + 1 }) ∧
          (isLost (some r) = false → w.received.getLsbD q = false → 2 ≤ r.miss →
            t.ports[z].census[q] = some { r with miss := 3, state := .lostMissed })) ∧
      (∀ q : PosId, t.ports[z].calls.getLsbD q = (s.ports[z].calls.getLsbD q ||
        (w.received.getLsbD q && (s.ports[z].census[q].isNone || isLost s.ports[z].census[q])))) ∧
      (∀ i : Fin 192, s.ports[z].isPresent .light i = true → t.ports[z].isPresent .light i = false →
        (t.lco.channels[globalChannel z i]).present = false) ∧
      (∀ i : Fin 2, s.ports[z].isPresent .sound i = true → t.ports[z].isPresent .sound i = false →
        t.nmx.present.getLsbD (globalOutput z i) = false) ∧
      (∀ i : Fin 8, s.ports[z].isPresent .motion i = true → t.ports[z].isPresent .motion i = false →
        AxisLost s t (globalAxis z i)) ∧
      ∀ (q : PosId) (r : CensusRec) (i : Fin 8) (p : Int), CensusLaw s → t.ports[z].census[q] = some r →
        r.state = .admitted → r.ann.cls = 1 → r.ann.spans i = true →
        (w.replies[q])[i.val - r.ann.start]? = some p → (t.mgt.axes[globalAxis z i]).reply = some p) ∧
    (∀ (w : Window) (i : Fin 8), s.ports[z].window = some w →
      (∀ (q : PosId) (r : CensusRec), t.ports[z].census[q] = some r → r.state = .admitted → r.ann.cls = 1 →
        r.ann.spans i = true → (w.replies[q])[i.val - r.ann.start]? = none) →
      (t.mgt.axes[globalAxis z i]).reply = none) ∧
    (∀ y : ZoneId, y ≠ z → t.ports[y] = s.ports[y]) ∧ t.mu = s.mu ∧ t.arb = s.arb ∧ t.iou = s.iou ∧ t.sck = s.sck ∧
    t.seq.flags = s.seq.flags

/-- An announcement, as its bytes stand on the bus, is filed at its position: one that R137 keeps leaves state and
serial and clears the miss count; any other takes the position with miss count 0 and the first judgement of R138 that
applies: malformed, unlisted, beyond the capacity, overlapping (the lowest such position), or admitted. R137 keeps an
ADMITTED record under a well-formed announcement of the same serial, class, start and count. The net change of presence
reaches the LCO, the NMX and the MGT: what an ADMITTED record newly covers becomes present, an axis at its announced
position and at rest, and an axis that is no longer covered becomes absent where it is, OFFLINE and at rest, and marks
its owner slot. An announcement that is not kept sets the change flag of an ARMED zone and of no other, and a STATUS is
asked for when the flag or a level notice becomes set. A kept record is no census change and changes no presence; its
announced positions reach the axes it covers that are DISABLED or OFFLINE. It answers the frame of the open reply window
only from the position which that frame called (the model's reading, log entry 19), and changes nothing else of the
port. Also the model's are that a replaced axis which moves keeps its position (log entry 18), and that an axis which
loses its cover while its zone is in motion-power fault is OFFLINE with cause POWER (log entry 31). -/
def Obligations.AnnouncementIsFiled : Prop :=
  ∀ (z : ZoneId) (q : PosId) (a : Announce) (s : State), a.serial < 2 ^ 32 → a.maker < 65536 → a.model < 65536 →
    a.revision < 65536 → a.cls < 256 → a.start < 256 → a.count < 256 → a.positions.length < 256 →
    (∀ p ∈ a.positions, -32768 ≤ p ∧ p ≤ 32767) →
    let census := s.ports[z].census
    let admt := s.mu.tables.admt
    ∃ t, exec (.announcement z (withCheck (put8 3 ++ put8 (q.val + 1) ++ put32 a.serial ++ put16 a.maker ++
        put16 a.model ++ put16 a.revision ++ put8 a.cls ++ put8 a.start ++ put8 a.count ++ put8 a.positions.length ++
        a.positions.flatMap putI16))) s = .next t ∧
      (keeps census[q] a = true ↔ ∃ r, census[q] = some r ∧ r.state = .admitted ∧ r.ann.serial = a.serial ∧
        r.ann.cls = a.cls ∧ r.ann.start = a.start ∧ r.ann.count = a.count ∧ announceFormed a) ∧
      t.ports[z].window = s.ports[z].window.map (fun w =>
        if w.call = some q then { w with received := w.received ||| single q } else w) ∧
      t.ports[z] = { s.ports[z] with
        window := t.ports[z].window, census := t.ports[z].census, changeFlag := t.ports[z].changeFlag } ∧
      FlagTold s t z (keeps census[q] a = false) ∧ StatusTold s t z ∧
      (keeps census[q] a = false → ∃ st, t.ports[z].census[q] = some { ann := a, state := st, miss := 0 } ∧
        (¬announceFormed a → st = .refusedMalformed) ∧
        (announceFormed a → ¬announceListed admt a → st = .refusedUnlisted) ∧
        (announceFormed a → announceListed admt a → ¬announceFits a → st = .conflictCapacity) ∧
        (∀ p : PosId, announceFormed a → announceListed admt a → announceFits a → announceMeets census q a p →
          (∀ i : PosId, i < p → ¬announceMeets census q a i) → st = .conflictOverlap p) ∧
        (announceFormed a → announceListed admt a → announceFits a → (∀ p : PosId, ¬announceMeets census q a p) →
          st = .admitted) ∧
        (st ≠ .admitted → ∀ b : AxisId, (t.mgt.axes[b]).pos = (s.mgt.axes[b]).pos) ∧
        (st = .admitted → a.cls = 1 → ∀ (i : Fin 8) (p : Int), s.ports[z].isPresent .motion i = false →
          a.spans i = true → a.positions[i.val - a.start]? = some p →
          (t.mgt.axes[globalAxis z i]).present = true ∧ (t.mgt.axes[globalAxis z i]).pos = p ∧
          (t.mgt.axes[globalAxis z i]).step = 0) ∧
        (st = .admitted → a.cls = 0 → ∀ i : Fin 192, a.spans i = true → s.ports[z].isPresent .light i = false →
          (t.lco.channels[globalChannel z i]).present = true) ∧
        (st = .admitted → a.cls = 2 → ∀ i : Fin 2, a.spans i = true → s.ports[z].isPresent .sound i = false →
          t.nmx.present.getLsbD (globalOutput z i) = true) ∧
        ∀ i : Fin 8, s.ports[z].isPresent .motion i = true → t.ports[z].isPresent .motion i = false →
          AxisLost s t (globalAxis z i)) ∧
      (∀ r, census[q] = some r → keeps (some r) a = true →
        t.ports[z].census[q] = some { r with
          miss := 0
          ann := { r.ann with
            maker := a.maker, model := a.model, revision := a.revision
            positions := if a.cls = 1 then a.positions else r.ann.positions } } ∧
        t.ports[z].changeFlag = s.ports[z].changeFlag ∧ t.sli = s.sli ∧ t.lco = s.lco ∧ t.nmx = s.nmx ∧
        (∀ (i : Fin 8) (p : Int), a.cls = 1 → a.spans i = true → a.positions[i.val - a.start]? = some p →
          (t.mgt.axes[globalAxis z i]).pos = if (s.mgt.axes[globalAxis z i]).mode.isSending then
            (s.mgt.axes[globalAxis z i]).pos else p) ∧
        (∀ i : Fin 8, ¬(a.cls = 1 ∧ a.spans i = true) → t.mgt.axes[globalAxis z i] = s.mgt.axes[globalAxis z i]) ∧
        ∀ b : AxisId, (t.mgt.axes[b]).present = (s.mgt.axes[b]).present) ∧
      (∀ i : Fin 192, (t.lco.channels[globalChannel z i]).present =
        if s.ports[z].isPresent .light i = t.ports[z].isPresent .light i then (s.lco.channels[globalChannel z i]).present
        else t.ports[z].isPresent .light i) ∧
      (∀ i : Fin 2, t.nmx.present.getLsbD (globalOutput z i) =
        if s.ports[z].isPresent .sound i = t.ports[z].isPresent .sound i then s.nmx.present.getLsbD (globalOutput z i)
        else t.ports[z].isPresent .sound i) ∧
      (∀ c : ChannelId, t.lco.channels[c] = { s.lco.channels[c] with present := (t.lco.channels[c]).present } ∧
        (channelZone c ≠ z → t.lco.channels[c] = s.lco.channels[c])) ∧
      (∀ a : AxisId, axisZone a ≠ z → t.mgt.axes[a] = s.mgt.axes[a]) ∧
      (∀ p : PosId, p ≠ q → t.ports[z].census[p] = census[p]) ∧
      (∀ y : ZoneId, y ≠ z → t.ports[y] = s.ports[y]) ∧
      t.mu = s.mu ∧ t.arb = s.arb ∧ t.iou = s.iou ∧ t.sck = s.sck ∧ t.seq.flags = s.seq.flags

/-- A motion-power fault while the power is ON makes the zone's live MOTION records LOST with cause POWER and the axes
they covered absent; it takes every axis of the zone that is not DISABLED OFFLINE with cause POWER, at rest where it is,
and marks the owner slots AXIS-OFFLINE; it switches the power OFF with hold-off 100, raises POWER-FAULT with its STATUS,
and sets the change flag where a record was lost in an ARMED zone. A fault while the power is OFF loses no record. On
the port's beat a FAULT sample while the power is OFF puts the hold-off at 100, and is a new fault only where the sample
before was OK; an OK sample lowers the hold-off by 1. The hold-off's end switches the power ON and ends the fault at the
MGT, where an absent axis stays OFFLINE with cause CENSUS. That a row of a beat, given alone, is its item's own share of
the beat is the model's choice (log entry 2). So are that a beat with no window to close leaves the zone's axes no reply
position (log entry 6) and that POWER stands before CENSUS as the cause of an absent axis (log entry 31). -/
def Obligations.MotionPower : Prop :=
  (∀ (b : BeatIn) (z : ZoneId) (s : State),
    let t := s.blockBeat b (.port z)
    let P := s.ports[z]
    (b.sense.getLsbD z = false → t.ports[z].senseFault = false ∧
      (P.powerOff = none → t.ports[z].powerOff = none) ∧
      ∀ n, P.powerOff = some n →
        (n ≤ 1 → t.ports[z].powerOff = none ∧ t.mgt.powerFault = s.mgt.powerFault &&& ~~~(single z)) ∧
        (1 < n → t.ports[z].powerOff = some (n - 1) ∧ t.mgt.powerFault = s.mgt.powerFault)) ∧
    (b.sense.getLsbD z = true → t.ports[z].senseFault = true ∧
      (P.senseFault = false → t.ports[z].powerOff = some 100 ∧ t.mgt.powerFault = s.mgt.powerFault ||| single z ∧
        t.sli.powerFault = s.sli.powerFault ||| single z ∧
        (P.window = none → ∀ u, exec (.motionPowerFault z) (s.onMgt (Mgt.dropReplies z)) = .next u →
          t = u.onPort z Port.formStep)) ∧
      (P.senseFault = true → t.ports[z].powerOff = P.powerOff.map (fun _ => 100) ∧
        t.mgt.powerFault = s.mgt.powerFault ∧ t.sli.powerFault = s.sli.powerFault)) ∧
    (P.window = none → P.powerOff ≠ none → t.ports[z].census = P.census ∧ t.ports[z].changeFlag = P.changeFlag) ∧
    t.mu = s.mu ∧ t.arb = s.arb ∧ t.iou = s.iou ∧ t.sck = s.sck ∧ t.seq.flags = s.seq.flags ∧
    ∀ y : ZoneId, y ≠ z → t.ports[y] = s.ports[y]) ∧
  ∀ (z : ZoneId) (s : State),
    (s.ports[z].senseFault = false →
      ∃ t, exec (.motionPowerFault z) s = .next t ∧ t.ports[z].powerOff = some 100 ∧ t.ports[z].senseFault = true ∧
        (∀ (q : PosId) (r : CensusRec), s.ports[z].powerOff = none → s.ports[z].census[q] = some r →
          isLost (some r) = false → r.ann.cls = 1 → t.ports[z].census[q] = some { r with state := .lostPower }) ∧
        (∀ (q : PosId) (r : CensusRec), s.ports[z].census[q] = some r → r.ann.cls ≠ 1 ∨ isLost (some r) = true →
          t.ports[z].census[q] = some r) ∧
        (s.ports[z].powerOff ≠ none → t.ports[z].census = s.ports[z].census) ∧
        t.ports[z] = { s.ports[z] with
          census := t.ports[z].census, changeFlag := t.ports[z].changeFlag, powerOff := some 100, senseFault := true } ∧
        FlagTold s t z (newlyLost s t z) ∧
        t.sli = Sli.askStatus { s.sli with powerFault := s.sli.powerFault ||| single z } ∧
        t.mgt.powerFault = s.mgt.powerFault ||| single z ∧
        (∀ i : Fin 8,
          let a := globalAxis z i
          let x := s.mgt.axes[a]
          let y := t.mgt.axes[a]
          let e := s.mu.tables.env[a]
          y.present = (x.present && !(s.ports[z].powerOff.isNone && s.ports[z].isPresent .motion i)) ∧
          (e.enable = false → y.mode = .disabledNoEnvelope) ∧
          (e.enable = true → y.present = true → ¬(e.min ≤ x.pos ∧ x.pos ≤ e.max) → y.mode = .disabledOutOfRange) ∧
          (e.enable = true → (y.present = true → e.min ≤ x.pos ∧ x.pos ≤ e.max) → y.mode = .offlinePower ∧
            ∀ (k : SlotId) (p : PlayRec), s.axisOwner a = some k → s.play k = some p →
              ∃ q, t.play k = some q ∧ q.marks.getLsbD 3 = true) ∧
          y.step = 0 ∧ y.resetHold = false) ∧
        (∀ a : AxisId, t.mgt.axes[a] = { s.mgt.axes[a] with
          present := (t.mgt.axes[a]).present, mode := t.modeOf a
          step := if (t.modeOf a).isSending then (s.mgt.axes[a]).step else 0
          resetHold := (t.modeOf a).isSending && (s.mgt.axes[a]).resetHold }) ∧
        (∀ a : AxisId, axisZone a ≠ z → (t.mgt.axes[a]).present = (s.mgt.axes[a]).present) ∧
        (∀ (k : SlotId) (p : PlayRec), s.play k = some p → ∃ q, t.play k = some q ∧ q = { p with marks := q.marks }) ∧
        t.lco = s.lco ∧ t.nmx = s.nmx ∧ t.mu = s.mu ∧ t.arb = s.arb ∧ t.iou = s.iou ∧ t.sck = s.sck ∧
        t.seq.flags = s.seq.flags ∧ ∀ y : ZoneId, y ≠ z → t.ports[y] = s.ports[y]) ∧
    (s.ports[z].senseFault = true → exec (.motionPowerFault z) s = .next s) ∧
    (∀ n, s.ports[z].powerOff = some n → n ≤ 1 →
      ∃ t, exec (.powerHoldoffExpiry z) s = .next t ∧ t.ports[z] = { s.ports[z] with powerOff := none } ∧
        t.mgt.powerFault = s.mgt.powerFault &&& ~~~(single z) ∧
        (∀ a : AxisId, t.mgt.axes[a] = { s.mgt.axes[a] with
          mode := t.modeOf a, step := if (t.modeOf a).isSending then (s.mgt.axes[a]).step else 0
          resetHold := (t.modeOf a).isSending && (s.mgt.axes[a]).resetHold }) ∧
        (∀ i : Fin 8, (s.mu.tables.env[globalAxis z i]).enable = true → (s.mgt.axes[globalAxis z i]).present = false →
          (t.mgt.axes[globalAxis z i]).mode = .offlineCensus) ∧
        { t with ports := s.ports, mgt := s.mgt, seq := s.seq } = s ∧ ∀ y : ZoneId, y ≠ z → t.ports[y] = s.ports[y])

/-- READ-CENSUS returns the zone and its 12 records of 27 bytes, each by its layout, empties the LOST ones, clears the
change flag and arms the zone (a position that a MALFORMED record did not carry is open: log entry 57); CENSUS-SWEEP
begins a sweep at position 1 and empties the pending calls. -/
def Obligations.CensusCommands : Prop :=
  ∀ (c : Cmd) (z : ZoneId) (s : State), s.hears c → c.fields = [BitVec.ofNat 8 z.val] →
    (∃ (t : State) (fields : List Byte), exec (.readCensus c) s = .next (t.reply 4 .done c.tag fields) ∧ fields.length = 325 ∧
      fields.take 1 = [BitVec.ofNat 8 z.val] ∧
      (∀ q : PosId, (fields.drop (1 + 27 * q.val)).take 27 = censusBytes q s.ports[z].census[q] ∧
        (s.ports[z].census[q] = none → censusBytes q s.ports[z].census[q] = put8 (q.val + 1) ++ List.replicate 26 0) ∧
        ∀ r, s.ports[z].census[q] = some r → ∃ at_ : Fin 4 → Int,
          (∀ i : Fin 4, (r.ann.cls ≠ 1 ∨ r.ann.count ≤ i.val → at_ i = 0) ∧
            ∀ p, r.ann.cls = 1 → i.val < r.ann.count → r.ann.positions[i.val]? = some p → at_ i = p) ∧
          censusBytes q s.ports[z].census[q] = put8 (q.val + 1) ++ [1] ++ (match r.state with
            | .admitted => [0, 0, 0]
            | .conflictCapacity => [1, 1, 0]
            | .conflictOverlap p => [1, 2] ++ put8 (p.val + 1)
            | .refusedMalformed => [2, 3, 0]
            | .refusedUnlisted => [2, 4, 0]
            | .lostMissed => [3, 5, 0]
            | .lostPower => [3, 6, 0]) ++ put8 r.miss ++ put32 r.ann.serial ++ put16 r.ann.maker ++ put16 r.ann.model ++
            put16 r.ann.revision ++ put8 r.ann.cls ++ put8 r.ann.start ++ put8 r.ann.count ++
            putI16 (at_ 0) ++ putI16 (at_ 1) ++ putI16 (at_ 2) ++ putI16 (at_ 3)) ∧
      (∀ q : PosId, t.ports[z].census[q] =
        if isLost s.ports[z].census[q] then none else s.ports[z].census[q]) ∧
      t.ports[z].changeFlag = false ∧ t.ports[z].armed = true ∧ t.ports[z].window = s.ports[z].window ∧
      (∀ y : ZoneId, y ≠ z → t.ports[y] = s.ports[y]) ∧ { t with ports := s.ports } = s.record c.seq) ∧
    exec (.censusSweep c) s =
      .next (((s.record c.seq).onPort z fun p => { p with sweep := some 0, calls := 0 }).reply 5 .done c.tag [])

/-! ### Inputs -/

/-- The show-stop line accepted active takes a RUNNING show to STOPPED in every block, and cancels the cues, each with
its CUE CANCEL where the queue has room and a LIVE one with a ramp; every queued request leaves and is logged SHOW-STOP,
every PLAYING slot ends SHOW-STOP and its claims are free, and every axis in a mode that moves is GUARDED or HOLDING;
accepted inactive it only records the level. The model's choices are that a row of a beat, given alone, is its item's
own share of the beat (log entry 2), the levels, length and position of a layer that the stop makes IDLE (log entry 38),
and the SCK's note of show news (log entry 45). So is that the requests which the stop removes are entered and numbered
in queue order (log entry 35). -/
def Obligations.ShowStopLine : Prop :=
  ∀ s : State, 1 ≤ s.iou.stopDebounce →
    (s.iou.stopAccepted = false → s.arb.showStopped = false →
      ∃ t, exec (.showstopLineChange true) s = .next t ∧ StoppedShow s t ∧ CuesCancelled (fun _ => True) .showStop s t ∧
        t.iou.stopAccepted = true ∧
        t.iou.stopDebounce = 0 ∧ t.seq.flags = s.seq.flags ∧ t.arb.mode = s.arb.mode ∧ t.mu = s.mu ∧
        t.sck = { s.sck with showStopped := true, showNews := true } ∧ t.iou.lines = s.iou.lines ∧ t.iou.zones = s.iou.zones ∧
        t.lco.masters = s.lco.masters ∧ t.ports = s.ports) ∧
    (s.iou.stopAccepted = true → exec (.showstopLineChange false) s =
      .next { s with iou := { s.iou with stopAccepted := false, stopDebounce := 0 } })

/-- A line's new level is accepted at its debounce time. A release clears the stuck mark and, but on a PRESENCE line,
changes nothing else; a press that is inside the lockout or that R32 or an EMPTY entry stops is recorded alone; a press
that is accepted and acted on starts the lockout and fires the line's entry, and the indicators are judged. A firing
that R32 or an EMPTY entry stops does nothing; another is acted on by the entry's behaviour while its scene plays, does
nothing while it is queued, and otherwise makes a request and, where that is INELIGIBLE, the alternate's, all in one
event, which is the model's choice (log entry 60). A PRESENCE line's change judges its zone: OCCUPIED while some line
holds it, and LINGER, or CLEAR at linger time 0, when the last one lets it go; the guards of the axes follow. A BEAM
break acts on its zone and, with trigger on break, fires its entry. The order of the two comes with the row (the model's
form: log entry 4). That a row of a beat, given alone, is its item's own share of the beat is the model's choice (log
entry 2), as is what a break does to a zone in LINGER at linger time 0 (log entry 11). So are the levels, length and
position of a layer that an end with release fade 0 makes IDLE (log entry 38). -/
def Obligations.LineLevelAccepted : Prop :=
  (∀ (n : EntryId) (source : Source) (s : State),
    (fireBarred s n ∨ s.mu.tables.trig[n] = none → (s.fire n source).2 = s) ∧
    ∀ e : TrigRec, ¬fireBarred s n → s.mu.tables.trig[n] = some e →
      Acted e source s (s.fire n source).1 (s.fire n source).2) ∧
  ∀ (n : LineId) (high zoneFirst : Bool) (s : State), (s.mu.tables.line[n]).role ≠ .unused →
    (s.mu.tables.line[n]).debounce ≤ (s.iou.lines[n]).debounce + 1 →
    sampledActive s.mu.tables.line[n] high ≠ (s.iou.lines[n]).accepted →
    let z := lineZone s.mu.tables.line[n]
    let released := s.onLine n fun x => { x with accepted := false, debounce := 0, stuck := false }
    let pressed := s.onLine n fun x => { x with accepted := true, debounce := 0, held := 0 }
    let linger := s.mu.tables.unit.linger
    ((s.iou.lines[n]).accepted = true → (s.mu.tables.line[n]).role ≠ .presence →
      exec (.lineAcceptedChange n high zoneFirst) s = .next released) ∧
    ((s.iou.lines[n]).accepted = false → (s.mu.tables.line[n]).role = .button →
      (0 < (s.iou.lines[n]).lockout ∨ s.iou.mode ≠ .opened ∨ s.iou.showStopped = true ∨
        s.mu.tables.trig[lineEntry n] = none) →
      exec (.lineAcceptedChange n high zoneFirst) s = .next pressed) ∧
    ((s.iou.lines[n]).accepted = false → (s.mu.tables.line[n]).role = .button → (s.iou.lines[n]).lockout = 0 →
      s.iou.mode = .opened → s.iou.showStopped = false → (s.mu.tables.trig[lineEntry n]).isSome = true →
      ∃ t, exec (.lineAcceptedChange n high zoneFirst) s = .next t ∧ t.iou.lines[n] = { s.iou.lines[n] with
        accepted := true, debounce := 0, held := 0, lockout := (s.mu.tables.line[n]).lockout } ∧
        (∀ m : LineId, m ≠ n → t.iou.lines[m] = s.iou.lines[m]) ∧ t.mu = s.mu ∧ t.sck = s.sck ∧
        t.iou.stopAccepted = s.iou.stopAccepted ∧ t.ports = s.ports ∧
        t = ((pressed.onLine n fun x => { x with lockout := (s.mu.tables.line[n]).lockout }).fire (lineEntry n)
          (.visitor n)).2.judgeIndicators ∧ IndicatorsJudged t) ∧
    ((s.mu.tables.line[n]).role = .presence → (s.mu.tables.line[n]).zone = z.val →
      let holds (m : LineId) : Prop := (s.mu.tables.line[m]).role = .presence ∧ (s.mu.tables.line[m]).zone = z.val ∧
        (s.iou.lines[m]).accepted = true
      ((s.iou.lines[n]).accepted = false → (s.iou.zones[z]).kind = .occupied →
        exec (.lineAcceptedChange n high zoneFirst) s = .next pressed) ∧
      ((s.iou.lines[n]).accepted = false → (s.iou.zones[z]).kind ≠ .occupied →
        ∃ t, exec (.lineAcceptedChange n high zoneFirst) s = .next t ∧ t.iou.lines = pressed.iou.lines ∧
          OccTaken s t z { kind := .occupied, count := 0 }) ∧
      ((s.iou.lines[n]).accepted = true → (s.iou.zones[z]).kind = .occupied → (∃ m, m ≠ n ∧ holds m) →
        exec (.lineAcceptedChange n high zoneFirst) s = .next released) ∧
      ((s.iou.lines[n]).accepted = true → (s.iou.zones[z]).kind = .occupied → (∀ m, m ≠ n → ¬holds m) →
        ∃ t, exec (.lineAcceptedChange n high zoneFirst) s = .next t ∧ t.iou.lines = released.iou.lines ∧
          OccTaken s t z (if 0 < linger then { kind := .linger, count := linger } else { kind := .clear, count := 0 })) ∧
      ((s.iou.lines[n]).accepted = true → (s.iou.zones[z]).kind ≠ .occupied → (∀ m, m ≠ n → ¬holds m) →
        exec (.lineAcceptedChange n high zoneFirst) s = .next released)) ∧
    ((s.mu.tables.line[n]).role = .beam → (s.iou.lines[n]).accepted = false →
      ((s.mu.tables.line[n]).trigOnBreak ≠ 1 →
        ((s.iou.zones[z]).kind = .occupied → exec (.lineAcceptedChange n high zoneFirst) s = .next pressed) ∧
        ((s.iou.zones[z]).kind = .linger → exec (.lineAcceptedChange n high zoneFirst) s = .next { pressed with
          iou := { pressed.iou with zones := s.iou.zones.set z { kind := .linger, count := linger } } }) ∧
        ((s.iou.zones[z]).kind = .clear → 0 < linger →
          ∃ t, exec (.lineAcceptedChange n high zoneFirst) s = .next t ∧ t.iou.lines = pressed.iou.lines ∧
            OccTaken s t z { kind := .linger, count := linger }) ∧
        ((s.iou.zones[z]).kind = .clear → linger = 0 →
          exec (.lineAcceptedChange n high zoneFirst) s = .next { pressed with
            iou := { pressed.iou with zones := s.iou.zones.set z { kind := .clear, count := 0 } } })) ∧
      ((s.mu.tables.line[n]).trigOnBreak = 1 →
        (zoneFirst = true → exec (.lineAcceptedChange n high zoneFirst) s =
          .next ((pressed.breakZone z).fire (lineEntry n) (.visitor n)).2) ∧
        (zoneFirst = false → exec (.lineAcceptedChange n high zoneFirst) s =
          .next ((pressed.fire (lineEntry n) (.visitor n)).2.breakZone z))))

/-- The IOU's beat: every line's debounce, lockout and held counts, with the levels they accept and LINE-STUCK; every
zone's occupancy and linger count; and the show-stop line's debounce. A lockout that runs out changes its count and has
every indicator judged, and nothing else; while a channel has an indicator level it is what the channel sends, cut at
the ceiling. A line that becomes stuck changes the count, the mark and LINE-STUCK with its number, asks for a STATUS,
and changes nothing else. A linger count that reaches 0 makes the zone CLEAR, in the IOU and in the views of the ARB and
the MGT, ends the scenes of the zone that have abandon-on-clear, and has the guards of the axes follow. That a row of a
beat, given alone, is its item's own share of the beat is the model's choice (log entry 2), and so are an UNUSED line's
record (log entry 22), the place of the countdown after the judgement of a zone (log entry 46) and what a break does in
LINGER at linger time 0 (log entry 11). Also the model's are the levels, length and position of a layer that an end with
release fade 0 makes IDLE (log entry 38), that the show-stop line is taken before the lines or after the zones, as the
beat's operand says (log entries 4 and 47), and that a UNIT or LINE load which the MU completes on a beat before the IOU
takes it acts on that beat (log entry 53). -/
def Obligations.LockoutStuckAndLinger : Prop :=
  (∀ (b : BeatIn) (s : State),
    let t := s.blockBeat b .iou
    let r (n : LineId) : LineRec := s.mu.tables.line[n]
    let x (n : LineId) : LineRt := s.iou.lines[n]
    let y (n : LineId) : LineRt := t.iou.lines[n]
    let stopped : Bool := if b.stopFirst then t.iou.showStopped else s.iou.showStopped
    let fires (n : LineId) : Bool := !stopped && s.iou.mode == .opened && (s.mu.tables.trig[lineEntry n]).isSome
    let newlyStuck (n : LineId) : Bool := (y n).stuck && !(x n).stuck
    (∀ n : LineId, y n = lineAfterBeat s.mu.tables.unit (r n) (b.lines.getLsbD n) (fires n) (x n)) ∧
    (∀ n : LineId, t.sli.stuckLines.getLsbD n = (s.sli.stuckLines.getLsbD n || newlyStuck n)) ∧
    (t.sli.lineStuck = true ↔ s.sli.lineStuck = true ∨ ∃ n, newlyStuck n = true) ∧
    (∀ z : ZoneId, zoneAfterBeat s.mu.tables.unit.linger
      (∃ n, (r n).role = .presence ∧ (r n).zone = z.val ∧ (y n).accepted = true)
      (∃ n, (r n).role = .beam ∧ Fin.ofNat 4 (r n).zone = z ∧ (x n).accepted = false ∧ (y n).accepted = true)
      s.iou.zones[z] t.iou.zones[z]) ∧
    (let stops : Prop := b.stopActive ≠ s.iou.stopAccepted ∧ 2 ≤ s.iou.stopDebounce + 1
     (stops → t.iou.stopAccepted = b.stopActive ∧ t.iou.stopDebounce = 0) ∧
     (¬stops → t.iou.stopAccepted = s.iou.stopAccepted ∧ t.iou.showStopped = s.iou.showStopped ∧
       t.iou.stopDebounce = if b.stopActive = s.iou.stopAccepted then 0 else s.iou.stopDebounce + 1)) ∧
    t.iou.mode = s.iou.mode ∧ t.mu = s.mu ∧ t.ports = s.ports ∧ t.arb.mode = s.arb.mode ∧
    t.sck.cal = s.sck.cal ∧ t.sck.alarms = s.sck.alarms ∧ t.sli.sources = s.sli.sources) ∧
  (∀ (n : LineId) (s : State),
    s.raiseLineStuck n = ({ s with sli := { s.sli with
      lineStuck := true, stuckLines := s.sli.stuckLines ||| single n } } : State).askStatus ∧
    ((s.iou.lines[n]).lockout = 1 →
      ∃ t, exec (.lockoutExpiry n) s = .next t ∧
        t.iou.lines = s.iou.lines.set n { s.iou.lines[n] with lockout := 0 } ∧
        { t.iou with lines := s.iou.lines, indicators := s.iou.indicators } = s.iou ∧ IndicatorsJudged t ∧
        (∀ c : ChannelId, t.lco.channels[c] = { s.lco.channels[c] with
          indicator := (t.lco.channels[c]).indicator }) ∧
        (∀ c : ChannelId, unnamedChannel s c → t.lco.channels[c] = s.lco.channels[c]) ∧
        { t.lco with channels := s.lco.channels } = s.lco ∧ { t with iou := s.iou, lco := s.lco } = s) ∧
    ((s.iou.lines[n]).accepted = true → (s.iou.lines[n]).stuck = false →
      ((s.mu.tables.line[n]).role = .button → s.mu.tables.unit.buttonStuck ≤ (s.iou.lines[n]).held + 1 →
        exec (.buttonStuck n) s =
          .next ((s.onLine n fun x => { x with held := x.held + 1, stuck := true }).raiseLineStuck n)) ∧
      ((s.mu.tables.line[n]).role = .presence → s.mu.tables.unit.presenceStuck ≤ (s.iou.lines[n]).held + 1 →
        exec (.presenceStuck n) s =
          .next ((s.onLine n fun x => { x with held := x.held + 1, stuck := true }).raiseLineStuck n)))) ∧
  (∀ (s : State) (c : ChannelId) (ch : Channel) (l : Nat), ch.present = true → ch.indicator = some l →
    s.outputOf c ch = min l (min 65534 s.mu.tables.ceil[c])) ∧
  ∀ (z : ZoneId) (s : State), (s.iou.zones[z]).kind = .linger → (s.iou.zones[z]).count = 1 →
    ∃ t, exec (.lingerExpiry z) s = .next t ∧ t.iou.lines = s.iou.lines ∧
      OccTaken s t z { kind := .clear, count := 0 }

/-! ### Requests, slots and scenes -/

/-- A scene's eligibility is the fold of its tests from the left, in which AND binds no more tightly than OR; an EMPTY
record and a claimed AMBIENT stream make it ineligible; a scene with no tests is eligible. A test has the value its
table gives it, read from the state of the moment; the request being judged is not counted as queued. An arrival and a
walk use it. A walk judges the requests in queue order with a blocked set, empty at first: an eligible request that
meets the blocked set, whose resource test fails, or that finds no slot stays where it is, and its claims, if it has
any, join the blocked set; another starts in the lowest slot that is FREE or is preempted. So a waiting request holds
back a later one that claims what it claims, and one that claims nothing holds back none. That a slot which has ended
and claims nothing is FREE before the ARB has taken its release is the model's choice (log entry 21). -/
def Obligations.EligibilityFold : Prop :=
  (∀ (s : State) (i : SceneId),
    (s.scene i = none → s.eligible i = false) ∧
    ∀ sc, s.scene i = some sc →
      ((∃ k : StreamId, sc.claims.streams.getLsbD k = true ∧ s.mu.tables.route.ambient.getLsbD k = true) →
        s.eligible i = false) ∧
      ((∀ k : StreamId, sc.claims.streams.getLsbD k = true → s.mu.tables.route.ambient.getLsbD k = false) →
        (sc.tests = [] → s.eligible i = true) ∧
        (∀ t ts, sc.tests = t :: ts → s.eligible i = ts.foldl (fun r x =>
          if x.orComb then r || s.testValue i x.kind else r && s.testValue i x.kind) (s.testValue i t.kind)) ∧
        (∀ a b c : Test, sc.tests = [a, b, c] → b.orComb = true → c.orComb = false → s.eligible i =
          ((s.testValue i a.kind || s.testValue i b.kind) && s.testValue i c.kind)) ∧
        (∀ a b c : Test, sc.tests = [a, b, c] → b.orComb = false → c.orComb = true → s.eligible i =
          (s.testValue i a.kind && s.testValue i b.kind || s.testValue i c.kind))) ∧
      (∀ r : Request, r.scene = i → s.eligible i = false →
        (s.arb.showStopped = false → admits s.arb.mode r.source = true → s.isBusy i = false →
          s.refusal r = some .ineligible) ∧
        ∀ (rs : List Request) (blocked : BitVec 96),
          State.walkFrom (r :: rs) blocked s = State.walkFrom rs blocked (s.depart r .ineligible)) ∧
      (∀ f : Fin 32, s.testValue i (.flagSet f) = s.seq.flags.getLsbD f ∧
        s.testValue i (.flagClear f) = !s.seq.flags.getLsbD f) ∧
      (∀ z : ZoneId, (s.testValue i (.zoneOccupied z) = true ↔ s.arb.occ[z] = .occupied ∨ s.arb.occ[z] = .linger) ∧
        (s.testValue i (.zoneClear z) = true ↔ s.arb.occ[z] = .clear)) ∧
      (∀ m : HouseMode, s.testValue i (.mode m) = true ↔ s.arb.mode = m) ∧
      (∀ j : SceneId, s.testValue i (.sceneIdle j) = true ↔
        (∀ (k : SlotId) (p : PlayRec), s.play k = some p → p.scene ≠ j) ∧ (j ≠ i → ∀ r ∈ s.arb.queue, r.scene ≠ j))) ∧
  (∀ s : State, s.walk = (State.walkFrom s.arb.queue 0 s).judgeIndicators) ∧
  (∀ (blocked : BitVec 96) (s : State), State.walkFrom [] blocked s = s) ∧
  (∀ (r : Request) (rs : List Request) (sc : SceneRec) (blocked after : BitVec 96) (s : State),
    s.scene r.scene = some sc → s.eligible r.scene = true →
    (∀ x : ResourceId, after.getLsbD x = (blocked.getLsbD x || sc.claims.mask.getLsbD x)) →
    (waits s sc r.priority blocked → State.walkFrom (r :: rs) blocked s = State.walkFrom rs after s) ∧
    (¬waits s sc r.priority blocked → ∃ k, mayUse s sc.claims k ∧ (∀ j : SlotId, j < k → ¬mayUse s sc.claims j) ∧
      State.walkFrom (r :: rs) blocked s = State.walkFrom rs blocked (s.start k r sc) ∧
      (s.start k r sc).arb.queue = s.arb.queue.erase r)) ∧
  ∀ (a b : Request) (sa sb : SceneRec) (s : State), s.arb.queue = [a, b] → s.scene a.scene = some sa →
    s.scene b.scene = some sb → s.eligible a.scene = true → s.eligible b.scene = true → waits s sa a.priority 0 →
    ((∃ x : ResourceId, sa.claims.mask.getLsbD x = true ∧ sb.claims.mask.getLsbD x = true) →
      s.walk.arb = s.arb ∧ s.walk.seq = s.seq) ∧
    (∀ k : SlotId, (∀ x : ResourceId, sa.claims.mask.getLsbD x = true → sb.claims.mask.getLsbD x = false) →
      (∀ x : ResourceId, sb.claims.mask.getLsbD x = true → mayTake s sb b.priority x) → mayUse s sb.claims k →
      (∀ j : SlotId, j < k → ¬mayUse s sb.claims j) → a ≠ b → s.walk.arb.queue = [a] ∧
        ∃ p, s.walk.play k = some p ∧ p.scene = b.scene ∧ p.source = b.source ∧ p.priority = b.priority)

/-- An accepted request takes its place after every queued request of equal or higher priority and before every one of
lower priority; the others keep their order, and a queue in priority order stays so. -/
def Obligations.QueueOrderKept : Prop :=
  ∀ (r : Request) (q : List Request), q.Pairwise (fun x y => y.priority ≤ x.priority) →
    (insertRequest r q).Pairwise (fun x y => y.priority ≤ x.priority) ∧
    (∃ a b, insertRequest r q = a ++ r :: b ∧ q = a ++ b ∧ (∀ x ∈ a, r.priority ≤ x.priority) ∧
      ∀ x ∈ b, x.priority < r.priority)

/-- On the ARB's beat every deadline is lowered by 1. The requests whose deadlines reach 0 leave the queue, each entered
in the outcome log TIMED-OUT, the others stay as they are, and one walk follows; where none is due nothing happens. The
walk adds no request, and where every request that is left must wait it changes neither queue, owners nor slots. That a
row of a beat, given alone, is its item's own share of the beat is the model's choice (log entry 2), and so is that the
due requests leave in queue order (log entry 35). -/
def Obligations.DeadlinesExpire : Prop :=
  let removed (limit : Nat) (s t : State) : Prop :=
    let due := s.arb.queue.filter fun r => decide (r.deadline ≤ limit)
    let rest := s.arb.queue.filter fun r => !decide (r.deadline ≤ limit)
    (due = [] → t = s) ∧
    (due ≠ [] → ∃ u : State, t = u.walk ∧
      u.arb = { s.arb with
        queue := rest, log := departuresLogged .timedOut due s.arb
        nextNumber := s.arb.nextNumber + BitVec.ofNat 16 due.length } ∧
      (.status ∈ u.sli.ownQueue ∨ u.sli.owed = true) ∧ { u with arb := s.arb, sli := s.sli } = s ∧
      ((∀ r ∈ rest, u.eligible r.scene = true ∧ ∃ sc, u.scene r.scene = some sc ∧ waits u sc r.priority 0) →
        t.arb = u.arb ∧ t.seq = u.seq)) ∧
    (∀ r ∈ t.arb.queue, r ∈ rest) ∧
    t.mu = s.mu ∧ t.sck = s.sck ∧ t.arb.mode = s.arb.mode ∧ t.arb.occ = s.arb.occ ∧ t.iou.zones = s.iou.zones ∧
    t.iou.lines = s.iou.lines ∧ t.ports = s.ports
  (∀ s : State, ∃ t, exec .waitDeadlineExpiry s = .next t ∧ removed 1 s t) ∧
  ∀ (b : BeatIn) (s : State),
    removed 0 { s with arb := { s.arb with queue := s.arb.queue.map fun r => { r with deadline := r.deadline - 1 } } }
      (s.blockBeat b .arb)

/-- START-SCENE of an admitted scene that passes its tests, with nothing queued: with the command's override or its own
priority it plays in the lowest slot that is FREE once the slots it preempts have ended, holds its claims, is entered in
the log, and is answered with the slot. First where nothing holds its claims; then where it preempts: every slot that
owns a claimed resource ends PREEMPTED and is entered in the log, loses what it owned, has its cue cancelled, and hands
the claimed groups over at their levels, while its other groups are released. That a PREEMPTED entry carries the ended
slot's source and priority is the model's choice (log entry 32). A scene that the walk of its arrival does not start is
answered QUEUED and waits in the queue with its maximum wait, or, where that is 0, is answered TIMED-OUT, leaves the
queue and is entered in the log: first whatever else is queued, then in full where nothing is. That a slot which has
ended and claims nothing is FREE before the ARB has taken its release is the model's choice (log entry 21). -/
def Obligations.StartSceneStarts : Prop :=
  (∀ (c : Cmd) (i : SceneId) (sc : SceneRec) (k : SlotId) (pr : Nat) (s : State), s.hears c →
    ((c.fields = [BitVec.ofNat 8 i.val, 255] ∧ pr = sc.priority) ∨
      (c.fields = [BitVec.ofNat 8 i.val, BitVec.ofNat 8 pr] ∧ pr ≤ 7)) →
    s.scene i = some sc → s.arb.showStopped = false → s.arb.queue = [] →
    s.isPlaying i = false → s.eligible i = true → s.motionBlocked i = false →
    let began (t : State) : Prop := exec (.startScene c) s = .next (t.reply 11 .done c.tag [0, BitVec.ofNat 8 k.val]) ∧
      (∃ p, t.play k = some p ∧ p.scene = i ∧ p.source = .server ∧ p.priority = pr ∧ p.position = 0 ∧
        p.segment = 0 ∧ p.plays = sc.repeats ∧ p.claims = sc.claims) ∧ t.arb.queue = [] ∧
      (∀ x : ResourceId, sc.claims.mask.getLsbD x = true → t.arb.owners[x] = some k) ∧
      (∃ e : LogEntry, t.arb.log.getLast? = some e ∧ e.scene = i ∧ e.kind = .started k ∧ e.tag = some c.tag) ∧
      t.mu = s.mu ∧ t.sck = s.sck ∧ t.iou.lines = s.iou.lines ∧ t.iou.zones = s.iou.zones ∧ t.ports = s.ports
    ((∀ x : ResourceId, sc.claims.mask.getLsbD x = true → s.arb.owners[x] = none) →
      s.play k = none → (∀ x : ResourceId, s.arb.owners[x] ≠ some k) →
      (∀ j : SlotId, j < k → (s.play j).isSome = true) →
      ∃ t : State, began t ∧
        (∀ x : ResourceId, sc.claims.mask.getLsbD x = false → t.arb.owners[x] = s.arb.owners[x]) ∧
        (∃ e : LogEntry, t.arb.log.getLast? = some e ∧ e.number = s.arb.nextNumber) ∧
        ∀ (j : SlotId) (p : PlayRec), j ≠ k → s.play j = some p → ∃ q, t.play j = some q ∧ q = { p with marks := q.marks }) ∧
    (let owns (j : SlotId) : Prop := ∃ x : ResourceId, sc.claims.mask.getLsbD x = true ∧ s.arb.owners[x] = some j
     sc.mayPreempt = true → (∃ j, owns j) →
     (∀ j, owns j → ∃ p d, s.play j = some p ∧ s.scene p.scene = some d ∧ p.priority < pr ∧ d.yieldable = true) →
     (owns k ∨ (s.play k = none ∧ ∀ x : ResourceId, s.arb.owners[x] ≠ some k)) →
     (∀ j : SlotId, j < k → (s.play j).isSome = true ∧ ¬owns j) →
     ∃ t : State, began t ∧
       (∀ (x : ResourceId) (j : SlotId), sc.claims.mask.getLsbD x = false → s.arb.owners[x] = some j →
         (owns j → t.arb.owners[x] = none) ∧ (¬owns j → t.arb.owners[x] = some j)) ∧
       (∀ x : ResourceId, sc.claims.mask.getLsbD x = false → s.arb.owners[x] = none → t.arb.owners[x] = none) ∧
       (∀ (j : SlotId) (p : PlayRec), owns j → s.play j = some p →
         (j ≠ k → t.seq.slots[j] = .free (some p.scene) .preempted ∧ t.nmx.cues[j] = none ∧ t.lco.effects[j] = none) ∧
         (∀ a : AxisId, p.claims.axes.getLsbD a = true → sc.claims.axes.getLsbD a = false →
           (t.mgt.axes[a]).sceneTarget = none ∧
           (sc.segments[0]?.bind (·.keys) = none → (t.mgt.axes[a]).keyframe = none)) ∧
         ∃ e ∈ t.arb.log, e.kind = .preempted j k ∧ e.scene = p.scene ∧ e.source = p.source ∧ e.priority = p.priority) ∧
       CuesCancelled (fun j => owns j ∧ (s.play j).isSome = true) .preempted s t ∧
       (∀ (j : SlotId) (p : PlayRec), j ≠ k → ¬owns j → s.play j = some p →
         ∃ q, t.play j = some q ∧ q = { p with marks := q.marks }) ∧
       ∀ g, sc.segments[0]? = some g →
         (g.look = none → ∀ ch : ChannelId,
           (sc.claims.groups.getLsbD (channelGroup ch) = true → s.arb.owners[groupRes (channelGroup ch)] ≠ none →
             (t.lco.channels[ch]).layer = if (s.lco.channels[ch]).layer.phase = .idle then (s.lco.channels[ch]).layer
               else {
                 owner := some k, phase := .settled, fromLevel := capture s.lco.channels[ch]
                 toLevel := capture s.lco.channels[ch], len := 0, pos := 0 }) ∧
           (∀ (j : SlotId) (p : PlayRec) (d : SceneRec), owns j → s.play j = some p → s.scene p.scene = some d →
             p.claims.groups.getLsbD (channelGroup ch) = true → sc.claims.groups.getLsbD (channelGroup ch) = false →
             (s.lco.channels[ch]).layer.owner = some j → 0 < d.releaseFade →
             (t.lco.channels[ch]).layer = {
               owner := none, phase := .releasing, fromLevel := capture s.lco.channels[ch], toLevel := 0
               len := d.releaseFade, pos := 0 })) ∧
         (g.keys = none → ∀ a : AxisId, sc.claims.axes.getLsbD a = true →
           (t.mgt.axes[a]).sceneTarget = some (s.mgt.axes[a]).pos ∧ (t.mgt.axes[a]).keyframe = none ∧
           (t.mgt.axes[a]).pos = (s.mgt.axes[a]).pos))) ∧
  ∀ (c : Cmd) (i : SceneId) (sc : SceneRec) (pr : Nat) (s : State), s.hears c →
    ((c.fields = [BitVec.ofNat 8 i.val, 255] ∧ pr = sc.priority) ∨
      (c.fields = [BitVec.ofNat 8 i.val, BitVec.ofNat 8 pr] ∧ pr ≤ 7)) →
    s.scene i = some sc → s.arb.showStopped = false → s.isBusy i = false → s.eligible i = true →
    s.motionBlocked i = false → s.arb.queue.length < 16 →
    let r : Request := { scene := i, source := .server, priority := pr, deadline := sc.maxWait, tag := some c.tag }
    let u := (((s.record c.seq).onArb fun x => { x with queue := insertRequest r x.queue }).askStatus).walk
    (∀ k, u.playingSlot i = some k → exec (.startScene c) s = .next (u.reply 11 .done c.tag [0, BitVec.ofNat 8 k.val])) ∧
    (u.playingSlot i = none → u.isQueued i = true → 0 < sc.maxWait →
      exec (.startScene c) s = .next (u.reply 11 .done c.tag [1, 255])) ∧
    (u.playingSlot i = none → u.isQueued i = true → sc.maxWait = 0 →
      exec (.startScene c) s = .next ((u.depart r .timedOut).judgeIndicators.reply 11 .done c.tag [2, 255])) ∧
    (s.arb.queue = [] → waits s sc pr 0 → ∃ t : State,
      t.arb.owners = s.arb.owners ∧ t.seq = s.seq ∧ t.nmx = s.nmx ∧ t.mgt = s.mgt ∧ t.mu = s.mu ∧ t.sck = s.sck ∧
      t.iou.lines = s.iou.lines ∧ t.iou.zones = s.iou.zones ∧ t.ports = s.ports ∧ IndicatorsJudged t ∧
      (0 < sc.maxWait → exec (.startScene c) s = .next (t.reply 11 .done c.tag [1, 255]) ∧ t.arb.queue = [r] ∧
        t.arb.log = s.arb.log ∧ t.arb.nextNumber = s.arb.nextNumber) ∧
      (sc.maxWait = 0 → exec (.startScene c) s = .next (t.reply 11 .done c.tag [2, 255]) ∧ t.arb.queue = [] ∧
        t.arb.nextNumber = s.arb.nextNumber + 1 ∧
        ∃ e : LogEntry, t.arb.log.getLast? = some e ∧ e.number = s.arb.nextNumber ∧ e.scene = i ∧ e.source = .server ∧
          e.priority = pr ∧ e.kind = .departed .timedOut ∧ e.tag = some c.tag))

/-- A START-SCENE that R42 refuses is answered with the code of the first check that fails; the refusal is entered in
the outcome log, and queue, claim table and slots stay as they were. -/
def Obligations.StartSceneRefused : Prop :=
  ∀ (c : Cmd) (i : SceneId) (pr : Byte) (sc : SceneRec) (s : State), s.hears c →
    c.fields = [BitVec.ofNat 8 i.val, pr] → (pr.toNat ≤ 7 ∨ pr = 255) → s.scene i = some sc →
    ∀ code : RefuseCode,
      ((code = .stopped ∧ s.arb.showStopped = true) ∨
       (code = .duplicate ∧ s.arb.showStopped = false ∧ s.isBusy i = true) ∨
       (code = .ineligible ∧ s.arb.showStopped = false ∧ s.isBusy i = false ∧ s.eligible i = false) ∨
       (code = .notReady ∧ s.arb.showStopped = false ∧ s.isBusy i = false ∧ s.eligible i = true ∧
         s.motionBlocked i = true) ∨
       (code = .queueFull ∧ s.arb.showStopped = false ∧ s.isBusy i = false ∧ s.eligible i = true ∧
         s.motionBlocked i = false ∧ 16 ≤ s.arb.queue.length)) →
      ∃ t : State, exec (.startScene c) s = .next (t.reply 11 code.status c.tag []) ∧ t.arb.queue = s.arb.queue ∧
        t.arb.owners = s.arb.owners ∧ t.arb.nextNumber = s.arb.nextNumber + 1 ∧
        { t with arb := s.arb, sli := s.sli } = s ∧ (code = .queueFull → t.sli.queueFull = true) ∧
        (∃ e : LogEntry, t.arb.log.getLast? = some e ∧ e.scene = i ∧ e.kind = .refused code ∧ e.tag = some c.tag)

/-- STOP-SCENE naming a scene: a playing scene's slot ends STOPPED, a queued request is removed and entered in the log
STOPPED, the others keep their order and the queue is walked, and a scene that is neither changes nothing; naming a
slot: a PLAYING slot ends STOPPED, a FREE one changes nothing. The REPLY says which. A slot that ends releases its
layers with its scene's release fade, loses its effect, has its cue cancelled with a CUE CANCEL report and, from LIVE, a
ramp, takes keyframe and scene target from its axes, and frees its claims; then the queue is walked. The levels, length
and position of a layer that a release of fade 0 makes IDLE are the model's choice (log entry 38), and so are the log
order of several requests of one scene, which no run of the machine queues (log entry 35), and that the CUE CANCEL joins
before the STATUS of the end (log entry 54). -/
def Obligations.StopScene : Prop :=
  (∀ (k : SlotId) (p : PlayRec) (s : State), s.play k = some p →
    ∃ u : State, SlotEnded k p .stopped .stopped s u ∧ s.endAndWalk k .stopped = u.walk) ∧
  (∀ (c : Cmd) (i : SceneId) (s : State), s.hears c → c.fields = [0, BitVec.ofNat 8 i.val] →
    (∀ k : SlotId, s.playingSlot i = some k → exec (.stopSceneByScene c) s =
      .next (((s.record c.seq).endAndWalk k .stopped).reply 12 .done c.tag [0, BitVec.ofNat 8 k.val])) ∧
    (∀ (k : SlotId) (p : PlayRec), s.playingSlot i = some k → s.play k = some p → s.arb.queue = [] →
      ∃ t : State, exec (.stopSceneByScene c) s = .next (t.reply 12 .done c.tag [0, BitVec.ofNat 8 k.val]) ∧
        p.scene = i ∧ SlotEnded k p .stopped .stopped (s.record c.seq) t ∧ IndicatorsJudged t) ∧
    (s.playingSlot i = none → s.isQueued i = true →
      let named := s.arb.queue.filter fun r => decide (r.scene = i)
      ∃ u : State, exec (.stopSceneByScene c) s = .next (u.walk.reply 12 .done c.tag [1, 255]) ∧
        u.arb = { s.arb with
          queue := s.arb.queue.filter fun r => !decide (r.scene = i)
          log := departuresLogged .stopped named s.arb
          nextNumber := s.arb.nextNumber + BitVec.ofNat 16 named.length } ∧
        (.status ∈ u.sli.ownQueue ∨ u.sli.owed = true) ∧ { u with arb := s.arb, sli := s.sli } = s) ∧
    (∀ r : Request, s.playingSlot i = none → r.scene = i → s.arb.queue = [r] →
      ∃ t : State, exec (.stopSceneByScene c) s = .next (t.reply 12 .done c.tag [1, 255]) ∧ t.arb.queue = [] ∧
        t.seq = s.seq ∧ t.arb.owners = s.arb.owners ∧
        ∃ e : LogEntry, t.arb.log.getLast? = some e ∧ e.scene = i ∧ e.kind = .departed .stopped) ∧
    (s.playingSlot i = none → s.isQueued i = false →
      exec (.stopSceneByScene c) s = .next ((s.record c.seq).reply 12 .done c.tag [2, 255]))) ∧
  ∀ (c : Cmd) (k : SlotId) (s : State), s.hears c → c.fields = [1, BitVec.ofNat 8 k.val] →
    (∀ p, s.play k = some p → exec (.stopSceneBySlot c) s =
      .next (((s.record c.seq).endAndWalk k .stopped).reply 12 .done c.tag [0, BitVec.ofNat 8 k.val])) ∧
    (∀ p, s.play k = some p → s.arb.queue = [] →
      ∃ t : State, exec (.stopSceneBySlot c) s = .next (t.reply 12 .done c.tag [0, BitVec.ofNat 8 k.val]) ∧
        SlotEnded k p .stopped .stopped (s.record c.seq) t ∧ IndicatorsJudged t) ∧
    (s.play k = none → exec (.stopSceneBySlot c) s = .next ((s.record c.seq).reply 12 .done c.tag [2, 255]))

/-- STOP-SHOW takes a RUNNING show to STOPPED and cancels the cues, each with its CUE CANCEL where the queue has room
and a LIVE one with a ramp; every queued request leaves and is logged SHOW-STOP, every PLAYING slot ends SHOW-STOP and
its claims are free, and every axis in a mode that moves is GUARDED or HOLDING; RESUME-SHOW takes it back only while the
show-stop line is inactive, and every axis and indicator is judged again. The levels, length and position of a layer
that the stop makes IDLE (log entry 38) and the SCK's note of show news (log entry 45) are the model's choices. So is
that the requests which the stop removes are entered and numbered in queue order (log entry 35). -/
def Obligations.ShowCommands : Prop :=
  ∀ (c : Cmd) (s : State), s.hears c → c.fields = [] →
    (s.arb.showStopped = false →
      ∃ t : State, exec (.stopShow c) s = .next (t.reply 13 .done c.tag []) ∧ StoppedShow s t ∧ CuesCancelled (fun _ => True) .showStop s t ∧
        t.seq.flags = s.seq.flags ∧
        t.mu = s.mu ∧ t.sck = { s.sck with showStopped := true, showNews := true } ∧ t.iou.lines = s.iou.lines ∧ t.ports = s.ports) ∧
    (s.arb.showStopped = true → exec (.stopShow c) s = .next ((s.record c.seq).reply 13 .done c.tag [])) ∧
    (s.arb.showStopped = true → s.iou.stopAccepted = false →
      ∃ t : State, exec (.resumeShow c) s = .next (t.reply 14 .done c.tag []) ∧ t.arb.showStopped = false ∧
        t.iou.showStopped = false ∧ t.mgt.showStopped = false ∧ t.sck.showStopped = false ∧
        (∀ a : AxisId, (t.mgt.axes[a]).mode = t.modeOf a ∧ (t.mgt.axes[a]).pos = (s.mgt.axes[a]).pos) ∧
        IndicatorsJudged t ∧
        t.arb.queue = s.arb.queue ∧ (∀ k : SlotId, (t.play k).isNone = (s.play k).isNone) ∧ t.seq.flags = s.seq.flags ∧ t.mu = s.mu ∧
        t.nmx = s.nmx ∧ t.iou.lines = s.iou.lines ∧ t.ports = s.ports) ∧
    (s.arb.showStopped = true → s.iou.stopAccepted = true →
      exec (.resumeShow c) s = .next ((s.record c.seq).reply 14 .notReady c.tag [])) ∧
    (s.arb.showStopped = false → exec (.resumeShow c) s = .next ((s.record c.seq).reply 14 .done c.tag []))

/-- The end of a play that is not the last returns the slot to position 0 and begins segment 0; the end of the last play
ends the slot COMPLETE: its layers are released with the release fade, its effect is gone, its cue is cancelled with a
CUE CANCEL report and, from LIVE, a ramp, its axes lose keyframe and scene target, and its claims are free. With no next
scene nothing is requested, and with one that is playing or queued the ARB takes the release and walks once, so a queued
next scene that cannot start stays as it waits; a next scene that can start is requested with the ended slot's source
and its own priority, and starts. That a row of a beat, given alone, is its item's own share of the beat is the model's
choice (log entry 2), as are the levels, length and position of a layer that a release of fade 0 makes IDLE (log entry
38) and that the CUE CANCEL joins before the STATUS of the end (log entry 54). -/
def Obligations.PlayEnds : Prop :=
  ∀ (k : SlotId) (p : PlayRec) (sc : SceneRec) (s : State), s.play k = some p → s.scene p.scene = some sc →
    p.position + 1 = sc.length →
    (1 < p.plays ∨ sc.repeats = 0 → exec (.playEnd k) s =
      .next ((s.onPlay k fun p => { p with position := 0, segment := 0, plays := p.plays - 1 }).beginSegment k 0)) ∧
    (p.plays ≤ 1 → sc.repeats ≠ 0 →
      (sc.next = none ∨ ∃ (i : SceneId) (j : SlotId) (q : PlayRec), sc.next = some i ∧ j ≠ k ∧ s.play j = some q ∧
        q.scene = i) → s.arb.queue = [] →
      ∃ t, exec (.playEnd k) s = .next t ∧ SlotEnded k p .complete .complete s t ∧ IndicatorsJudged t) ∧
    (p.plays ≤ 1 → sc.repeats ≠ 0 → SlotEnded k p .complete .complete s ((s.slotAdvance k).releaseClaims k p)) ∧
    (∀ i : SceneId, p.plays ≤ 1 → sc.repeats ≠ 0 → sc.next = some i →
      (s.isQueued i = true ∨ ∃ (j : SlotId) (q : PlayRec), j ≠ k ∧ s.play j = some q ∧ q.scene = i) →
      exec (.playEnd k) s = .next ((s.slotAdvance k).releaseClaims k p).walk) ∧
    (∀ (r : Request) (sn : SceneRec), p.plays ≤ 1 → sc.repeats ≠ 0 → sc.next = some r.scene → s.arb.queue = [r] →
      s.scene r.scene = some sn → sn.mayPreempt = false →
      let u := (s.slotAdvance k).releaseClaims k p
      u.eligible r.scene = true → (∃ x : ResourceId, sn.claims.mask.getLsbD x = true ∧ u.arb.owners[x] ≠ none) →
      ∃ t, exec (.playEnd k) s = .next t ∧ t.seq.slots[k] = .free (some p.scene) .complete ∧ t.arb.queue = [r] ∧
        t.arb.log = s.arb.log ∧ t.arb.nextNumber = s.arb.nextNumber ∧ t.arb.owners = u.arb.owners ∧
        (∀ j : SlotId, (t.play j).isSome = ((s.play j).isSome && j != k)) ∧ t.mu = s.mu ∧ t.ports = s.ports) ∧
    ∀ (i : SceneId) (sn : SceneRec) (m : SlotId), p.plays ≤ 1 → sc.repeats ≠ 0 → sc.next = some i →
      s.scene i = some sn → s.arb.queue = [] → s.arb.showStopped = false → admits s.arb.mode p.source = true →
      let u := (s.slotAdvance k).releaseClaims k p
      u.isPlaying i = false → u.eligible i = true → u.motionBlocked i = false →
      (∀ x : ResourceId, sn.claims.mask.getLsbD x = true → u.arb.owners[x] = none) →
      u.play m = none → (∀ x : ResourceId, u.arb.owners[x] ≠ some m) →
      (∀ j : SlotId, j < m → (u.play j).isSome = true) →
      ∃ t q, exec (.playEnd k) s = .next t ∧ t.play m = some q ∧ q.scene = i ∧ q.source = p.source ∧
        q.priority = sn.priority ∧ q.plays = sn.repeats ∧ q.position = 0 ∧ q.claims = sn.claims ∧ t.arb.queue = [] ∧
        (∀ x : ResourceId, sn.claims.mask.getLsbD x = true → t.arb.owners[x] = some m) ∧
        (∃ e : LogEntry, t.arb.log.getLast? = some e ∧ e.scene = i ∧ e.source = p.source ∧ e.kind = .started m ∧
          e.tag = none) ∧ t.mu = s.mu ∧ t.sck = s.sck ∧ t.ports = s.ports

/-- A segment begins at its start with its parts: position and segment index move; a look part starts a fade, or
settles, on the channels of the held groups that it names, or marks LOOK-MISSING; an effect part is set at phase 0, and
an absent or EMPTY one clears the slot's effect; a cue part makes a new REQUESTED cue with its CUE START report, after
the cancellation of a cue it replaces, which from LIVE leaves a ramp, or a FAILED one when the queue is full; keyframes
start at their axes' positions, and one of an OFFLINE axis marks AXIS-OFFLINE; the flag action is done. On a beat every
PLAYING slot is advanced, whichever slots end on it, and a next scene that a slot of higher number plays as a slot ends
is not requested, even if that slot ends on the same beat (that the SEQ takes the slots in slot-number order is the
model's choice, log entry 21). That a row of a beat, given alone, is its item's own share of the beat is the model's
choice (log entry 2). -/
def Obligations.SegmentBegins : Prop :=
  (∀ (k : SlotId) (p : PlayRec) (sc : SceneRec) (g : Segment) (s : State), s.play k = some p →
    s.scene p.scene = some sc → sc.segments[p.segment + 1]? = some g → g.start = p.position + 1 →
    p.position + 1 ≠ sc.length →
    ∃ t p', exec (.segmentBegin k) s = .next t ∧ t.play k = some p' ∧ p'.position = p.position + 1 ∧
      p'.segment = p.segment + 1 ∧ p'.plays = p.plays ∧ p'.scene = p.scene ∧ p'.claims = p.claims ∧
      PartsHanded k p sc g s t p' ∧
      (∀ j : SlotId, j ≠ k → t.play j = s.play j ∧ t.lco.effects[j] = s.lco.effects[j]) ∧ t.arb = s.arb ∧
      t.iou = s.iou ∧ t.mu = s.mu ∧ t.ports = s.ports) ∧
  ∀ (b : BeatIn) (k : SlotId) (p : PlayRec) (sc : SceneRec) (s : State), s.arb.queue = [] →
    (∀ (j : SlotId) (q : PlayRec) (d : SceneRec) (i : SceneId), s.play j = some q → s.scene q.scene = some d →
      d.next = some i → ∃ (m : SlotId) (r : PlayRec), j < m ∧ s.play m = some r ∧ r.scene = i) →
    s.play k = some p → s.scene p.scene = some sc →
    let t := s.blockBeat b .seq
    (t.arb.queue = [] ∧ t.arb.log = s.arb.log ∧ t.arb.nextNumber = s.arb.nextNumber) ∧
    (p.position + 1 = sc.length → p.plays ≤ 1 → sc.repeats ≠ 0 →
      t.seq.slots[k] = .free (some p.scene) .complete) ∧
    (p.position + 1 = sc.length → 1 < p.plays ∨ sc.repeats = 0 →
      ∃ q, t.play k = some q ∧ q = { p with position := 0, segment := 0, plays := p.plays - 1, marks := q.marks }) ∧
    (p.position + 1 ≠ sc.length →
      ∃ q, t.play k = some q ∧ q = { p with
        position := p.position + 1, marks := q.marks
        segment := match sc.segments[p.segment + 1]? with
          | some g => if g.start = p.position + 1 then p.segment + 1 else p.segment
          | none => p.segment })

/-! ### Light, sound and motion -/

/-- The output of a light channel, stage by stage. On a beat its layer advances first. The pre-effect level passes the
effect stage, which acts where the layer's owner has an effect that targets the channel's group and is LOW: the start
state of its pattern, flipped once for each position of the period's toggle list up to the phase, and HIGH while a hush
pattern's cue is LIVE. The master stage acts on every channel whatever its layer, and the ceiling cuts what it leaves. A
level with the stale mark sends the HOLD code; an indicator level, cut at the ceiling, stands in place of the level; and
an absent channel sends the HOLD code whatever stands before. The ceiling is the one that stands when the channel is
composed; on the beat of a CEIL load that is the model's choice (log entry 53). -/
def Obligations.MasterStage : Prop :=
  (∀ e m : Nat, masterStage e m = (e * m + 128) / 256) ∧ (∀ e : Nat, masterStage e 256 = e) ∧
  (∀ e : Nat, masterStage e 0 = 0) ∧ (∀ e m : Nat, m ≤ 256 → masterStage e m ≤ e) ∧
  (∀ y d : Nat, effectStage y d = (y * (256 - d) + 128) / 256 ∧ effectStage y d ≤ y) ∧
  (∀ y : Nat, effectStage y 0 = y ∧ effectStage y 256 = 0) ∧
  (∀ (s : State) (k : SlotId),
    (s.lco.effects[k] = none → s.slotLow k = false) ∧
    ∀ e, s.lco.effects[k] = some e →
      (s.mu.tables.fx[e.pattern] = none → s.slotLow k = false) ∧
      ∀ r, s.mu.tables.fx[e.pattern] = some r →
        let list := if e.count.toNat % 2 = 0 then r.even.take r.evenCount else r.odd.take r.oddCount
        let flips := list.countP fun p => decide (p ≤ e.phase)
        (r.hush = true → s.lco.cueLive.getLsbD k = true → s.slotLow k = false) ∧
        (r.hush = false ∨ s.lco.cueLive.getLsbD k = false →
          (s.slotLow k = true ↔ (r.startLow = true ↔ flips % 2 = 0)))) ∧
  (∀ (s : State) (c : ChannelId) (l : Layer),
    (∀ k e, l.owner = some k → s.lco.effects[k] = some e → e.targets.getLsbD (channelGroup c) = true →
      s.slotLow k = true → s.depthAt c l = e.depth) ∧
    ((∀ k e, l.owner = some k → s.lco.effects[k] = some e → e.targets.getLsbD (channelGroup c) = true →
      s.slotLow k = false) → s.depthAt c l = 0)) ∧
  (∀ (s : State) (c : ChannelId) (ch : Channel),
    (ch.present = false → s.outputOf c ch = 65535) ∧
    (∀ l, ch.present = true → ch.indicator = some l → s.outputOf c ch = min l (min 65534 s.mu.tables.ceil[c])) ∧
    (ch.present = true → ch.indicator = none → (preEffect ch).2 = true → s.outputOf c ch = 65535) ∧
    (ch.present = true → ch.indicator = none → (preEffect ch).2 = false → s.outputOf c ch =
      min (masterStage (effectStage (preEffect ch).1 (s.depthAt c ch.layer)) s.lco.masters[channelZone c])
        (min 65534 s.mu.tables.ceil[c]))) ∧
  ∀ (s : State) (c : ChannelId),
    let ch := s.lco.channels[c]
    let l := ch.layer
    s.composed c = s.outputOf c { ch with layer := { l with
      pos := if (l.phase = .fading ∨ l.phase = .releasing) ∧ l.pos < l.len then l.pos + 1 else l.pos } }

/-- The fade factor, the captured level (the last-fresh level where the stale mark stands), the pre-effect level and its
stale mark by phase, and that a moving level lies between its ends. -/
def Obligations.PreEffectLevel : Prop :=
  (∀ p len : Nat, fadeFactor p len = if len = 0 then 65536 else p * 65536 / len) ∧
  ∀ ch : Channel,
    (capture ch = if (preEffect ch).2 = true then ch.lastFresh else (preEffect ch).1) ∧
    (ch.layer.phase = .idle → preEffect ch = (ch.base, ch.stale)) ∧
    (ch.layer.phase = .settled → preEffect ch = (ch.layer.toLevel, false)) ∧
    ((fadeFactor ch.layer.pos ch.layer.len ≤ 65536) →
      (ch.layer.phase = .fading →
        (preEffect ch).1 = (ch.layer.toLevel * fadeFactor ch.layer.pos ch.layer.len +
          ch.layer.fromLevel * (65536 - fadeFactor ch.layer.pos ch.layer.len) + 32768) / 65536 ∧
        (preEffect ch).2 = false ∧ min ch.layer.fromLevel ch.layer.toLevel ≤ (preEffect ch).1 ∧
        (preEffect ch).1 ≤ max ch.layer.fromLevel ch.layer.toLevel) ∧
      (ch.layer.phase = .releasing →
        (preEffect ch).1 = (ch.base * fadeFactor ch.layer.pos ch.layer.len +
          ch.layer.fromLevel * (65536 - fadeFactor ch.layer.pos ch.layer.len) + 32768) / 65536 ∧
        (preEffect ch).2 = (ch.stale && decide (0 < fadeFactor ch.layer.pos ch.layer.len)) ∧
        min ch.layer.fromLevel ch.base ≤ (preEffect ch).1 ∧ (preEffect ch).1 ≤ max ch.layer.fromLevel ch.base)) ∧
    (ch.layer.pos ≤ ch.layer.len → fadeFactor ch.layer.pos ch.layer.len ≤ 65536) ∧
    ∀ a b f : Nat, a ≤ 65534 → b ≤ 65534 → f ≤ 65536 →
      b * f + a * (65536 - f) + 32768 ≤ 65534 * 65536 + 32768 ∧
      b * f + a * (65536 - f) + 32768 < 65534 * 65536 + 65534 * 65536 + 32768 ∧
      65534 * 65536 + 65534 * 65536 + 32768 < 2 ^ 33

/-- The LCO's beat: the position of a FADING or RELEASING layer advances by 1 and the layer completes at its length, and
the phase of every effect advances by 1; nothing else of the LCO changes. A fade that reaches its length: FADING becomes
SETTLED, RELEASING becomes IDLE without owner. An effect that reaches its period returns to phase 0 and its period count
grows. That a row of a beat, given alone, is its item's own share of the beat is the model's choice (log entry 2), and
so are the levels that a layer made IDLE keeps (log entry 38). -/
def Obligations.FadesAndEffectsComplete : Prop :=
  (∀ (b : BeatIn) (s : State),
    let t := s.blockBeat b .lco
    (∀ c : ChannelId,
      let l := (s.lco.channels[c]).layer
      let moving := l.phase = .fading ∨ l.phase = .releasing
      let pos := if moving ∧ l.pos < l.len then l.pos + 1 else l.pos
      t.lco.channels[c] = { s.lco.channels[c] with
        layer := { l with
          pos
          phase := if moving ∧ pos = l.len then (if l.phase = .fading then .settled else .idle) else l.phase
          owner := if l.phase = .releasing ∧ pos = l.len then none else l.owner } }) ∧
    (∀ k : SlotId, (s.lco.effects[k] = none → t.lco.effects[k] = none) ∧
      ∀ (e : Effect) (r : FxRec), s.lco.effects[k] = some e → s.mu.tables.fx[e.pattern] = some r →
        (e.phase + 1 < r.period → t.lco.effects[k] = some { e with
          phase := e.phase + 1, lastLow := some (s.slotLow k) }) ∧
        (r.period ≤ e.phase + 1 → t.lco.effects[k] = some { e with
          phase := 0, count := e.count + 1, lastLow := some (s.slotLow k) })) ∧
    { t.lco with channels := s.lco.channels, effects := s.lco.effects } = s.lco ∧
    { t with lco := s.lco, ports := s.ports } = s) ∧
  (∀ (c : ChannelId) (s : State), (s.lco.channels[c]).layer.pos + 1 = (s.lco.channels[c]).layer.len →
    ((s.lco.channels[c]).layer.phase = .fading → exec (.fadeComplete c) s =
      .next (s.onLco fun x => { x with channels := modifyAt x.channels c fun ch =>
        { ch with layer := { ch.layer with phase := .settled, pos := ch.layer.len } } })) ∧
    ((s.lco.channels[c]).layer.phase = .releasing → exec (.fadeComplete c) s =
      .next (s.onLco fun x => { x with channels := modifyAt x.channels c fun ch =>
        { ch with layer := { ch.layer with phase := .idle, owner := none, pos := ch.layer.len } } }))) ∧
  ∀ (k : SlotId) (e : Effect) (r : FxRec) (s : State), s.lco.effects[k] = some e →
    s.mu.tables.fx[e.pattern] = some r → e.phase + 1 = r.period →
    exec (.effectPeriodWrap k) s = .next (s.onLco fun x => { x with effects := x.effects.set k (some { e with
      phase := 0, count := e.count + 1, lastLow := some (s.slotLow k) }) })

/-- On the NMX's beat the wait of every PENDING cue falls by 1, and nothing else of the NMX changes. A PENDING cue whose
wait runs out is FAILED and its slot is marked CUE-FAILED; a re-arm countdown that runs out clears the guarded mark.
That a row of a beat, given alone, is its item's own share of the beat is the model's choice (log entry 2). -/
def Obligations.CueWaitAndRearmExpire : Prop :=
  (∀ (b : BeatIn) (s : State),
    let t := s.blockBeat b .nmx
    let expires (k : SlotId) : Prop := ∃ c, s.nmx.cues[k] = some c ∧ c.state = .pending ∧ c.remaining ≤ 1
    (∀ k : SlotId, t.nmx.cues[k] = (s.nmx.cues[k]).map fun c =>
      if c.state = .pending then { c with
        remaining := c.remaining - 1, state := if c.remaining ≤ 1 then .failed else .pending }
      else c) ∧
    (∀ k : SlotId, (expires k → ∀ p, s.play k = some p → t.play k = some { p with marks := p.marks ||| 2 }) ∧
      (¬expires k → t.seq.slots[k] = s.seq.slots[k])) ∧
    t.seq.flags = s.seq.flags ∧ { t.nmx with cues := s.nmx.cues } = s.nmx ∧ { t with nmx := s.nmx, seq := s.seq } = s) ∧
  (∀ (k : SlotId) (c : Cue) (p : PlayRec) (s : State), s.nmx.cues[k] = some c → c.state = .pending → c.remaining = 1 →
    s.play k = some p →
    ∃ t, exec (.cueWaitExpiry k) s = .next t ∧ t.nmx.cues[k] = some { c with remaining := 0, state := .failed } ∧
      t.play k = some { p with marks := p.marks ||| 2 } ∧ { t with nmx := s.nmx, seq := s.seq } = s ∧
      (∀ j : SlotId, j ≠ k → t.play j = s.play j ∧ t.nmx.cues[j] = s.nmx.cues[j])) ∧
  ∀ (a : AxisId) (s : State), (s.mgt.axes[a]).rearm = 1 →
    ∃ t, exec (.rearmExpiry a) s = .next t ∧ (t.mgt.axes[a]).rearm = 0 ∧ (t.mgt.axes[a]).guarded = false ∧
      (t.mgt.axes[a]).pos = (s.mgt.axes[a]).pos ∧ (∀ b : AxisId, b ≠ a → t.mgt.axes[b] = s.mgt.axes[b]) ∧
      { t with mgt := s.mgt, seq := s.seq } = s

/-- The stopping distance is the sum of the steps down to rest, and vb(D) is the largest step that can stop within D. -/
def Obligations.StoppingDistance : Prop :=
  (∀ amax : Nat, 1 ≤ amax → stopDistance amax 0 = 0 ∧
    (∀ v : Nat, 0 < v → stopDistance amax v = v + stopDistance amax (v - amax)) ∧
    (∀ v w : Nat, v < w → stopDistance amax v < stopDistance amax w) ∧
    (∀ d v : Nat, stopDistance amax v ≤ d ↔ v ≤ brakeSpeed amax d) ∧ brakeSpeed amax 0 = 0) ∧
  (stopDistance 10 4 = 4 ∧ stopDistance 10 13 = 16 ∧ stopDistance 10 23 = 39 ∧ stopDistance 10 32 = 68 ∧
    stopDistance 10 37 = 88 ∧ stopDistance 10 40 = 100) ∧
  brakeSpeed 10 4 = 4 ∧ brakeSpeed 10 17 = 13 ∧ brakeSpeed 10 40 = 23 ∧ brakeSpeed 10 70 = 32 ∧
  brakeSpeed 10 90 = 37 ∧ brakeSpeed 10 100 = 40

/-- The MGT's beat. The mode is the first of the table of R112 whose cause holds, and the target follows mode, owner and
keyframe, clamped to the range; the keyframe target lies between its ends. The limiter finds the new step by the cases
and stages of R124: from a position in range that can still stop before the range's end, the new step differs by at most
amax, the new position is in range, and from it the axis can still stop before the range's end. On a beat the re-arm
countdown and the keyframe are counted, a DISABLED axis takes its reported position, and the mode is judged; an axis in
a mode that moves then steps and so keeps to its envelope, whatever its target, at no more than vmax, or vguard while it
parks, or 0 while its guard stops it, unless it is braking from a greater speed; in the other modes it stays at rest
where it is. That a mode judged before step 7 clears the reset-hold mark stands until the next judgement (log entry 42),
where a reported position waits for the beat (log entry 6), and that an ENV load which the MU completes on a beat before
the MGT takes it acts on that beat (log entry 53), are the model's choices. So are that POWER stands before CENSUS as
the cause of OFFLINE (log entry 31) and that a beat on which an axis is DISABLED or OFFLINE leaves no target of the last
beat (log entry 29). -/
def Obligations.LimiterKeepsRange : Prop :=
  let stops (e : EnvRec) (p v : Int) : Prop :=
    (0 < v → p + (stopDistance e.amax (v.natAbs - e.amax) : Nat) ≤ e.max) ∧
    (v < 0 → e.min ≤ p - (stopDistance e.amax (v.natAbs - e.amax) : Nat))
  (∀ (a : AxisId) (s : State),
    let x := s.mgt.axes[a]
    let e := s.mu.tables.env[a]
    let noEnvelope : Prop := e.enable = false
    let outOfRange : Prop := x.present = true ∧ ¬(e.min ≤ x.pos ∧ x.pos ≤ e.max)
    let power : Prop := s.mgt.powerFault.getLsbD (axisZone a) = true
    let census : Prop := x.present = false
    let held : Prop := s.mgt.showStopped = true ∨ x.resetHold = true ∨
      (s.axisOwner a = none ∧ (s.isFresh (.setpoint a) = false ∨ x.setpoint = -32768))
    (noEnvelope → s.modeOf a = .disabledNoEnvelope) ∧
    (¬noEnvelope → outOfRange → s.modeOf a = .disabledOutOfRange) ∧
    (¬noEnvelope → ¬outOfRange → power → s.modeOf a = .offlinePower) ∧
    (¬noEnvelope → ¬outOfRange → ¬power → census → s.modeOf a = .offlineCensus) ∧
    (¬noEnvelope → ¬outOfRange → ¬power → ¬census → x.guarded = true → s.modeOf a = .guarded) ∧
    (¬noEnvelope → ¬outOfRange → ¬power → ¬census → x.guarded = false → held → s.modeOf a = .holding) ∧
    (¬noEnvelope → ¬outOfRange → ¬power → ¬census → x.guarded = false → ¬held → s.modeOf a = .tracking)) ∧
  (∀ (a : AxisId) (s : State),
    let x := s.mgt.axes[a]
    let e := s.mu.tables.env[a]
    let toward (p : Int) : Target := .pos (max e.min (min e.max p))
    (x.mode = .guarded → s.targetOf a = if e.park then toward e.parkPos else .stop) ∧
    (x.mode = .holding → s.targetOf a = .stop) ∧
    (x.mode = .tracking → s.axisOwner a = none → s.targetOf a = toward x.setpoint) ∧
    (∀ k f, x.mode = .tracking → s.axisOwner a = some k → x.keyframe = some f → s.targetOf a = toward (keyTarget f)) ∧
    (∀ k p, x.mode = .tracking → s.axisOwner a = some k → x.keyframe = none → x.sceneTarget = some p →
      s.targetOf a = toward p)) ∧
  (∀ f : Keyframe,
    (f.travel ≤ f.elapsed → keyTarget f = f.target) ∧
    (f.elapsed < f.travel → keyTarget f = f.start + ((f.target - f.start) * f.elapsed).tdiv f.travel ∧
      min f.start f.target ≤ keyTarget f ∧ keyTarget f ≤ max f.start f.target)) ∧
  (∀ (e : EnvRec) (vmax : Nat) (p v : Int), newStep e vmax p v .stop = v.sign * (v.natAbs - e.amax : Nat) ∧
    ∀ t : Int,
      let ahead : Prop := (0 < v ∧ p < t) ∨ (v < 0 ∧ t < p)
      let dt := (t - p).natAbs
      let de := (if p ≤ t then e.max - p else p - e.min).toNat
      let one := min (min vmax (v.natAbs + e.amax)) (min (brakeSpeed e.amax dt) (brakeSpeed e.amax de))
      let two := max one (v.natAbs - e.amax)
      let three := if v.natAbs - e.amax ≤ min two dt then min two dt else two
      (v ≠ 0 → ¬ahead → newStep e vmax p v (.pos t) = v.sign * (v.natAbs - e.amax : Nat)) ∧
      (v = 0 ∨ ahead → newStep e vmax p v (.pos t) = (t - p).sign * (three : Nat))) ∧
  (∀ (e : EnvRec) (vmax : Nat) (p v : Int) (g : Target), 1 ≤ e.amax → inRange e p = true →
    (∀ t, g = .pos t → inRange e t = true) → stops e p v →
    let w := newStep e vmax p v g
    (w - v).natAbs ≤ e.amax ∧ inRange e (p + w) = true ∧
    (w.natAbs ≤ vmax ∨ w.natAbs ≤ v.natAbs - e.amax) ∧ stops e (p + w) w) ∧
  ∀ (b : BeatIn) (a : AxisId) (s : State),
    let e := s.mu.tables.env[a]
    let x := s.mgt.axes[a]
    let y := (s.blockBeat b .mgt).mgt.axes[a]
    let reported : Option Int := if (x.mode = .disabledNoEnvelope ∨ x.mode = .disabledOutOfRange) ∧ x.present = true ∧
      x.reply ≠ some (-32768) then x.reply else none
    let counted : Axis := { x with
      rearm := x.rearm - 1, guarded := x.guarded && decide (x.rearm ≠ 1)
      keyframe := x.keyframe.map fun f => { f with elapsed := if f.elapsed < f.travel then f.elapsed + 1 else f.elapsed }
      pos := reported.getD x.pos }
    let moves : Prop := y.mode = .guarded ∨ y.mode = .holding ∨ y.mode = .tracking
    let goal := (s.onAxis a fun _ => { counted with mode := y.mode }).targetOf a
    let speed := if y.mode = .guarded ∧ e.park = true then e.vguard else e.vmax
    let bound := if y.mode = .guarded ∧ e.park = false then 0 else speed
    y.mode = (s.onAxis a fun _ => counted).modeOf a ∧
    (moves → y = { counted with
        mode := y.mode, step := newStep e speed counted.pos x.step goal
        pos := counted.pos + newStep e speed counted.pos x.step goal, lastTarget := some goal
        resetHold := x.resetHold && decide (y.step ≠ 0) } ∧
      y.step.natAbs ≤ max bound (x.step.natAbs - e.amax)) ∧
    (¬moves → y = { counted with mode := y.mode, step := 0, lastTarget := none, resetHold := false }) ∧
    (1 ≤ e.amax → e.min ≤ e.max → (x.mode.isDisabled = false ∨ x.reply = none) →
      (y.mode.isSending = true → inRange e x.pos = true → stops e x.pos x.step →
        (y.step - x.step).natAbs ≤ e.amax ∧ y.pos = x.pos + y.step ∧ inRange e y.pos = true ∧ stops e y.pos y.step) ∧
      (y.mode.isSending = false → y.step = 0 ∧ y.pos = x.pos))

/-! ### Commands -/

/-- While the MU is LOADING or RESET-PENDING every addressed command, whatever its code and fields, is answered BUSY and
changes nothing; a broadcast SET-TIME, SET-HOUSE-MODE, STOP-SHOW or RESUME-SHOW is executed as in IDLE, and unanswered. -/
def Obligations.BusyUnlessIdle : Prop :=
  (∀ (b : BeatIn) (code : Byte) (c : Cmd) (s : State), s.isOwn c.addr → s.mu.st ≠ .idle →
    exec (commandRow b code c) s = .next ((s.record c.seq).reply code .busy c.tag [])) ∧
  ∀ (c : Cmd) (flagsFirst : Bool) (s : State), c.addr = 15 →
    (∀ m, c.fields = [BitVec.ofNat 8 (modeByte m)] → exec (.setHouseMode c flagsFirst) s =
      .next (((s.record c.seq).changeMode m flagsFirst).passOn (Cmd.frame c 10))) ∧
    (c.fields = [] → exec (.stopShow c) s = .next (((s.record c.seq).stopShow).passOn (Cmd.frame c 13)) ∧
      exec (.resumeShow c) s = .next (((s.record c.seq).resume.2).passOn (Cmd.frame c 14))) ∧
    (c.fields.length = 7 → (timeFields c.fields).inRange = true → exec (.setTime c) s =
      .next (((s.record c.seq).onSck (Sck.setTime (timeFields c.fields))).passOn (Cmd.frame c 6)))

/-- LOAD-TABLE at an IDLE MU: the first check that fails answers the command with its code and no table changes; a load
that passes all four makes the MU LOADING with the write count of its padded length. -/
def Obligations.LoadTableChecks : Prop :=
  ∀ (c : Cmd) (s : State), s.hears c → loadForm c.fields = true →
    let table := u8 c.fields 1
    let first := u16 c.fields 2
    let count := u16 c.fields 4
    let data := (c.fields.drop 10).take (u16 c.fields 6)
    let answered := fun (st : Status) (fields : List Byte) =>
      exec (.loadTable c) s = .next ((s.record c.seq).reply 1 st c.tag fields)
    (u8 c.fields 0 ≠ 0xC5 ∨ tableCapacity table = none → answered .badTable []) ∧
    (u8 c.fields 0 = 0xC5 → ∀ cap, tableCapacity table = some cap →
      (count = 0 ∨ cap < first + count → answered .badRange []) ∧
      (1 ≤ count → first + count ≤ cap →
        (u16 c.fields 8 ≠ (crc16 data).toNat → answered .badCheck []) ∧
        (u16 c.fields 8 = (crc16 data).toNat →
          (∀ i, checkLoad table s.mu.tables first count data = .error i → answered .badRecord (put16 i)) ∧
          (∀ recs, checkLoad table s.mu.tables first count data = .ok recs → exec (.loadTable c) s =
            .next { (s.record c.seq) with mu := { s.mu with st := .loading {
              tag := c.tag, table, first, recs
              writes := ((u16 c.fields 6 + 15) / 16 * 16 + 2047) / 2048 } } }))))

/-- The MU's beat lowers the write count of a load by 1 until the beat that completes it, and does nothing without a
load. A load's completion: a record in use, or a look pool that would overflow, refuses the whole load and changes no
table; otherwise every record is written at once. The MU becomes IDLE and the load is answered. The blocks take the new
records: ROUTE clamps the duck gains; ENV judges the guard and the mode of each axis written; LINE resets the lines
whose role, zone or active level changed and judges the zones that lose a PRESENCE line, which the guards of the axes
follow; TRIG and LINE have the indicators judged; ALRM arms the alarms written. That a row of a beat, given alone, is
its item's own share of the beat is the model's choice (log entry 2), and so is that a LINE record's zone byte counts
whatever its role (log entry 23). -/
def Obligations.LoadCompletes : Prop :=
  (∀ (b : BeatIn) (s : State),
    (s.mu.st = .idle ∨ s.mu.st = .resetPending → s.blockBeat b .mu = s) ∧
    ∀ l, s.mu.st = .loading l →
      (1 < l.writes → s.blockBeat b .mu =
        { s with mu := { s.mu with st := .loading { l with writes := l.writes - 1 } } }) ∧
      (l.writes ≤ 1 → exec .loadComplete s = .next (s.blockBeat b .mu))) ∧
  ∀ (l : Load) (s : State), s.mu.st = .loading l → l.writes ≤ 1 →
    (∀ i, s.firstInUse l.first l.recs = some i → exec .loadComplete s =
      .next (({ s with mu := { s.mu with st := .idle } } : State).reply 1 .inUse l.tag (put16 i))) ∧
    (s.firstInUse l.first l.recs = none → l.table = 6 → 4096 < pairsInUse (writeRecs s.mu.tables l.first l.recs) →
      exec .loadComplete s = .next (({ s with mu := { s.mu with st := .idle } } : State).reply 1 .noSpace l.tag [])) ∧
    (s.firstInUse l.first l.recs = none →
      (l.table = 6 → pairsInUse (writeRecs s.mu.tables l.first l.recs) ≤ 4096) →
      ∃ t : State, exec .loadComplete s = .next (t.reply 1 .done l.tag []) ∧ t.mu.st = .idle ∧
        t.mu.tables = writeRecs s.mu.tables l.first l.recs ∧
        (l.table ∈ [1, 3, 4, 6, 7, 8] → { t with mu := s.mu } = s) ∧
        (l.table = 2 → RouteTaken s t) ∧ (l.table = 5 → EnvTaken s t fun a => l.writesIndex a.val) ∧
        (l.table = 9 → LinesTaken s t) ∧ (l.table = 10 → TrigTaken s t) ∧
        (l.table = 11 → AlarmsTaken s t fun n => l.writesIndex n.val))

/-- READ-TABLE: a table id that names none is answered BAD-TABLE, and a count of 0 or a range beyond the capacity
BAD-RANGE. Otherwise the REPLY carries the named records as loaded, as many whole ones from the first on as fit in one
REPLY, all of them where they fit, with the number it carries. Reading changes nothing. -/
def Obligations.ReadTableReturnsRecords : Prop :=
  ∀ (c : Cmd) (table first count : Nat) (s : State), s.hears c →
    c.fields = put8 table ++ put16 first ++ put16 count → table < 256 → first < 65536 → count < 65536 →
    let capacity : Option Nat := match table with
      | 1 => some 1 | 2 => some 1 | 3 => some 768 | 4 => some 40 | 5 => some 32 | 6 => some 64
      | 7 => some 16 | 8 => some 48 | 9 => some 16 | 10 => some 32 | 11 => some 8 | _ => none
    let answered (st : Status) (fields : List Byte) : Prop :=
      exec (.readTable c) s = .next ((s.record c.seq).reply 2 st c.tag fields)
    (capacity = none → answered .badTable []) ∧
    ∀ cap, capacity = some cap →
      (count = 0 ∨ cap < first + count → answered .badRange []) ∧
      (1 ≤ count → first + count ≤ cap →
        ∃ recs : List TableRec, recs.length = count ∧
          (∀ j, j < count → readRec s.mu.tables table (first + j) = recs[j]?) ∧
          let size (n : Nat) : Nat := ((recs.take n).map fun r => (recBytes r).length).sum
          ∀ n, n ≤ count → size n ≤ 8183 → (n = count ∨ 8183 < size (n + 1)) →
            answered .done (put8 table ++ put16 first ++ put16 n ++ (recs.take n).flatMap recBytes))

/-- READ-TIME, READ-FLAGS and READ-STATUS answer with the state as it stands, READ-STATUS with the body of a STATUS byte
for byte. A command that an IDLE MU refuses for its form is answered BAD-COMMAND, with the code as received where the
code names none, and one with a field out of its range BAD-RANGE; a broadcast command so refused is answered by nothing
and passed on. None changes anything but the record of its frame and the queues of the link. The sequence number in the
image and the counter of free values are open (log entry 12); the readings of the layout, and that the image counts the
reports in the queue as those behind it, are the model's choices (log entries 24 and 50). -/
def Obligations.AnswersThatChangeNothing : Prop :=
  (∀ (b : BeatIn) (code : Byte) (c : Cmd) (s : State),
    let answered (st : Status) : State := (s.record c.seq).reply code st c.tag []
    (s.hears c →
      (¬commandForm code c.fields → exec (commandRow b code c) s = .next (answered .badCommand)) ∧
      (commandForm code c.fields → ¬commandInRange code c.fields →
        exec (commandRow b code c) s = .next (answered .badRange)) ∧
      ∀ st, { answered st with sli := s.sli } = s) ∧
    (c.addr = 15 → code.toNat ∈ [6, 10, 13, 14] → ¬commandForm code c.fields ∨ ¬commandInRange code c.fields →
      exec (commandRow b code c) s = .next ((s.record c.seq).passOn (Cmd.frame c code)))) ∧
  (∀ (code : Byte) (c : Cmd) (s : State), s.hears c →
    exec (.unknownCommand code c) s = .next ((s.record c.seq).reply code .badCommand c.tag [])) ∧
  ∀ (c : Cmd) (s : State), s.hears c → c.fields = [] →
    exec (.readTime c) s = .next ((s.record c.seq).reply 7 .done c.tag ([if s.sck.cal.running then 1 else 0] ++
      put8 s.sck.cal.year ++ put8 s.sck.cal.month ++ put8 s.sck.cal.day ++ put8 s.sck.cal.weekday ++
      put8 s.sck.cal.hour ++ put8 s.sck.cal.minute ++ put8 s.sck.cal.second ++ put8 s.sck.cal.beat)) ∧
    (∃ fields : List Byte, exec (.readFlags c) s = .next ((s.record c.seq).reply 17 .done c.tag fields) ∧
      fields.length = 4 ∧ ∀ f : Fin 32, (byteAt fields (f.val / 8)).getLsbD (f.val % 8) = s.seq.flags.getLsbD f) ∧
    ∃ (q : Half) (n : Nat), exec (.readStatus c) s = .next (({ (s.record c.seq) with free := n } : State).reply 3 .done
      c.tag ((s.record c.seq).statusBody q s.sli.ownQueue.length)) ∧
      StatusImage (s.record c.seq) q s.sli.ownQueue.length ((s.record c.seq).statusBody q s.sli.ownQueue.length)

/-- SET-TIME: fields in range are written, the beat-in-second is 0, the calendar is RUNNING and the match memory of the
alarms that did not fire last is cleared; a field out of range refuses the whole command. -/
def Obligations.SetTime : Prop :=
  ∀ (c : Cmd) (s : State), s.hears c → c.fields.length = 7 →
    ((timeFields c.fields).inRange = true →
      ∃ t : State, exec (.setTime c) s = .next (t.reply 6 .done c.tag []) ∧
        t.sck.cal = {
          running := true, year := u8 c.fields 0, month := u8 c.fields 1, day := u8 c.fields 2
          weekday := u8 c.fields 3, hour := u8 c.fields 4, minute := u8 c.fields 5, second := u8 c.fields 6
          beat := 0 } ∧
        (∀ n : AlarmId, t.sck.alarms[n] = if (s.sck.alarms[n]).fired then s.sck.alarms[n]
          else { s.sck.alarms[n] with matched := false }) ∧
        { t with sck := s.sck } = s.record c.seq ∧
        { t.sck with cal := s.sck.cal, alarms := s.sck.alarms } = s.sck) ∧
    ((timeFields c.fields).inRange = false →
      exec (.setTime c) s = .next ((s.record c.seq).reply 6 .badRange c.tag []))

/-- SET-TRIM writes T and clears the accumulator; SET-BEAT-SOURCE enters FOLLOWING, or computes a new trimmed length;
naming the source in force changes nothing. A change to INTERNAL whose interval count has reached the new length is a beat
at once, and the next interval is computed; that the REPLY joins before that beat is the model's choice (log entry 16), and
the order within the beat comes with it (the model's form: log entry 4). -/
def Obligations.TrimAndBeatSource : Prop :=
  ∀ (c : Cmd) (b : BeatIn) (s : State), s.hears c →
    (∀ x : Byte, c.fields = [x] → -100 ≤ x.toInt → x.toInt ≤ 100 → exec (.setTrim c) s =
      .next (({ (s.record c.seq) with sck := { s.sck with trim := x.toInt, acc := 0 } } : State).reply 8 .done c.tag [])) ∧
    (c.fields = [1] → s.sck.source = .internal → exec (.setBeatSource c b) s = .next ({ (s.record c.seq) with
      sck := { s.sck with source := .following, miss := 0, hit := 0 } }.reply 9 .done c.tag [])) ∧
    (c.fields = [1] → s.sck.source ≠ .internal →
      exec (.setBeatSource c b) s = .next ((s.record c.seq).reply 9 .done c.tag [])) ∧
    (c.fields = [0] → s.sck.source = .internal →
      exec (.setBeatSource c b) s = .next ((s.record c.seq).reply 9 .done c.tag [])) ∧
    (c.fields = [0] → s.sck.source ≠ .internal →
      (s.sck.interval : Int) < 100000 - (s.sck.acc + s.sck.trim).tdiv 10 →
      exec (.setBeatSource c b) s = .next (({ (s.record c.seq) with sck := { s.sck with
        source := .internal, intervalLen := (100000 - (s.sck.acc + s.sck.trim).tdiv 10).toNat
        acc := s.sck.acc + s.sck.trim - 10 * (s.sck.acc + s.sck.trim).tdiv 10 } } : State).reply 9 .done c.tag [])) ∧
    (c.fields = [0] → s.sck.source ≠ .internal → orderOk b.order = true →
      let a := s.sck.acc + s.sck.trim
      let a' := a - 10 * a.tdiv 10 + s.sck.trim
      100000 - a.tdiv 10 ≤ (s.sck.interval : Int) →
      exec (.setBeatSource c b) s = .next (b.order.foldl (State.blockBeat b) (({ (s.record c.seq) with sck := { s.sck with
        source := .internal, interval := 0, intervalLen := (100000 - a'.tdiv 10).toNat
        acc := a' - 10 * a'.tdiv 10 } } : State).reply 9 .done c.tag [])))

/-- SET-HOUSE-MODE: a new mode reaches the SCK, the IOU and the ARB, whose queue keeps only requests that the mode
admits; entering OPEN with the setting on clears the story flags, and any other change keeps them; the mode in force is
no change. Whether the SEQ clears the flags before the ARB walks or after comes with the row (the model's form: log
entry 4): after it every flag is clear, and before it the walk finds them clear. That the IOU and the ARB take the
change in one event is the model's choice (log entry 56). -/
def Obligations.SetHouseMode : Prop :=
  ∀ (c : Cmd) (m : HouseMode) (flagsFirst : Bool) (s : State), s.hears c → c.fields = [BitVec.ofNat 8 (modeByte m)] →
    (s.sck.mode = m → exec (.setHouseMode c flagsFirst) s = .next ((s.record c.seq).reply 10 .done c.tag [])) ∧
    (s.sck.mode ≠ m →
      ∃ t : State, exec (.setHouseMode c flagsFirst) s = .next (t.reply 10 .done c.tag []) ∧ t.sck.mode = m ∧
        t.iou.mode = m ∧ t.arb.mode = m ∧ (∀ r ∈ t.arb.queue, r ∈ s.arb.queue ∧ admits m r.source = true) ∧
        (m = .opened → s.mu.tables.unit.openClears = true → flagsFirst = false ∨ s.arb.queue = [] → t.seq.flags = 0) ∧
        (m = .opened → s.mu.tables.unit.openClears = true → flagsFirst = true →
          exec (.setHouseMode c flagsFirst) s =
            exec (.setHouseMode c flagsFirst) { s with seq := { s.seq with flags := 0 } }) ∧
        (m ≠ .opened ∨ s.mu.tables.unit.openClears = false → s.arb.queue = [] → t.seq.flags = s.seq.flags) ∧
        (s.arb.queue = [] → t.nmx = s.nmx ∧ t.mgt = s.mgt ∧ ∀ k : SlotId, t.play k = s.play k) ∧ t.mu = s.mu ∧
        t.iou.lines = s.iou.lines ∧ t.iou.zones = s.iou.zones ∧ t.ports = s.ports)

/-- SET-FLAGS sets and CLEAR-FLAGS clears every flag named in the set and leaves the others. -/
def Obligations.FlagCommands : Prop :=
  ∀ (c : Cmd) (s : State), s.hears c → c.fields.length = 4 →
    (∃ flags : BitVec 32, exec (.setFlags c) s =
        .next (({ (s.record c.seq) with seq := { s.seq with flags } } : State).reply 15 .done c.tag []) ∧
      ∀ f : Fin 32, flags.getLsbD f = (s.seq.flags.getLsbD f || (byteAt c.fields (f.val / 8)).getLsbD (f.val % 8))) ∧
    ∃ flags : BitVec 32, exec (.clearFlags c) s =
        .next (({ (s.record c.seq) with seq := { s.seq with flags } } : State).reply 16 .done c.tag []) ∧
      ∀ f : Fin 32, flags.getLsbD f = (s.seq.flags.getLsbD f && !(byteAt c.fields (f.val / 8)).getLsbD (f.val % 8))

/-- FIRE-TRIGGER, accepted in OPEN or CLOSED with the show RUNNING, is acted on by the entry's behaviour while its scene
plays (a restart returns the slot to position 0 with all its plays, begins segment 0 with its parts, and leaves the
slot's claims, source and priority, the claim table and the queue as they are), does nothing while it is queued, and
makes a request otherwise; a request answered INELIGIBLE is made again for the alternate, unless there is none or it is
playing or queued, and then that answer is the REPLY. It is refused in SERVICE and for an EMPTY entry. That the firing,
its answer and the request for the alternate are one event (log entry 60) and that STOPPED is judged before NOT-READY
(log entry 27) are the model's choices. -/
def Obligations.FireTrigger : Prop :=
  ∀ (c : Cmd) (n : LineId) (s : State), s.hears c → c.fields = [BitVec.ofNat 8 n.val] →
    (s.iou.showStopped = true → exec (.fireTrigger c) s = .next ((s.record c.seq).reply 18 .stopped c.tag [])) ∧
    (s.iou.showStopped = false → s.iou.mode = .service ∨ s.mu.tables.trig[virtualEntry n] = none →
      exec (.fireTrigger c) s = .next ((s.record c.seq).reply 18 .notReady c.tag [])) ∧
    (∀ e : TrigRec, s.iou.showStopped = false → s.iou.mode ≠ .service → s.mu.tables.trig[virtualEntry n] = some e →
      (∀ k : SlotId, s.playingSlot e.scene = some k →
        (e.behaviour = .ignore → exec (.fireTrigger c) s = .next ((s.record c.seq).reply 18 .done c.tag [])) ∧
        (e.behaviour = .restart → ∃ t p, exec (.fireTrigger c) s = .next (t.reply 18 .done c.tag []) ∧
          t = (s.record c.seq).restartSlot k ∧ s.play k = some p ∧ p.scene = e.scene ∧ t.sli.lastTaken = c.seq ∧
          t.arb = s.arb ∧ t.iou = s.iou ∧ t.sck = s.sck ∧ t.mu = s.mu ∧ t.ports = s.ports ∧
          (∀ j : SlotId, j ≠ k → t.seq.slots[j] = s.seq.slots[j] ∧ t.lco.effects[j] = s.lco.effects[j] ∧
            t.nmx.cues[j] = s.nmx.cues[j]) ∧
          ∀ sc g, s.scene e.scene = some sc → sc.segments[0]? = some g →
            ∃ q, t.play k = some q ∧
              q = { p with position := 0, segment := 0, plays := sc.repeats, marks := q.marks } ∧
              PartsHanded k p sc g s t q) ∧
        (e.behaviour = .stop →
          exec (.fireTrigger c) s = .next (((s.record c.seq).endAndWalk k .stopped).reply 18 .done c.tag []))) ∧
      (s.playingSlot e.scene = none → s.isQueued e.scene = true →
        exec (.fireTrigger c) s = .next ((s.record c.seq).reply 18 .done c.tag [])) ∧
      (s.playingSlot e.scene = none → s.isQueued e.scene = false →
        ∀ ans t, (s.record c.seq).request e.scene (.virtual n) none none = (ans, t) →
        (ans ≠ .refused .ineligible →
          exec (.fireTrigger c) s = .next (t.reply 18 ans.outcome.result.1 c.tag [])) ∧
        (ans = .refused .ineligible →
          (e.alternate = none ∨ (∃ a, e.alternate = some a ∧ t.isBusy a = true) →
            exec (.fireTrigger c) s = .next (t.reply 18 .ineligible c.tag [])) ∧
          ∀ a ans' t', e.alternate = some a → t.isBusy a = false → t.request a (.virtual n) none none = (ans', t') →
            exec (.fireTrigger c) s = .next (t'.reply 18 ans'.outcome.result.1 c.tag []))))

/-- CLEAR-NOTICES clears each named notice with what it carries, POWER-FAULT for the named zones, and no other. -/
def Obligations.ClearNotices : Prop :=
  ∀ (c : Cmd) (set zones : Byte) (s : State), s.hears c → c.fields = [set, zones] → set.toNat < 128 →
    zones.toNat < 16 →
    ∃ t : State, exec (.clearNotices c) s = .next (t.reply 19 .done c.tag []) ∧
      t.sli.linkError = (s.sli.linkError && !set.getLsbD 0) ∧
      t.sli.linkCauses = (if set.getLsbD 0 then 0 else s.sli.linkCauses) ∧
      t.sli.linkSides = (if set.getLsbD 0 then 0 else s.sli.linkSides) ∧
      t.sli.thruOverrun = (s.sli.thruOverrun && !set.getLsbD 1) ∧
      t.sli.reportOverrun = (s.sli.reportOverrun && !set.getLsbD 2) ∧
      t.sli.queueFull = (s.sli.queueFull && !set.getLsbD 3) ∧
      t.sli.lineStuck = (s.sli.lineStuck && !set.getLsbD 4) ∧
      t.sli.stuckLines = (if set.getLsbD 4 then 0 else s.sli.stuckLines) ∧
      t.sli.alarm = (s.sli.alarm && !set.getLsbD 5) ∧
      t.sli.alarmNumbers = (if set.getLsbD 5 then 0 else s.sli.alarmNumbers) ∧
      (∀ z : ZoneId, t.sli.powerFault.getLsbD z =
        (s.sli.powerFault.getLsbD z && !(set.getLsbD 6 && zones.getLsbD z.val))) ∧
      t.sli.ownQueue = s.sli.ownQueue ∧ t.sli.sources = s.sli.sources ∧ t.sli.badFrames = s.sli.badFrames ∧
      { t with sli := s.sli } = s

/-- RESET is answered DONE and makes the MU RESET-PENDING; when the REPLY finds the queue full the soft reset takes effect
at once. -/
def Obligations.ResetCommand : Prop :=
  ∀ (c : Cmd) (stop : Bool) (s : State), s.hears c → c.fields = [] →
    (s.sli.ownQueue.length < 32 → exec (.reset c stop) s =
      .next (({ (s.record c.seq) with mu := { s.mu with st := .resetPending } } : State).reply 20 .done c.tag [])) ∧
    (32 ≤ s.sli.ownQueue.length →
      ∃ t, exec (.reset c stop) s = .next t ∧ t.mu = { s.mu with st := .idle } ∧ t.sli.ownQueue = [.status] ∧
        t.sli.reportOverrun = true ∧ t.seq.flags = 0 ∧ (∀ k : SlotId, t.play k = none) ∧ t.arb.queue = [] ∧
        t.arb.nextNumber = s.arb.nextNumber)

/-! ### The census -/

/-- Every step keeps the law of the ADMITTED records: each lies in its zone's capacity for its class, and no two of one
class drive the same local number. -/
def Obligations.CensusLawKept : Prop := ∀ s t : State, CensusLaw s → step s = .next t → CensusLaw t
end

