-- ==== Sys2Proof/Laws/State.lean ====
section
/-! SUPPORT. What each update of one block's part leaves in each field of State: one lemma per field per update, true by
`rfl`, so that no later proof unfolds a record update. -/

namespace Sys2Proof.Machine

/-! ### onSli -/

@[simp] theorem State.onSli_sli (f : Sli → Sli) (s : State) : (s.onSli f).sli = f s.sli := rfl
@[simp] theorem State.onSli_mu (f : Sli → Sli) (s : State) : (s.onSli f).mu = s.mu := rfl
@[simp] theorem State.onSli_sck (f : Sli → Sli) (s : State) : (s.onSli f).sck = s.sck := rfl
@[simp] theorem State.onSli_iou (f : Sli → Sli) (s : State) : (s.onSli f).iou = s.iou := rfl
@[simp] theorem State.onSli_arb (f : Sli → Sli) (s : State) : (s.onSli f).arb = s.arb := rfl
@[simp] theorem State.onSli_seq (f : Sli → Sli) (s : State) : (s.onSli f).seq = s.seq := rfl
@[simp] theorem State.onSli_lco (f : Sli → Sli) (s : State) : (s.onSli f).lco = s.lco := rfl
@[simp] theorem State.onSli_nmx (f : Sli → Sli) (s : State) : (s.onSli f).nmx = s.nmx := rfl
@[simp] theorem State.onSli_mgt (f : Sli → Sli) (s : State) : (s.onSli f).mgt = s.mgt := rfl
@[simp] theorem State.onSli_ports (f : Sli → Sli) (s : State) : (s.onSli f).ports = s.ports := rfl
@[simp] theorem State.onSli_free (f : Sli → Sli) (s : State) : (s.onSli f).free = s.free := rfl
@[simp] theorem State.onSli_pending (f : Sli → Sli) (s : State) : (s.onSli f).pending = s.pending := rfl

/-! ### onMu -/

@[simp] theorem State.onMu_sli (f : Mu → Mu) (s : State) : (s.onMu f).sli = s.sli := rfl
@[simp] theorem State.onMu_mu (f : Mu → Mu) (s : State) : (s.onMu f).mu = f s.mu := rfl
@[simp] theorem State.onMu_sck (f : Mu → Mu) (s : State) : (s.onMu f).sck = s.sck := rfl
@[simp] theorem State.onMu_iou (f : Mu → Mu) (s : State) : (s.onMu f).iou = s.iou := rfl
@[simp] theorem State.onMu_arb (f : Mu → Mu) (s : State) : (s.onMu f).arb = s.arb := rfl
@[simp] theorem State.onMu_seq (f : Mu → Mu) (s : State) : (s.onMu f).seq = s.seq := rfl
@[simp] theorem State.onMu_lco (f : Mu → Mu) (s : State) : (s.onMu f).lco = s.lco := rfl
@[simp] theorem State.onMu_nmx (f : Mu → Mu) (s : State) : (s.onMu f).nmx = s.nmx := rfl
@[simp] theorem State.onMu_mgt (f : Mu → Mu) (s : State) : (s.onMu f).mgt = s.mgt := rfl
@[simp] theorem State.onMu_ports (f : Mu → Mu) (s : State) : (s.onMu f).ports = s.ports := rfl
@[simp] theorem State.onMu_free (f : Mu → Mu) (s : State) : (s.onMu f).free = s.free := rfl
@[simp] theorem State.onMu_pending (f : Mu → Mu) (s : State) : (s.onMu f).pending = s.pending := rfl

/-! ### onSck -/

@[simp] theorem State.onSck_sli (f : Sck → Sck) (s : State) : (s.onSck f).sli = s.sli := rfl
@[simp] theorem State.onSck_mu (f : Sck → Sck) (s : State) : (s.onSck f).mu = s.mu := rfl
@[simp] theorem State.onSck_sck (f : Sck → Sck) (s : State) : (s.onSck f).sck = f s.sck := rfl
@[simp] theorem State.onSck_iou (f : Sck → Sck) (s : State) : (s.onSck f).iou = s.iou := rfl
@[simp] theorem State.onSck_arb (f : Sck → Sck) (s : State) : (s.onSck f).arb = s.arb := rfl
@[simp] theorem State.onSck_seq (f : Sck → Sck) (s : State) : (s.onSck f).seq = s.seq := rfl
@[simp] theorem State.onSck_lco (f : Sck → Sck) (s : State) : (s.onSck f).lco = s.lco := rfl
@[simp] theorem State.onSck_nmx (f : Sck → Sck) (s : State) : (s.onSck f).nmx = s.nmx := rfl
@[simp] theorem State.onSck_mgt (f : Sck → Sck) (s : State) : (s.onSck f).mgt = s.mgt := rfl
@[simp] theorem State.onSck_ports (f : Sck → Sck) (s : State) : (s.onSck f).ports = s.ports := rfl
@[simp] theorem State.onSck_free (f : Sck → Sck) (s : State) : (s.onSck f).free = s.free := rfl
@[simp] theorem State.onSck_pending (f : Sck → Sck) (s : State) : (s.onSck f).pending = s.pending := rfl

/-! ### onIou -/

@[simp] theorem State.onIou_sli (f : Iou → Iou) (s : State) : (s.onIou f).sli = s.sli := rfl
@[simp] theorem State.onIou_mu (f : Iou → Iou) (s : State) : (s.onIou f).mu = s.mu := rfl
@[simp] theorem State.onIou_sck (f : Iou → Iou) (s : State) : (s.onIou f).sck = s.sck := rfl
@[simp] theorem State.onIou_iou (f : Iou → Iou) (s : State) : (s.onIou f).iou = f s.iou := rfl
@[simp] theorem State.onIou_arb (f : Iou → Iou) (s : State) : (s.onIou f).arb = s.arb := rfl
@[simp] theorem State.onIou_seq (f : Iou → Iou) (s : State) : (s.onIou f).seq = s.seq := rfl
@[simp] theorem State.onIou_lco (f : Iou → Iou) (s : State) : (s.onIou f).lco = s.lco := rfl
@[simp] theorem State.onIou_nmx (f : Iou → Iou) (s : State) : (s.onIou f).nmx = s.nmx := rfl
@[simp] theorem State.onIou_mgt (f : Iou → Iou) (s : State) : (s.onIou f).mgt = s.mgt := rfl
@[simp] theorem State.onIou_ports (f : Iou → Iou) (s : State) : (s.onIou f).ports = s.ports := rfl
@[simp] theorem State.onIou_free (f : Iou → Iou) (s : State) : (s.onIou f).free = s.free := rfl
@[simp] theorem State.onIou_pending (f : Iou → Iou) (s : State) : (s.onIou f).pending = s.pending := rfl

/-! ### onArb -/

@[simp] theorem State.onArb_sli (f : Arb → Arb) (s : State) : (s.onArb f).sli = s.sli := rfl
@[simp] theorem State.onArb_mu (f : Arb → Arb) (s : State) : (s.onArb f).mu = s.mu := rfl
@[simp] theorem State.onArb_sck (f : Arb → Arb) (s : State) : (s.onArb f).sck = s.sck := rfl
@[simp] theorem State.onArb_iou (f : Arb → Arb) (s : State) : (s.onArb f).iou = s.iou := rfl
@[simp] theorem State.onArb_arb (f : Arb → Arb) (s : State) : (s.onArb f).arb = f s.arb := rfl
@[simp] theorem State.onArb_seq (f : Arb → Arb) (s : State) : (s.onArb f).seq = s.seq := rfl
@[simp] theorem State.onArb_lco (f : Arb → Arb) (s : State) : (s.onArb f).lco = s.lco := rfl
@[simp] theorem State.onArb_nmx (f : Arb → Arb) (s : State) : (s.onArb f).nmx = s.nmx := rfl
@[simp] theorem State.onArb_mgt (f : Arb → Arb) (s : State) : (s.onArb f).mgt = s.mgt := rfl
@[simp] theorem State.onArb_ports (f : Arb → Arb) (s : State) : (s.onArb f).ports = s.ports := rfl
@[simp] theorem State.onArb_free (f : Arb → Arb) (s : State) : (s.onArb f).free = s.free := rfl
@[simp] theorem State.onArb_pending (f : Arb → Arb) (s : State) : (s.onArb f).pending = s.pending := rfl

/-! ### onSeq -/

@[simp] theorem State.onSeq_sli (f : Seq → Seq) (s : State) : (s.onSeq f).sli = s.sli := rfl
@[simp] theorem State.onSeq_mu (f : Seq → Seq) (s : State) : (s.onSeq f).mu = s.mu := rfl
@[simp] theorem State.onSeq_sck (f : Seq → Seq) (s : State) : (s.onSeq f).sck = s.sck := rfl
@[simp] theorem State.onSeq_iou (f : Seq → Seq) (s : State) : (s.onSeq f).iou = s.iou := rfl
@[simp] theorem State.onSeq_arb (f : Seq → Seq) (s : State) : (s.onSeq f).arb = s.arb := rfl
@[simp] theorem State.onSeq_seq (f : Seq → Seq) (s : State) : (s.onSeq f).seq = f s.seq := rfl
@[simp] theorem State.onSeq_lco (f : Seq → Seq) (s : State) : (s.onSeq f).lco = s.lco := rfl
@[simp] theorem State.onSeq_nmx (f : Seq → Seq) (s : State) : (s.onSeq f).nmx = s.nmx := rfl
@[simp] theorem State.onSeq_mgt (f : Seq → Seq) (s : State) : (s.onSeq f).mgt = s.mgt := rfl
@[simp] theorem State.onSeq_ports (f : Seq → Seq) (s : State) : (s.onSeq f).ports = s.ports := rfl
@[simp] theorem State.onSeq_free (f : Seq → Seq) (s : State) : (s.onSeq f).free = s.free := rfl
@[simp] theorem State.onSeq_pending (f : Seq → Seq) (s : State) : (s.onSeq f).pending = s.pending := rfl

/-! ### onLco -/

@[simp] theorem State.onLco_sli (f : Lco → Lco) (s : State) : (s.onLco f).sli = s.sli := rfl
@[simp] theorem State.onLco_mu (f : Lco → Lco) (s : State) : (s.onLco f).mu = s.mu := rfl
@[simp] theorem State.onLco_sck (f : Lco → Lco) (s : State) : (s.onLco f).sck = s.sck := rfl
@[simp] theorem State.onLco_iou (f : Lco → Lco) (s : State) : (s.onLco f).iou = s.iou := rfl
@[simp] theorem State.onLco_arb (f : Lco → Lco) (s : State) : (s.onLco f).arb = s.arb := rfl
@[simp] theorem State.onLco_seq (f : Lco → Lco) (s : State) : (s.onLco f).seq = s.seq := rfl
@[simp] theorem State.onLco_lco (f : Lco → Lco) (s : State) : (s.onLco f).lco = f s.lco := rfl
@[simp] theorem State.onLco_nmx (f : Lco → Lco) (s : State) : (s.onLco f).nmx = s.nmx := rfl
@[simp] theorem State.onLco_mgt (f : Lco → Lco) (s : State) : (s.onLco f).mgt = s.mgt := rfl
@[simp] theorem State.onLco_ports (f : Lco → Lco) (s : State) : (s.onLco f).ports = s.ports := rfl
@[simp] theorem State.onLco_free (f : Lco → Lco) (s : State) : (s.onLco f).free = s.free := rfl
@[simp] theorem State.onLco_pending (f : Lco → Lco) (s : State) : (s.onLco f).pending = s.pending := rfl

/-! ### onNmx -/

@[simp] theorem State.onNmx_sli (f : Nmx → Nmx) (s : State) : (s.onNmx f).sli = s.sli := rfl
@[simp] theorem State.onNmx_mu (f : Nmx → Nmx) (s : State) : (s.onNmx f).mu = s.mu := rfl
@[simp] theorem State.onNmx_sck (f : Nmx → Nmx) (s : State) : (s.onNmx f).sck = s.sck := rfl
@[simp] theorem State.onNmx_iou (f : Nmx → Nmx) (s : State) : (s.onNmx f).iou = s.iou := rfl
@[simp] theorem State.onNmx_arb (f : Nmx → Nmx) (s : State) : (s.onNmx f).arb = s.arb := rfl
@[simp] theorem State.onNmx_seq (f : Nmx → Nmx) (s : State) : (s.onNmx f).seq = s.seq := rfl
@[simp] theorem State.onNmx_lco (f : Nmx → Nmx) (s : State) : (s.onNmx f).lco = s.lco := rfl
@[simp] theorem State.onNmx_nmx (f : Nmx → Nmx) (s : State) : (s.onNmx f).nmx = f s.nmx := rfl
@[simp] theorem State.onNmx_mgt (f : Nmx → Nmx) (s : State) : (s.onNmx f).mgt = s.mgt := rfl
@[simp] theorem State.onNmx_ports (f : Nmx → Nmx) (s : State) : (s.onNmx f).ports = s.ports := rfl
@[simp] theorem State.onNmx_free (f : Nmx → Nmx) (s : State) : (s.onNmx f).free = s.free := rfl
@[simp] theorem State.onNmx_pending (f : Nmx → Nmx) (s : State) : (s.onNmx f).pending = s.pending := rfl

/-! ### onMgt -/

@[simp] theorem State.onMgt_sli (f : Mgt → Mgt) (s : State) : (s.onMgt f).sli = s.sli := rfl
@[simp] theorem State.onMgt_mu (f : Mgt → Mgt) (s : State) : (s.onMgt f).mu = s.mu := rfl
@[simp] theorem State.onMgt_sck (f : Mgt → Mgt) (s : State) : (s.onMgt f).sck = s.sck := rfl
@[simp] theorem State.onMgt_iou (f : Mgt → Mgt) (s : State) : (s.onMgt f).iou = s.iou := rfl
@[simp] theorem State.onMgt_arb (f : Mgt → Mgt) (s : State) : (s.onMgt f).arb = s.arb := rfl
@[simp] theorem State.onMgt_seq (f : Mgt → Mgt) (s : State) : (s.onMgt f).seq = s.seq := rfl
@[simp] theorem State.onMgt_lco (f : Mgt → Mgt) (s : State) : (s.onMgt f).lco = s.lco := rfl
@[simp] theorem State.onMgt_nmx (f : Mgt → Mgt) (s : State) : (s.onMgt f).nmx = s.nmx := rfl
@[simp] theorem State.onMgt_mgt (f : Mgt → Mgt) (s : State) : (s.onMgt f).mgt = f s.mgt := rfl
@[simp] theorem State.onMgt_ports (f : Mgt → Mgt) (s : State) : (s.onMgt f).ports = s.ports := rfl
@[simp] theorem State.onMgt_free (f : Mgt → Mgt) (s : State) : (s.onMgt f).free = s.free := rfl
@[simp] theorem State.onMgt_pending (f : Mgt → Mgt) (s : State) : (s.onMgt f).pending = s.pending := rfl

/-! ### onPort -/

@[simp] theorem State.onPort_sli (z : ZoneId) (f : Port → Port) (s : State) : (s.onPort z f).sli = s.sli := rfl
@[simp] theorem State.onPort_mu (z : ZoneId) (f : Port → Port) (s : State) : (s.onPort z f).mu = s.mu := rfl
@[simp] theorem State.onPort_sck (z : ZoneId) (f : Port → Port) (s : State) : (s.onPort z f).sck = s.sck := rfl
@[simp] theorem State.onPort_iou (z : ZoneId) (f : Port → Port) (s : State) : (s.onPort z f).iou = s.iou := rfl
@[simp] theorem State.onPort_arb (z : ZoneId) (f : Port → Port) (s : State) : (s.onPort z f).arb = s.arb := rfl
@[simp] theorem State.onPort_seq (z : ZoneId) (f : Port → Port) (s : State) : (s.onPort z f).seq = s.seq := rfl
@[simp] theorem State.onPort_lco (z : ZoneId) (f : Port → Port) (s : State) : (s.onPort z f).lco = s.lco := rfl
@[simp] theorem State.onPort_nmx (z : ZoneId) (f : Port → Port) (s : State) : (s.onPort z f).nmx = s.nmx := rfl
@[simp] theorem State.onPort_mgt (z : ZoneId) (f : Port → Port) (s : State) : (s.onPort z f).mgt = s.mgt := rfl
@[simp] theorem State.onPort_ports (z : ZoneId) (f : Port → Port) (s : State) :
    (s.onPort z f).ports = s.ports.set z (f s.ports[z]) := rfl
@[simp] theorem State.onPort_free (z : ZoneId) (f : Port → Port) (s : State) : (s.onPort z f).free = s.free := rfl
@[simp] theorem State.onPort_pending (z : ZoneId) (f : Port → Port) (s : State) : (s.onPort z f).pending = s.pending := rfl

/-! ### nextFree -/

@[simp] theorem State.nextFree_sli (s : State) : s.nextFree.sli = s.sli := rfl
@[simp] theorem State.nextFree_mu (s : State) : s.nextFree.mu = s.mu := rfl
@[simp] theorem State.nextFree_sck (s : State) : s.nextFree.sck = s.sck := rfl
@[simp] theorem State.nextFree_iou (s : State) : s.nextFree.iou = s.iou := rfl
@[simp] theorem State.nextFree_arb (s : State) : s.nextFree.arb = s.arb := rfl
@[simp] theorem State.nextFree_seq (s : State) : s.nextFree.seq = s.seq := rfl
@[simp] theorem State.nextFree_lco (s : State) : s.nextFree.lco = s.lco := rfl
@[simp] theorem State.nextFree_nmx (s : State) : s.nextFree.nmx = s.nmx := rfl
@[simp] theorem State.nextFree_mgt (s : State) : s.nextFree.mgt = s.mgt := rfl
@[simp] theorem State.nextFree_ports (s : State) : s.nextFree.ports = s.ports := rfl
@[simp] theorem State.nextFree_free (s : State) : s.nextFree.free = s.free + 1 := rfl
@[simp] theorem State.nextFree_pending (s : State) : s.nextFree.pending = s.pending := rfl

/-! ### record -/

@[simp] theorem State.record_sli (q : Half) (s : State) : (State.record q s).sli = { s.sli with lastTaken := q } := rfl
@[simp] theorem State.record_mu (q : Half) (s : State) : (State.record q s).mu = s.mu := rfl
@[simp] theorem State.record_sck (q : Half) (s : State) : (State.record q s).sck = s.sck := rfl
@[simp] theorem State.record_iou (q : Half) (s : State) : (State.record q s).iou = s.iou := rfl
@[simp] theorem State.record_arb (q : Half) (s : State) : (State.record q s).arb = s.arb := rfl
@[simp] theorem State.record_seq (q : Half) (s : State) : (State.record q s).seq = s.seq := rfl
@[simp] theorem State.record_lco (q : Half) (s : State) : (State.record q s).lco = s.lco := rfl
@[simp] theorem State.record_nmx (q : Half) (s : State) : (State.record q s).nmx = s.nmx := rfl
@[simp] theorem State.record_mgt (q : Half) (s : State) : (State.record q s).mgt = s.mgt := rfl
@[simp] theorem State.record_ports (q : Half) (s : State) : (State.record q s).ports = s.ports := rfl
@[simp] theorem State.record_free (q : Half) (s : State) : (State.record q s).free = s.free := rfl
@[simp] theorem State.record_pending (q : Half) (s : State) : (State.record q s).pending = s.pending := rfl

/-! ### Elements of a vector -/

/-- The port of the zone changed. -/
theorem State.onPort_same (z : ZoneId) (f : Port → Port) (s : State) : (s.onPort z f).ports[z] = f s.ports[z] := by
  simp [State.onPort]

/-- The ports of the other zones. -/
theorem State.onPort_other {z y : ZoneId} (h : y ≠ z) (f : Port → Port) (s : State) :
    (s.onPort z f).ports[y] = s.ports[y] := by
  simp only [State.onPort, Fin.getElem_fin]
  exact Vector.getElem_set_ne _ _ (fun e => h (Fin.ext e.symm))

/-- The element `modifyAt` changes. -/
theorem modifyAt_same {α : Type} {n : Nat} (v : Vector α n) (i : Fin n) (f : α → α) :
    (modifyAt v i f)[i] = f v[i] := by
  simp [modifyAt]

/-- The elements `modifyAt` leaves. -/
theorem modifyAt_other {α : Type} {n : Nat} (v : Vector α n) {i j : Fin n} (h : j ≠ i) (f : α → α) :
    (modifyAt v i f)[j] = v[j] := by
  simp only [modifyAt, Fin.getElem_fin]
  exact Vector.getElem_set_ne _ _ (fun e => h (Fin.ext e.symm))

/-- A member of a set that has one. -/
theorem getLsbD_single {w : Nat} (i j : Fin w) : (single i).getLsbD j = decide (j = i) := by
  simp [single]
  rfl

/-! ### Doing something once for each index -/

/-- What each turn leaves as it was, all of them do. -/
theorem forEach_same {α β : Type} {n : Nat} {f : Fin n → α → α} {g : α → β} (h : ∀ i a, g (f i a) = g a) (a : α) :
    g (forEach n f a) = g a := by
  unfold forEach
  induction List.finRange n generalizing a with
  | nil => rfl
  | cons i is ih => exact (ih (f i a)).trans (h i a)

/-- What holds of the start and is kept by each turn holds at the end. -/
theorem forEach_inv {α : Type} {n : Nat} {f : Fin n → α → α} {P : α → Prop} (h : ∀ i a, P a → P (f i a)) (a : α)
    (ha : P a) : P (forEach n f a) := by
  unfold forEach
  induction List.finRange n generalizing a with
  | nil => exact ha
  | cons i is ih => exact ih (f i a) (h i a ha)

/-- What each turn of a fold leaves as it was, the fold does. -/
theorem foldl_same {α β γ : Type} {f : α → γ → α} {g : α → β} (h : ∀ a x, g (f a x) = g a) (l : List γ) (a : α) :
    g (l.foldl f a) = g a := by
  induction l generalizing a with
  | nil => rfl
  | cons x xs ih => exact (ih (f a x)).trans (h a x)

end Sys2Proof.Machine
end

