-- ==== Sys2Proof/Laws/Frames.lean ====
section
/-! SUPPORT. For each operation on the state, the fields it leaves as they were. Each theorem is tagged for `simp`, which
takes its parts one by one, so that no later proof unfolds an operation to see what it does not touch. -/

namespace Sys2Proof.Machine

/-! ### Folds: a field that each turn leaves is left by all -/

variable {γ : Type} {n : Nat}

@[simp] theorem forEach_sli {f : Fin n → State → State} (h : ∀ i a, (f i a).sli = a.sli) (s : State) :
    (forEach n f s).sli = s.sli := forEach_same (g := State.sli) h s
@[simp] theorem foldl_sli {f : State → γ → State} (h : ∀ a x, (f a x).sli = a.sli) (l : List γ) (s : State) :
    (l.foldl f s).sli = s.sli := foldl_same (g := State.sli) h l s
@[simp] theorem forEach_mu {f : Fin n → State → State} (h : ∀ i a, (f i a).mu = a.mu) (s : State) :
    (forEach n f s).mu = s.mu := forEach_same (g := State.mu) h s
@[simp] theorem foldl_mu {f : State → γ → State} (h : ∀ a x, (f a x).mu = a.mu) (l : List γ) (s : State) :
    (l.foldl f s).mu = s.mu := foldl_same (g := State.mu) h l s
@[simp] theorem forEach_sck {f : Fin n → State → State} (h : ∀ i a, (f i a).sck = a.sck) (s : State) :
    (forEach n f s).sck = s.sck := forEach_same (g := State.sck) h s
@[simp] theorem foldl_sck {f : State → γ → State} (h : ∀ a x, (f a x).sck = a.sck) (l : List γ) (s : State) :
    (l.foldl f s).sck = s.sck := foldl_same (g := State.sck) h l s
@[simp] theorem forEach_iou {f : Fin n → State → State} (h : ∀ i a, (f i a).iou = a.iou) (s : State) :
    (forEach n f s).iou = s.iou := forEach_same (g := State.iou) h s
@[simp] theorem foldl_iou {f : State → γ → State} (h : ∀ a x, (f a x).iou = a.iou) (l : List γ) (s : State) :
    (l.foldl f s).iou = s.iou := foldl_same (g := State.iou) h l s
@[simp] theorem forEach_arb {f : Fin n → State → State} (h : ∀ i a, (f i a).arb = a.arb) (s : State) :
    (forEach n f s).arb = s.arb := forEach_same (g := State.arb) h s
@[simp] theorem foldl_arb {f : State → γ → State} (h : ∀ a x, (f a x).arb = a.arb) (l : List γ) (s : State) :
    (l.foldl f s).arb = s.arb := foldl_same (g := State.arb) h l s
@[simp] theorem forEach_seq {f : Fin n → State → State} (h : ∀ i a, (f i a).seq = a.seq) (s : State) :
    (forEach n f s).seq = s.seq := forEach_same (g := State.seq) h s
@[simp] theorem foldl_seq {f : State → γ → State} (h : ∀ a x, (f a x).seq = a.seq) (l : List γ) (s : State) :
    (l.foldl f s).seq = s.seq := foldl_same (g := State.seq) h l s
@[simp] theorem forEach_lco {f : Fin n → State → State} (h : ∀ i a, (f i a).lco = a.lco) (s : State) :
    (forEach n f s).lco = s.lco := forEach_same (g := State.lco) h s
@[simp] theorem foldl_lco {f : State → γ → State} (h : ∀ a x, (f a x).lco = a.lco) (l : List γ) (s : State) :
    (l.foldl f s).lco = s.lco := foldl_same (g := State.lco) h l s
@[simp] theorem forEach_nmx {f : Fin n → State → State} (h : ∀ i a, (f i a).nmx = a.nmx) (s : State) :
    (forEach n f s).nmx = s.nmx := forEach_same (g := State.nmx) h s
@[simp] theorem foldl_nmx {f : State → γ → State} (h : ∀ a x, (f a x).nmx = a.nmx) (l : List γ) (s : State) :
    (l.foldl f s).nmx = s.nmx := foldl_same (g := State.nmx) h l s
@[simp] theorem forEach_mgt {f : Fin n → State → State} (h : ∀ i a, (f i a).mgt = a.mgt) (s : State) :
    (forEach n f s).mgt = s.mgt := forEach_same (g := State.mgt) h s
@[simp] theorem foldl_mgt {f : State → γ → State} (h : ∀ a x, (f a x).mgt = a.mgt) (l : List γ) (s : State) :
    (l.foldl f s).mgt = s.mgt := foldl_same (g := State.mgt) h l s
@[simp] theorem forEach_ports {f : Fin n → State → State} (h : ∀ i a, (f i a).ports = a.ports) (s : State) :
    (forEach n f s).ports = s.ports := forEach_same (g := State.ports) h s
@[simp] theorem foldl_ports {f : State → γ → State} (h : ∀ a x, (f a x).ports = a.ports) (l : List γ) (s : State) :
    (l.foldl f s).ports = s.ports := foldl_same (g := State.ports) h l s
@[simp] theorem forEach_free {f : Fin n → State → State} (h : ∀ i a, (f i a).free = a.free) (s : State) :
    (forEach n f s).free = s.free := forEach_same (g := State.free) h s
@[simp] theorem foldl_free {f : State → γ → State} (h : ∀ a x, (f a x).free = a.free) (l : List γ) (s : State) :
    (l.foldl f s).free = s.free := foldl_same (g := State.free) h l s
@[simp] theorem forEach_pending {f : Fin n → State → State} (h : ∀ i a, (f i a).pending = a.pending) (s : State) :
    (forEach n f s).pending = s.pending := forEach_same (g := State.pending) h s
@[simp] theorem foldl_pending {f : State → γ → State} (h : ∀ a x, (f a x).pending = a.pending) (l : List γ) (s : State) :
    (l.foldl f s).pending = s.pending := foldl_same (g := State.pending) h l s

variable (s : State)

/-! ### Reports, notices, story flags and marks (Ops, Flags, Load) -/

@[simp] theorem State.askStatus_frame :
    s.askStatus.mu = s.mu ∧ s.askStatus.sck = s.sck ∧ s.askStatus.iou = s.iou ∧ s.askStatus.arb = s.arb ∧
    s.askStatus.seq = s.seq ∧ s.askStatus.lco = s.lco ∧ s.askStatus.nmx = s.nmx ∧ s.askStatus.mgt = s.mgt ∧
    s.askStatus.ports = s.ports ∧ s.askStatus.free = s.free ∧ s.askStatus.pending = s.pending := by
  unfold State.askStatus
  simp

@[simp] theorem State.join_frame (r : Report) :
    (s.join r).mu = s.mu ∧ (s.join r).sck = s.sck ∧ (s.join r).iou = s.iou ∧ (s.join r).arb = s.arb ∧
    (s.join r).seq = s.seq ∧ (s.join r).lco = s.lco ∧ (s.join r).nmx = s.nmx ∧ (s.join r).mgt = s.mgt ∧
    (s.join r).ports = s.ports ∧ (s.join r).free = s.free ∧ (s.join r).pending = s.pending := by
  unfold State.join
  simp

@[simp] theorem State.reply_frame (code : Byte) (st : Status) (tag : Half) (fields : List Byte) :
    (s.reply code st tag fields).mu = s.mu ∧ (s.reply code st tag fields).sck = s.sck ∧
    (s.reply code st tag fields).iou = s.iou ∧ (s.reply code st tag fields).arb = s.arb ∧
    (s.reply code st tag fields).seq = s.seq ∧ (s.reply code st tag fields).lco = s.lco ∧
    (s.reply code st tag fields).nmx = s.nmx ∧ (s.reply code st tag fields).mgt = s.mgt ∧
    (s.reply code st tag fields).ports = s.ports ∧ (s.reply code st tag fields).free = s.free ∧
    (s.reply code st tag fields).pending = s.pending := by
  unfold State.reply
  simp

@[simp] theorem State.passOn_frame (f : Frame) :
    (s.passOn f).mu = s.mu ∧ (s.passOn f).sck = s.sck ∧ (s.passOn f).iou = s.iou ∧ (s.passOn f).arb = s.arb ∧
    (s.passOn f).seq = s.seq ∧ (s.passOn f).lco = s.lco ∧ (s.passOn f).nmx = s.nmx ∧ (s.passOn f).mgt = s.mgt ∧
    (s.passOn f).ports = s.ports ∧ (s.passOn f).free = s.free ∧ (s.passOn f).pending = s.pending := by
  unfold State.passOn
  simp

@[simp] theorem State.refresh_frame (src : SourceId) :
    (s.refresh src).mu = s.mu ∧ (s.refresh src).sck = s.sck ∧ (s.refresh src).iou = s.iou ∧
    (s.refresh src).arb = s.arb ∧ (s.refresh src).seq = s.seq ∧ (s.refresh src).lco = s.lco ∧
    (s.refresh src).nmx = s.nmx ∧ (s.refresh src).mgt = s.mgt ∧ (s.refresh src).ports = s.ports ∧
    (s.refresh src).free = s.free ∧ (s.refresh src).pending = s.pending := by
  unfold State.refresh
  simp

@[simp] theorem State.linkError_frame (c : LinkCause) (d : Side) :
    (s.linkError c d).mu = s.mu ∧ (s.linkError c d).sck = s.sck ∧ (s.linkError c d).iou = s.iou ∧
    (s.linkError c d).arb = s.arb ∧ (s.linkError c d).seq = s.seq ∧ (s.linkError c d).lco = s.lco ∧
    (s.linkError c d).nmx = s.nmx ∧ (s.linkError c d).mgt = s.mgt ∧ (s.linkError c d).ports = s.ports ∧
    (s.linkError c d).free = s.free ∧ (s.linkError c d).pending = s.pending := by
  unfold State.linkError
  simp

@[simp] theorem State.raiseThruOverrun_frame :
    s.raiseThruOverrun.mu = s.mu ∧ s.raiseThruOverrun.sck = s.sck ∧ s.raiseThruOverrun.iou = s.iou ∧
    s.raiseThruOverrun.arb = s.arb ∧ s.raiseThruOverrun.seq = s.seq ∧ s.raiseThruOverrun.lco = s.lco ∧
    s.raiseThruOverrun.nmx = s.nmx ∧ s.raiseThruOverrun.mgt = s.mgt ∧ s.raiseThruOverrun.ports = s.ports ∧
    s.raiseThruOverrun.free = s.free ∧ s.raiseThruOverrun.pending = s.pending := by
  unfold State.raiseThruOverrun
  simp

@[simp] theorem State.raiseQueueFull_frame :
    s.raiseQueueFull.mu = s.mu ∧ s.raiseQueueFull.sck = s.sck ∧ s.raiseQueueFull.iou = s.iou ∧
    s.raiseQueueFull.arb = s.arb ∧ s.raiseQueueFull.seq = s.seq ∧ s.raiseQueueFull.lco = s.lco ∧
    s.raiseQueueFull.nmx = s.nmx ∧ s.raiseQueueFull.mgt = s.mgt ∧ s.raiseQueueFull.ports = s.ports ∧
    s.raiseQueueFull.free = s.free ∧ s.raiseQueueFull.pending = s.pending := by
  unfold State.raiseQueueFull
  simp

@[simp] theorem State.raiseLineStuck_frame (n : LineId) :
    (s.raiseLineStuck n).mu = s.mu ∧ (s.raiseLineStuck n).sck = s.sck ∧ (s.raiseLineStuck n).iou = s.iou ∧
    (s.raiseLineStuck n).arb = s.arb ∧ (s.raiseLineStuck n).seq = s.seq ∧ (s.raiseLineStuck n).lco = s.lco ∧
    (s.raiseLineStuck n).nmx = s.nmx ∧ (s.raiseLineStuck n).mgt = s.mgt ∧ (s.raiseLineStuck n).ports = s.ports ∧
    (s.raiseLineStuck n).free = s.free ∧ (s.raiseLineStuck n).pending = s.pending := by
  unfold State.raiseLineStuck
  simp

@[simp] theorem State.raiseAlarm_frame (n : AlarmId) :
    (s.raiseAlarm n).mu = s.mu ∧ (s.raiseAlarm n).sck = s.sck ∧ (s.raiseAlarm n).iou = s.iou ∧
    (s.raiseAlarm n).arb = s.arb ∧ (s.raiseAlarm n).seq = s.seq ∧ (s.raiseAlarm n).lco = s.lco ∧
    (s.raiseAlarm n).nmx = s.nmx ∧ (s.raiseAlarm n).mgt = s.mgt ∧ (s.raiseAlarm n).ports = s.ports ∧
    (s.raiseAlarm n).free = s.free ∧ (s.raiseAlarm n).pending = s.pending := by
  unfold State.raiseAlarm
  simp

@[simp] theorem State.raisePowerFault_frame (z : ZoneId) :
    (s.raisePowerFault z).mu = s.mu ∧ (s.raisePowerFault z).sck = s.sck ∧ (s.raisePowerFault z).iou = s.iou ∧
    (s.raisePowerFault z).arb = s.arb ∧ (s.raisePowerFault z).seq = s.seq ∧ (s.raisePowerFault z).lco = s.lco ∧
    (s.raisePowerFault z).nmx = s.nmx ∧ (s.raisePowerFault z).mgt = s.mgt ∧ (s.raisePowerFault z).ports = s.ports ∧
    (s.raisePowerFault z).free = s.free ∧ (s.raisePowerFault z).pending = s.pending := by
  unfold State.raisePowerFault
  simp

@[simp] theorem State.setStoryFlags_frame (m : BitVec 32) :
    (s.setStoryFlags m).sli = s.sli ∧ (s.setStoryFlags m).mu = s.mu ∧ (s.setStoryFlags m).sck = s.sck ∧
    (s.setStoryFlags m).iou = s.iou ∧ (s.setStoryFlags m).arb = s.arb ∧ (s.setStoryFlags m).lco = s.lco ∧
    (s.setStoryFlags m).nmx = s.nmx ∧ (s.setStoryFlags m).mgt = s.mgt ∧ (s.setStoryFlags m).ports = s.ports ∧
    (s.setStoryFlags m).free = s.free ∧ (s.setStoryFlags m).pending = s.pending := by
  unfold State.setStoryFlags
  simp

@[simp] theorem State.clearStoryFlags_frame (m : BitVec 32) :
    (s.clearStoryFlags m).sli = s.sli ∧ (s.clearStoryFlags m).mu = s.mu ∧ (s.clearStoryFlags m).sck = s.sck ∧
    (s.clearStoryFlags m).iou = s.iou ∧ (s.clearStoryFlags m).arb = s.arb ∧ (s.clearStoryFlags m).lco = s.lco ∧
    (s.clearStoryFlags m).nmx = s.nmx ∧ (s.clearStoryFlags m).mgt = s.mgt ∧ (s.clearStoryFlags m).ports = s.ports ∧
    (s.clearStoryFlags m).free = s.free ∧ (s.clearStoryFlags m).pending = s.pending := by
  unfold State.clearStoryFlags
  simp

@[simp] theorem State.onPlay_frame (k : SlotId) (f : PlayRec → PlayRec) :
    (s.onPlay k f).sli = s.sli ∧ (s.onPlay k f).mu = s.mu ∧ (s.onPlay k f).sck = s.sck ∧ (s.onPlay k f).iou = s.iou ∧
    (s.onPlay k f).arb = s.arb ∧ (s.onPlay k f).lco = s.lco ∧ (s.onPlay k f).nmx = s.nmx ∧
    (s.onPlay k f).mgt = s.mgt ∧ (s.onPlay k f).ports = s.ports ∧ (s.onPlay k f).free = s.free ∧
    (s.onPlay k f).pending = s.pending := by
  unfold State.onPlay
  (repeat' split) <;> simp

@[simp] theorem State.mark_frame (k : SlotId) (m : Mark) :
    (s.mark k m).sli = s.sli ∧ (s.mark k m).mu = s.mu ∧ (s.mark k m).sck = s.sck ∧ (s.mark k m).iou = s.iou ∧
    (s.mark k m).arb = s.arb ∧ (s.mark k m).lco = s.lco ∧ (s.mark k m).nmx = s.nmx ∧ (s.mark k m).mgt = s.mgt ∧
    (s.mark k m).ports = s.ports ∧ (s.mark k m).free = s.free ∧ (s.mark k m).pending = s.pending := by
  unfold State.mark
  simp

@[simp] theorem State.afterImage_frame :
    s.afterImage.sli = s.sli ∧ s.afterImage.mu = s.mu ∧ s.afterImage.sck = s.sck ∧ s.afterImage.iou = s.iou ∧
    s.afterImage.arb = s.arb ∧ s.afterImage.seq = s.seq ∧ s.afterImage.lco = s.lco ∧ s.afterImage.nmx = s.nmx ∧
    s.afterImage.mgt = s.mgt ∧ s.afterImage.ports = s.ports ∧ s.afterImage.pending = s.pending := by
  unfold State.afterImage
  dsimp only
  simp

@[simp] theorem State.afterNewRequest_frame (i : SceneId) (prio : Option Nat) :
    (s.afterNewRequest i prio).sli = s.sli ∧ (s.afterNewRequest i prio).mu = s.mu ∧
    (s.afterNewRequest i prio).sck = s.sck ∧ (s.afterNewRequest i prio).iou = s.iou ∧
    (s.afterNewRequest i prio).arb = s.arb ∧ (s.afterNewRequest i prio).seq = s.seq ∧
    (s.afterNewRequest i prio).lco = s.lco ∧ (s.afterNewRequest i prio).nmx = s.nmx ∧
    (s.afterNewRequest i prio).mgt = s.mgt ∧ (s.afterNewRequest i prio).ports = s.ports ∧
    (s.afterNewRequest i prio).pending = s.pending := by
  unfold State.afterNewRequest
  (repeat' split) <;> simp

/-! ### Light (Light) -/

@[simp] theorem State.effectBeat_frame (k : SlotId) :
    (s.effectBeat k).sli = s.sli ∧ (s.effectBeat k).mu = s.mu ∧ (s.effectBeat k).sck = s.sck ∧
    (s.effectBeat k).iou = s.iou ∧ (s.effectBeat k).arb = s.arb ∧ (s.effectBeat k).seq = s.seq ∧
    (s.effectBeat k).nmx = s.nmx ∧ (s.effectBeat k).mgt = s.mgt ∧ (s.effectBeat k).ports = s.ports ∧
    (s.effectBeat k).free = s.free ∧ (s.effectBeat k).pending = s.pending := by
  unfold State.effectBeat
  (repeat' split) <;> simp

@[simp] theorem State.layerBeat_frame (c : ChannelId) :
    (s.layerBeat c).sli = s.sli ∧ (s.layerBeat c).mu = s.mu ∧ (s.layerBeat c).sck = s.sck ∧
    (s.layerBeat c).iou = s.iou ∧ (s.layerBeat c).arb = s.arb ∧ (s.layerBeat c).seq = s.seq ∧
    (s.layerBeat c).nmx = s.nmx ∧ (s.layerBeat c).mgt = s.mgt ∧ (s.layerBeat c).ports = s.ports ∧
    (s.layerBeat c).free = s.free ∧ (s.layerBeat c).pending = s.pending := by
  unfold State.layerBeat
  simp

@[simp] theorem State.handLight_frame (levels : ChannelId → Nat) (z : ZoneId) :
    (s.handLight levels z).sli = s.sli ∧ (s.handLight levels z).mu = s.mu ∧ (s.handLight levels z).sck = s.sck ∧
    (s.handLight levels z).iou = s.iou ∧ (s.handLight levels z).arb = s.arb ∧ (s.handLight levels z).seq = s.seq ∧
    (s.handLight levels z).lco = s.lco ∧ (s.handLight levels z).nmx = s.nmx ∧ (s.handLight levels z).mgt = s.mgt ∧
    (s.handLight levels z).free = s.free ∧ (s.handLight levels z).pending = s.pending := by
  unfold State.handLight
  simp

@[simp] theorem State.lcoBeat_frame :
    s.lcoBeat.sli = s.sli ∧ s.lcoBeat.mu = s.mu ∧ s.lcoBeat.sck = s.sck ∧ s.lcoBeat.iou = s.iou ∧
    s.lcoBeat.arb = s.arb ∧ s.lcoBeat.seq = s.seq ∧ s.lcoBeat.nmx = s.nmx ∧ s.lcoBeat.mgt = s.mgt ∧
    s.lcoBeat.free = s.free ∧ s.lcoBeat.pending = s.pending := by
  unfold State.lcoBeat
  dsimp only
  simp

/-! ### Sound (Sound) -/

@[simp] theorem State.setCue_frame (k : SlotId) (c : Option Cue) :
    (s.setCue k c).sli = s.sli ∧ (s.setCue k c).mu = s.mu ∧ (s.setCue k c).sck = s.sck ∧ (s.setCue k c).iou = s.iou ∧
    (s.setCue k c).arb = s.arb ∧ (s.setCue k c).seq = s.seq ∧ (s.setCue k c).lco = s.lco ∧
    (s.setCue k c).mgt = s.mgt ∧ (s.setCue k c).ports = s.ports ∧ (s.setCue k c).free = s.free ∧
    (s.setCue k c).pending = s.pending := by
  unfold State.setCue
  simp

@[simp] theorem State.cancelCue_frame (k : SlotId) (cause : CancelCause) :
    (s.cancelCue k cause).mu = s.mu ∧ (s.cancelCue k cause).sck = s.sck ∧ (s.cancelCue k cause).iou = s.iou ∧
    (s.cancelCue k cause).arb = s.arb ∧ (s.cancelCue k cause).seq = s.seq ∧ (s.cancelCue k cause).mgt = s.mgt ∧
    (s.cancelCue k cause).ports = s.ports ∧ (s.cancelCue k cause).free = s.free ∧
    (s.cancelCue k cause).pending = s.pending := by
  unfold State.cancelCue
  dsimp only
  (repeat' split) <;> simp

@[simp] theorem State.newCue_frame (k : SlotId) (scene : SceneId) (home : ZoneId) (p : CuePart) :
    (s.newCue k scene home p).mu = s.mu ∧ (s.newCue k scene home p).sck = s.sck ∧
    (s.newCue k scene home p).iou = s.iou ∧ (s.newCue k scene home p).arb = s.arb ∧
    (s.newCue k scene home p).mgt = s.mgt ∧ (s.newCue k scene home p).ports = s.ports ∧
    (s.newCue k scene home p).free = s.free ∧ (s.newCue k scene home p).pending = s.pending := by
  unfold State.newCue
  dsimp only
  (repeat' split) <;> simp

@[simp] theorem State.cueDeparted_frame (i : CueInfo) :
    (s.cueDeparted i).sli = s.sli ∧ (s.cueDeparted i).mu = s.mu ∧ (s.cueDeparted i).sck = s.sck ∧
    (s.cueDeparted i).iou = s.iou ∧ (s.cueDeparted i).arb = s.arb ∧ (s.cueDeparted i).seq = s.seq ∧
    (s.cueDeparted i).lco = s.lco ∧ (s.cueDeparted i).mgt = s.mgt ∧ (s.cueDeparted i).ports = s.ports ∧
    (s.cueDeparted i).free = s.free ∧ (s.cueDeparted i).pending = s.pending := by
  unfold State.cueDeparted
  (repeat' split) <;> simp

@[simp] theorem State.cueBeat_frame (k : SlotId) :
    (s.cueBeat k).sli = s.sli ∧ (s.cueBeat k).mu = s.mu ∧ (s.cueBeat k).sck = s.sck ∧ (s.cueBeat k).iou = s.iou ∧
    (s.cueBeat k).arb = s.arb ∧ (s.cueBeat k).lco = s.lco ∧ (s.cueBeat k).mgt = s.mgt ∧
    (s.cueBeat k).ports = s.ports ∧ (s.cueBeat k).free = s.free ∧ (s.cueBeat k).pending = s.pending := by
  unfold State.cueBeat
  (repeat' split) <;> simp

@[simp] theorem State.nmxBeat_frame :
    s.nmxBeat.sli = s.sli ∧ s.nmxBeat.mu = s.mu ∧ s.nmxBeat.sck = s.sck ∧ s.nmxBeat.iou = s.iou ∧
    s.nmxBeat.arb = s.arb ∧ s.nmxBeat.lco = s.lco ∧ s.nmxBeat.mgt = s.mgt ∧ s.nmxBeat.ports = s.ports ∧
    s.nmxBeat.free = s.free ∧ s.nmxBeat.pending = s.pending := by
  unfold State.nmxBeat
  simp

@[simp] theorem State.loseCue_frame (t : StreamId) (k : SlotId) :
    (s.loseCue t k).mu = s.mu ∧ (s.loseCue t k).sck = s.sck ∧ (s.loseCue t k).iou = s.iou ∧
    (s.loseCue t k).arb = s.arb ∧ (s.loseCue t k).mgt = s.mgt ∧ (s.loseCue t k).ports = s.ports ∧
    (s.loseCue t k).free = s.free ∧ (s.loseCue t k).pending = s.pending := by
  unfold State.loseCue
  (repeat' split) <;> simp

@[simp] theorem State.streamStale_frame (t : StreamId) :
    (s.streamStale t).mu = s.mu ∧ (s.streamStale t).sck = s.sck ∧ (s.streamStale t).iou = s.iou ∧
    (s.streamStale t).arb = s.arb ∧ (s.streamStale t).mgt = s.mgt ∧ (s.streamStale t).ports = s.ports ∧
    (s.streamStale t).free = s.free ∧ (s.streamStale t).pending = s.pending := by
  unfold State.streamStale
  simp

@[simp] theorem State.cancelAllCues_frame :
    s.cancelAllCues.mu = s.mu ∧ s.cancelAllCues.sck = s.sck ∧ s.cancelAllCues.iou = s.iou ∧
    s.cancelAllCues.arb = s.arb ∧ s.cancelAllCues.seq = s.seq ∧ s.cancelAllCues.mgt = s.mgt ∧
    s.cancelAllCues.ports = s.ports ∧ s.cancelAllCues.free = s.free ∧ s.cancelAllCues.pending = s.pending := by
  unfold State.cancelAllCues
  simp

@[simp] theorem State.matchTag_frame (blocks : List StreamBlock) (k : SlotId) :
    (s.matchTag blocks k).sli = s.sli ∧ (s.matchTag blocks k).mu = s.mu ∧ (s.matchTag blocks k).sck = s.sck ∧
    (s.matchTag blocks k).iou = s.iou ∧ (s.matchTag blocks k).arb = s.arb ∧ (s.matchTag blocks k).seq = s.seq ∧
    (s.matchTag blocks k).mgt = s.mgt ∧ (s.matchTag blocks k).ports = s.ports ∧ (s.matchTag blocks k).free = s.free ∧
    (s.matchTag blocks k).pending = s.pending := by
  unfold State.matchTag
  (repeat' split) <;> simp

@[simp] theorem State.finishCue_frame (blocks : List StreamBlock) (k : SlotId) :
    (s.finishCue blocks k).sli = s.sli ∧ (s.finishCue blocks k).mu = s.mu ∧ (s.finishCue blocks k).sck = s.sck ∧
    (s.finishCue blocks k).iou = s.iou ∧ (s.finishCue blocks k).arb = s.arb ∧ (s.finishCue blocks k).seq = s.seq ∧
    (s.finishCue blocks k).mgt = s.mgt ∧ (s.finishCue blocks k).ports = s.ports ∧
    (s.finishCue blocks k).free = s.free ∧ (s.finishCue blocks k).pending = s.pending := by
  unfold State.finishCue
  (repeat' split) <;> simp

@[simp] theorem State.handBlock_frame (at_ : OutputId → List Int) (o : OutputId) :
    (s.handBlock at_ o).sli = s.sli ∧ (s.handBlock at_ o).mu = s.mu ∧ (s.handBlock at_ o).sck = s.sck ∧
    (s.handBlock at_ o).iou = s.iou ∧ (s.handBlock at_ o).arb = s.arb ∧ (s.handBlock at_ o).seq = s.seq ∧
    (s.handBlock at_ o).lco = s.lco ∧ (s.handBlock at_ o).nmx = s.nmx ∧ (s.handBlock at_ o).mgt = s.mgt ∧
    (s.handBlock at_ o).free = s.free ∧ (s.handBlock at_ o).pending = s.pending := by
  unfold State.handBlock
  (repeat' split) <;> simp

@[simp] theorem State.soundArrival_frame (blocks : List StreamBlock) :
    (s.soundArrival blocks).sli = s.sli ∧ (s.soundArrival blocks).mu = s.mu ∧ (s.soundArrival blocks).sck = s.sck ∧
    (s.soundArrival blocks).iou = s.iou ∧ (s.soundArrival blocks).arb = s.arb ∧ (s.soundArrival blocks).seq = s.seq ∧
    (s.soundArrival blocks).mgt = s.mgt ∧ (s.soundArrival blocks).free = s.free ∧
    (s.soundArrival blocks).pending = s.pending := by
  unfold State.soundArrival
  dsimp only
  simp

@[simp] theorem State.refreshStreams_frame (blocks : List StreamBlock) :
    (s.refreshStreams blocks).mu = s.mu ∧ (s.refreshStreams blocks).sck = s.sck ∧
    (s.refreshStreams blocks).iou = s.iou ∧ (s.refreshStreams blocks).arb = s.arb ∧
    (s.refreshStreams blocks).seq = s.seq ∧ (s.refreshStreams blocks).lco = s.lco ∧
    (s.refreshStreams blocks).nmx = s.nmx ∧ (s.refreshStreams blocks).mgt = s.mgt ∧
    (s.refreshStreams blocks).ports = s.ports ∧ (s.refreshStreams blocks).free = s.free ∧
    (s.refreshStreams blocks).pending = s.pending := by
  unfold State.refreshStreams
  simp [apply_ite State.mu, apply_ite State.sck, apply_ite State.iou, apply_ite State.arb, apply_ite State.seq, apply_ite State.lco, apply_ite State.nmx, apply_ite State.mgt, apply_ite State.ports, apply_ite State.free, apply_ite State.pending]

/-! ### Motion (Motion) -/

@[simp] theorem State.onAxis_frame (a : AxisId) (f : Axis → Axis) :
    (s.onAxis a f).sli = s.sli ∧ (s.onAxis a f).mu = s.mu ∧ (s.onAxis a f).sck = s.sck ∧ (s.onAxis a f).iou = s.iou ∧
    (s.onAxis a f).arb = s.arb ∧ (s.onAxis a f).seq = s.seq ∧ (s.onAxis a f).lco = s.lco ∧
    (s.onAxis a f).nmx = s.nmx ∧ (s.onAxis a f).ports = s.ports ∧ (s.onAxis a f).free = s.free ∧
    (s.onAxis a f).pending = s.pending := by
  unfold State.onAxis
  simp

@[simp] theorem State.judgeAxis_frame (a : AxisId) :
    (s.judgeAxis a).sli = s.sli ∧ (s.judgeAxis a).mu = s.mu ∧ (s.judgeAxis a).sck = s.sck ∧
    (s.judgeAxis a).iou = s.iou ∧ (s.judgeAxis a).arb = s.arb ∧ (s.judgeAxis a).lco = s.lco ∧
    (s.judgeAxis a).nmx = s.nmx ∧ (s.judgeAxis a).ports = s.ports ∧ (s.judgeAxis a).free = s.free ∧
    (s.judgeAxis a).pending = s.pending := by
  unfold State.judgeAxis
  dsimp only
  (repeat' split) <;> simp

@[simp] theorem State.judgeAxes_frame :
    s.judgeAxes.sli = s.sli ∧ s.judgeAxes.mu = s.mu ∧ s.judgeAxes.sck = s.sck ∧ s.judgeAxes.iou = s.iou ∧
    s.judgeAxes.arb = s.arb ∧ s.judgeAxes.lco = s.lco ∧ s.judgeAxes.nmx = s.nmx ∧ s.judgeAxes.ports = s.ports ∧
    s.judgeAxes.free = s.free ∧ s.judgeAxes.pending = s.pending := by
  unfold State.judgeAxes
  simp

@[simp] theorem State.axisPresent_frame (a : AxisId) (p : Int) :
    (s.axisPresent a p).sli = s.sli ∧ (s.axisPresent a p).mu = s.mu ∧ (s.axisPresent a p).sck = s.sck ∧
    (s.axisPresent a p).iou = s.iou ∧ (s.axisPresent a p).arb = s.arb ∧ (s.axisPresent a p).lco = s.lco ∧
    (s.axisPresent a p).nmx = s.nmx ∧ (s.axisPresent a p).ports = s.ports ∧ (s.axisPresent a p).free = s.free ∧
    (s.axisPresent a p).pending = s.pending := by
  unfold State.axisPresent
  simp

@[simp] theorem State.axisAbsent_frame (a : AxisId) :
    (s.axisAbsent a).sli = s.sli ∧ (s.axisAbsent a).mu = s.mu ∧ (s.axisAbsent a).sck = s.sck ∧
    (s.axisAbsent a).iou = s.iou ∧ (s.axisAbsent a).arb = s.arb ∧ (s.axisAbsent a).lco = s.lco ∧
    (s.axisAbsent a).nmx = s.nmx ∧ (s.axisAbsent a).ports = s.ports ∧ (s.axisAbsent a).free = s.free ∧
    (s.axisAbsent a).pending = s.pending := by
  unfold State.axisAbsent
  simp

@[simp] theorem State.axisAnnounced_frame (a : AxisId) (p : Int) :
    (s.axisAnnounced a p).sli = s.sli ∧ (s.axisAnnounced a p).mu = s.mu ∧ (s.axisAnnounced a p).sck = s.sck ∧
    (s.axisAnnounced a p).iou = s.iou ∧ (s.axisAnnounced a p).arb = s.arb ∧ (s.axisAnnounced a p).lco = s.lco ∧
    (s.axisAnnounced a p).nmx = s.nmx ∧ (s.axisAnnounced a p).ports = s.ports ∧ (s.axisAnnounced a p).free = s.free ∧
    (s.axisAnnounced a p).pending = s.pending := by
  unfold State.axisAnnounced
  (repeat' split) <;> simp

@[simp] theorem State.axisReply_frame (a : AxisId) (p : Int) :
    (s.axisReply a p).sli = s.sli ∧ (s.axisReply a p).mu = s.mu ∧ (s.axisReply a p).sck = s.sck ∧
    (s.axisReply a p).iou = s.iou ∧ (s.axisReply a p).arb = s.arb ∧ (s.axisReply a p).seq = s.seq ∧
    (s.axisReply a p).lco = s.lco ∧ (s.axisReply a p).nmx = s.nmx ∧ (s.axisReply a p).ports = s.ports ∧
    (s.axisReply a p).free = s.free ∧ (s.axisReply a p).pending = s.pending := by
  unfold State.axisReply
  simp

@[simp] theorem State.markOwner_frame (z : ZoneId) (a : AxisId) :
    (s.markOwner z a).sli = s.sli ∧ (s.markOwner z a).mu = s.mu ∧ (s.markOwner z a).sck = s.sck ∧
    (s.markOwner z a).iou = s.iou ∧ (s.markOwner z a).arb = s.arb ∧ (s.markOwner z a).lco = s.lco ∧
    (s.markOwner z a).nmx = s.nmx ∧ (s.markOwner z a).mgt = s.mgt ∧ (s.markOwner z a).ports = s.ports ∧
    (s.markOwner z a).free = s.free ∧ (s.markOwner z a).pending = s.pending := by
  unfold State.markOwner
  (repeat' split) <;> simp

@[simp] theorem State.powerFaultStart_frame (z : ZoneId) :
    (s.powerFaultStart z).sli = s.sli ∧ (s.powerFaultStart z).mu = s.mu ∧ (s.powerFaultStart z).sck = s.sck ∧
    (s.powerFaultStart z).iou = s.iou ∧ (s.powerFaultStart z).arb = s.arb ∧ (s.powerFaultStart z).lco = s.lco ∧
    (s.powerFaultStart z).nmx = s.nmx ∧ (s.powerFaultStart z).ports = s.ports ∧ (s.powerFaultStart z).free = s.free ∧
    (s.powerFaultStart z).pending = s.pending := by
  unfold State.powerFaultStart
  simp

@[simp] theorem State.powerFaultEnd_frame (z : ZoneId) :
    (s.powerFaultEnd z).sli = s.sli ∧ (s.powerFaultEnd z).mu = s.mu ∧ (s.powerFaultEnd z).sck = s.sck ∧
    (s.powerFaultEnd z).iou = s.iou ∧ (s.powerFaultEnd z).arb = s.arb ∧ (s.powerFaultEnd z).lco = s.lco ∧
    (s.powerFaultEnd z).nmx = s.nmx ∧ (s.powerFaultEnd z).ports = s.ports ∧ (s.powerFaultEnd z).free = s.free ∧
    (s.powerFaultEnd z).pending = s.pending := by
  unfold State.powerFaultEnd
  simp

@[simp] theorem State.takeSetpoint_frame (body : List Byte) (a : AxisId) :
    (s.takeSetpoint body a).mu = s.mu ∧ (s.takeSetpoint body a).sck = s.sck ∧ (s.takeSetpoint body a).iou = s.iou ∧
    (s.takeSetpoint body a).arb = s.arb ∧ (s.takeSetpoint body a).lco = s.lco ∧ (s.takeSetpoint body a).nmx = s.nmx ∧
    (s.takeSetpoint body a).ports = s.ports ∧ (s.takeSetpoint body a).free = s.free ∧
    (s.takeSetpoint body a).pending = s.pending := by
  unfold State.takeSetpoint
  (repeat' split) <;> simp

@[simp] theorem State.motionArrival_frame (body : List Byte) :
    (s.motionArrival body).mu = s.mu ∧ (s.motionArrival body).sck = s.sck ∧ (s.motionArrival body).iou = s.iou ∧
    (s.motionArrival body).arb = s.arb ∧ (s.motionArrival body).lco = s.lco ∧ (s.motionArrival body).nmx = s.nmx ∧
    (s.motionArrival body).ports = s.ports ∧ (s.motionArrival body).free = s.free ∧
    (s.motionArrival body).pending = s.pending := by
  unfold State.motionArrival
  simp

@[simp] theorem State.giveKey_frame (k : SlotId) (e : KeyEntry) :
    (s.giveKey k e).sli = s.sli ∧ (s.giveKey k e).mu = s.mu ∧ (s.giveKey k e).sck = s.sck ∧
    (s.giveKey k e).iou = s.iou ∧ (s.giveKey k e).arb = s.arb ∧ (s.giveKey k e).lco = s.lco ∧
    (s.giveKey k e).nmx = s.nmx ∧ (s.giveKey k e).ports = s.ports ∧ (s.giveKey k e).free = s.free ∧
    (s.giveKey k e).pending = s.pending := by
  unfold State.giveKey
  dsimp only
  (repeat' split) <;> simp

@[simp] theorem State.mgtOccupancy_frame (z : ZoneId) (o : OccKind) :
    (s.mgtOccupancy z o).sli = s.sli ∧ (s.mgtOccupancy z o).mu = s.mu ∧ (s.mgtOccupancy z o).sck = s.sck ∧
    (s.mgtOccupancy z o).iou = s.iou ∧ (s.mgtOccupancy z o).arb = s.arb ∧ (s.mgtOccupancy z o).lco = s.lco ∧
    (s.mgtOccupancy z o).nmx = s.nmx ∧ (s.mgtOccupancy z o).ports = s.ports ∧ (s.mgtOccupancy z o).free = s.free ∧
    (s.mgtOccupancy z o).pending = s.pending := by
  unfold State.mgtOccupancy
  dsimp only
  simp

@[simp] theorem State.envLoaded_frame (a : AxisId) (old : EnvRec) :
    (s.envLoaded a old).sli = s.sli ∧ (s.envLoaded a old).mu = s.mu ∧ (s.envLoaded a old).sck = s.sck ∧
    (s.envLoaded a old).iou = s.iou ∧ (s.envLoaded a old).arb = s.arb ∧ (s.envLoaded a old).lco = s.lco ∧
    (s.envLoaded a old).nmx = s.nmx ∧ (s.envLoaded a old).ports = s.ports ∧ (s.envLoaded a old).free = s.free ∧
    (s.envLoaded a old).pending = s.pending := by
  unfold State.envLoaded
  dsimp only
  (repeat' split) <;> simp

@[simp] theorem State.stepAxis_frame (a : AxisId) :
    (s.stepAxis a).sli = s.sli ∧ (s.stepAxis a).mu = s.mu ∧ (s.stepAxis a).sck = s.sck ∧ (s.stepAxis a).iou = s.iou ∧
    (s.stepAxis a).arb = s.arb ∧ (s.stepAxis a).seq = s.seq ∧ (s.stepAxis a).lco = s.lco ∧
    (s.stepAxis a).nmx = s.nmx ∧ (s.stepAxis a).ports = s.ports ∧ (s.stepAxis a).free = s.free ∧
    (s.stepAxis a).pending = s.pending := by
  unfold State.stepAxis
  dsimp only
  simp

@[simp] theorem State.axisBeat_frame (a : AxisId) :
    (s.axisBeat a).sli = s.sli ∧ (s.axisBeat a).mu = s.mu ∧ (s.axisBeat a).sck = s.sck ∧ (s.axisBeat a).iou = s.iou ∧
    (s.axisBeat a).arb = s.arb ∧ (s.axisBeat a).lco = s.lco ∧ (s.axisBeat a).nmx = s.nmx ∧
    (s.axisBeat a).ports = s.ports ∧ (s.axisBeat a).free = s.free ∧ (s.axisBeat a).pending = s.pending := by
  unfold State.axisBeat
  simp

@[simp] theorem State.handMotion_frame (z : ZoneId) :
    (s.handMotion z).sli = s.sli ∧ (s.handMotion z).mu = s.mu ∧ (s.handMotion z).sck = s.sck ∧
    (s.handMotion z).iou = s.iou ∧ (s.handMotion z).arb = s.arb ∧ (s.handMotion z).seq = s.seq ∧
    (s.handMotion z).lco = s.lco ∧ (s.handMotion z).nmx = s.nmx ∧ (s.handMotion z).mgt = s.mgt ∧
    (s.handMotion z).free = s.free ∧ (s.handMotion z).pending = s.pending := by
  unfold State.handMotion
  simp

@[simp] theorem State.mgtBeat_frame :
    s.mgtBeat.sli = s.sli ∧ s.mgtBeat.mu = s.mu ∧ s.mgtBeat.sck = s.sck ∧ s.mgtBeat.iou = s.iou ∧
    s.mgtBeat.arb = s.arb ∧ s.mgtBeat.lco = s.lco ∧ s.mgtBeat.nmx = s.nmx ∧ s.mgtBeat.free = s.free ∧
    s.mgtBeat.pending = s.pending := by
  unfold State.mgtBeat
  simp

/-! ### Census (Census) -/

@[simp] theorem State.handChannel_frame (z : ZoneId) (old new : Port) (i : Fin 192) :
    (s.handChannel z old new i).sli = s.sli ∧ (s.handChannel z old new i).mu = s.mu ∧
    (s.handChannel z old new i).sck = s.sck ∧ (s.handChannel z old new i).iou = s.iou ∧
    (s.handChannel z old new i).arb = s.arb ∧ (s.handChannel z old new i).seq = s.seq ∧
    (s.handChannel z old new i).nmx = s.nmx ∧ (s.handChannel z old new i).mgt = s.mgt ∧
    (s.handChannel z old new i).ports = s.ports ∧ (s.handChannel z old new i).free = s.free ∧
    (s.handChannel z old new i).pending = s.pending := by
  unfold State.handChannel
  (repeat' split) <;> simp

@[simp] theorem State.handOutput_frame (z : ZoneId) (old new : Port) (i : Fin 2) :
    (s.handOutput z old new i).sli = s.sli ∧ (s.handOutput z old new i).mu = s.mu ∧
    (s.handOutput z old new i).sck = s.sck ∧ (s.handOutput z old new i).iou = s.iou ∧
    (s.handOutput z old new i).arb = s.arb ∧ (s.handOutput z old new i).seq = s.seq ∧
    (s.handOutput z old new i).lco = s.lco ∧ (s.handOutput z old new i).mgt = s.mgt ∧
    (s.handOutput z old new i).ports = s.ports ∧ (s.handOutput z old new i).free = s.free ∧
    (s.handOutput z old new i).pending = s.pending := by
  unfold State.handOutput
  (repeat' split) <;> simp

@[simp] theorem State.handAxis_frame (z : ZoneId) (old new : Port) (an : Option Announce) (i : Fin 8) :
    (s.handAxis z old new an i).sli = s.sli ∧ (s.handAxis z old new an i).mu = s.mu ∧
    (s.handAxis z old new an i).sck = s.sck ∧ (s.handAxis z old new an i).iou = s.iou ∧
    (s.handAxis z old new an i).arb = s.arb ∧ (s.handAxis z old new an i).lco = s.lco ∧
    (s.handAxis z old new an i).nmx = s.nmx ∧ (s.handAxis z old new an i).ports = s.ports ∧
    (s.handAxis z old new an i).free = s.free ∧ (s.handAxis z old new an i).pending = s.pending := by
  unfold State.handAxis
  dsimp only
  (repeat' split) <;> simp

@[simp] theorem State.handPresence_frame (z : ZoneId) (old new : Port) (ann : Option Announce) :
    (s.handPresence z old new ann).sli = s.sli ∧ (s.handPresence z old new ann).mu = s.mu ∧
    (s.handPresence z old new ann).sck = s.sck ∧ (s.handPresence z old new ann).iou = s.iou ∧
    (s.handPresence z old new ann).arb = s.arb ∧ (s.handPresence z old new ann).ports = s.ports ∧
    (s.handPresence z old new ann).free = s.free ∧ (s.handPresence z old new ann).pending = s.pending := by
  unfold State.handPresence
  dsimp only
  simp

@[simp] theorem State.levelNotices_frame (old new : Port) :
    (s.levelNotices old new).mu = s.mu ∧ (s.levelNotices old new).sck = s.sck ∧ (s.levelNotices old new).iou = s.iou ∧
    (s.levelNotices old new).arb = s.arb ∧ (s.levelNotices old new).seq = s.seq ∧
    (s.levelNotices old new).lco = s.lco ∧ (s.levelNotices old new).nmx = s.nmx ∧
    (s.levelNotices old new).mgt = s.mgt ∧ (s.levelNotices old new).ports = s.ports ∧
    (s.levelNotices old new).free = s.free ∧ (s.levelNotices old new).pending = s.pending := by
  unfold State.levelNotices
  dsimp only
  (repeat' split) <;> simp

@[simp] theorem State.censusChanged_frame (z : ZoneId) :
    (s.censusChanged z).mu = s.mu ∧ (s.censusChanged z).sck = s.sck ∧ (s.censusChanged z).iou = s.iou ∧
    (s.censusChanged z).arb = s.arb ∧ (s.censusChanged z).seq = s.seq ∧ (s.censusChanged z).lco = s.lco ∧
    (s.censusChanged z).nmx = s.nmx ∧ (s.censusChanged z).mgt = s.mgt ∧ (s.censusChanged z).free = s.free ∧
    (s.censusChanged z).pending = s.pending := by
  unfold State.censusChanged
  (repeat' split) <;> simp

@[simp] theorem State.censusEvent_frame (z : ZoneId) (census : Vector (Option CensusRec) 12) (ann : Option Announce) (c : Bool) :
    (s.censusEvent z census ann c).mu = s.mu ∧ (s.censusEvent z census ann c).sck = s.sck ∧
    (s.censusEvent z census ann c).iou = s.iou ∧ (s.censusEvent z census ann c).arb = s.arb ∧
    (s.censusEvent z census ann c).free = s.free ∧ (s.censusEvent z census ann c).pending = s.pending := by
  unfold State.censusEvent
  dsimp only
  (repeat' split) <;> simp

@[simp] theorem State.announce_frame (z : ZoneId) (q : PosId) (a : Announce) :
    (s.announce z q a).mu = s.mu ∧ (s.announce z q a).sck = s.sck ∧ (s.announce z q a).iou = s.iou ∧
    (s.announce z q a).arb = s.arb ∧ (s.announce z q a).free = s.free ∧ (s.announce z q a).pending = s.pending := by
  unfold State.announce
  dsimp only
  simp

@[simp] theorem State.handReply_frame (z : ZoneId) (w : Window) (q : PosId) :
    (s.handReply z w q).sli = s.sli ∧ (s.handReply z w q).mu = s.mu ∧ (s.handReply z w q).sck = s.sck ∧
    (s.handReply z w q).iou = s.iou ∧ (s.handReply z w q).arb = s.arb ∧ (s.handReply z w q).seq = s.seq ∧
    (s.handReply z w q).lco = s.lco ∧ (s.handReply z w q).nmx = s.nmx ∧ (s.handReply z w q).ports = s.ports ∧
    (s.handReply z w q).free = s.free ∧ (s.handReply z w q).pending = s.pending := by
  unfold State.handReply
  (repeat' split) <;> try simp only [and_self]
  refine ⟨forEach_sli ?_ _, forEach_mu ?_ _, forEach_sck ?_ _, forEach_iou ?_ _, forEach_arb ?_ _, forEach_seq ?_ _, forEach_lco ?_ _, forEach_nmx ?_ _, forEach_ports ?_ _, forEach_free ?_ _, forEach_pending ?_ _⟩ <;>
  · intro i t
    (repeat' split) <;> simp

@[simp] theorem State.closeWindow_frame (z : ZoneId) :
    (s.closeWindow z).mu = s.mu ∧ (s.closeWindow z).sck = s.sck ∧ (s.closeWindow z).iou = s.iou ∧
    (s.closeWindow z).arb = s.arb ∧ (s.closeWindow z).free = s.free ∧ (s.closeWindow z).pending = s.pending := by
  unfold State.closeWindow
  dsimp only
  (repeat' split) <;> simp

@[simp] theorem State.powerFaultEvent_frame (z : ZoneId) :
    (s.powerFaultEvent z).mu = s.mu ∧ (s.powerFaultEvent z).sck = s.sck ∧ (s.powerFaultEvent z).iou = s.iou ∧
    (s.powerFaultEvent z).arb = s.arb ∧ (s.powerFaultEvent z).free = s.free ∧
    (s.powerFaultEvent z).pending = s.pending := by
  unfold State.powerFaultEvent
  dsimp only
  (repeat' split) <;> simp

@[simp] theorem State.powerOn_frame (z : ZoneId) :
    (s.powerOn z).sli = s.sli ∧ (s.powerOn z).mu = s.mu ∧ (s.powerOn z).sck = s.sck ∧ (s.powerOn z).iou = s.iou ∧
    (s.powerOn z).arb = s.arb ∧ (s.powerOn z).lco = s.lco ∧ (s.powerOn z).nmx = s.nmx ∧ (s.powerOn z).free = s.free ∧
    (s.powerOn z).pending = s.pending := by
  unfold State.powerOn
  simp

@[simp] theorem State.holdOffBeat_frame (z : ZoneId) :
    (s.holdOffBeat z).sli = s.sli ∧ (s.holdOffBeat z).mu = s.mu ∧ (s.holdOffBeat z).sck = s.sck ∧
    (s.holdOffBeat z).iou = s.iou ∧ (s.holdOffBeat z).arb = s.arb ∧ (s.holdOffBeat z).lco = s.lco ∧
    (s.holdOffBeat z).nmx = s.nmx ∧ (s.holdOffBeat z).free = s.free ∧ (s.holdOffBeat z).pending = s.pending := by
  unfold State.holdOffBeat
  (repeat' split) <;> simp

@[simp] theorem State.senseBeat_frame (z : ZoneId) (fault : Bool) :
    (s.senseBeat z fault).mu = s.mu ∧ (s.senseBeat z fault).sck = s.sck ∧ (s.senseBeat z fault).iou = s.iou ∧
    (s.senseBeat z fault).arb = s.arb ∧ (s.senseBeat z fault).free = s.free ∧
    (s.senseBeat z fault).pending = s.pending := by
  unfold State.senseBeat
  (repeat' split) <;> simp

@[simp] theorem State.portBeat_frame (z : ZoneId) (fault : Bool) :
    (s.portBeat z fault).mu = s.mu ∧ (s.portBeat z fault).sck = s.sck ∧ (s.portBeat z fault).iou = s.iou ∧
    (s.portBeat z fault).arb = s.arb ∧ (s.portBeat z fault).free = s.free ∧
    (s.portBeat z fault).pending = s.pending := by
  unfold State.portBeat
  simp

/-! ### Indicators (Indicators) -/

@[simp] theorem State.judgeIndicator_frame (n : EntryId) :
    (s.judgeIndicator n).sli = s.sli ∧ (s.judgeIndicator n).mu = s.mu ∧ (s.judgeIndicator n).sck = s.sck ∧
    (s.judgeIndicator n).arb = s.arb ∧ (s.judgeIndicator n).seq = s.seq ∧ (s.judgeIndicator n).nmx = s.nmx ∧
    (s.judgeIndicator n).mgt = s.mgt ∧ (s.judgeIndicator n).ports = s.ports ∧ (s.judgeIndicator n).free = s.free ∧
    (s.judgeIndicator n).pending = s.pending := by
  unfold State.judgeIndicator
  dsimp only
  (repeat' split) <;> simp

@[simp] theorem State.judgeIndicators_frame :
    s.judgeIndicators.sli = s.sli ∧ s.judgeIndicators.mu = s.mu ∧ s.judgeIndicators.sck = s.sck ∧
    s.judgeIndicators.arb = s.arb ∧ s.judgeIndicators.seq = s.seq ∧ s.judgeIndicators.nmx = s.nmx ∧
    s.judgeIndicators.mgt = s.mgt ∧ s.judgeIndicators.ports = s.ports ∧ s.judgeIndicators.free = s.free ∧
    s.judgeIndicators.pending = s.pending := by
  unfold State.judgeIndicators
  simp

@[simp] theorem State.renewIndicators_frame :
    s.renewIndicators.sli = s.sli ∧ s.renewIndicators.mu = s.mu ∧ s.renewIndicators.sck = s.sck ∧
    s.renewIndicators.arb = s.arb ∧ s.renewIndicators.seq = s.seq ∧ s.renewIndicators.nmx = s.nmx ∧
    s.renewIndicators.mgt = s.mgt ∧ s.renewIndicators.ports = s.ports ∧ s.renewIndicators.free = s.free ∧
    s.renewIndicators.pending = s.pending := by
  unfold State.renewIndicators
  simp

/-! ### Segments, starts and ends (Sequencer) -/

@[simp] theorem State.lookPart_frame (k : SlotId) (g : BitVec 48) (l : Option (Fin 64 × Nat)) :
    (s.lookPart k g l).sli = s.sli ∧ (s.lookPart k g l).mu = s.mu ∧ (s.lookPart k g l).sck = s.sck ∧
    (s.lookPart k g l).iou = s.iou ∧ (s.lookPart k g l).arb = s.arb ∧ (s.lookPart k g l).nmx = s.nmx ∧
    (s.lookPart k g l).mgt = s.mgt ∧ (s.lookPart k g l).ports = s.ports ∧ (s.lookPart k g l).free = s.free ∧
    (s.lookPart k g l).pending = s.pending := by
  unfold State.lookPart
  (repeat' split) <;> simp

@[simp] theorem State.effectPart_frame (k : SlotId) (e : Option EffectPart) :
    (s.effectPart k e).sli = s.sli ∧ (s.effectPart k e).mu = s.mu ∧ (s.effectPart k e).sck = s.sck ∧
    (s.effectPart k e).iou = s.iou ∧ (s.effectPart k e).arb = s.arb ∧ (s.effectPart k e).seq = s.seq ∧
    (s.effectPart k e).nmx = s.nmx ∧ (s.effectPart k e).mgt = s.mgt ∧ (s.effectPart k e).ports = s.ports ∧
    (s.effectPart k e).free = s.free ∧ (s.effectPart k e).pending = s.pending := by
  unfold State.effectPart
  (repeat' split) <;> simp

@[simp] theorem State.cuePart_frame (k : SlotId) (i : SceneId) (z : ZoneId) (c : Option CuePart) :
    (s.cuePart k i z c).mu = s.mu ∧ (s.cuePart k i z c).sck = s.sck ∧ (s.cuePart k i z c).iou = s.iou ∧
    (s.cuePart k i z c).arb = s.arb ∧ (s.cuePart k i z c).mgt = s.mgt ∧ (s.cuePart k i z c).ports = s.ports ∧
    (s.cuePart k i z c).free = s.free ∧ (s.cuePart k i z c).pending = s.pending := by
  unfold State.cuePart
  (repeat' split) <;> simp

@[simp] theorem State.keyPart_frame (k : SlotId) (ks : Option (List KeyEntry)) :
    (s.keyPart k ks).sli = s.sli ∧ (s.keyPart k ks).mu = s.mu ∧ (s.keyPart k ks).sck = s.sck ∧
    (s.keyPart k ks).iou = s.iou ∧ (s.keyPart k ks).arb = s.arb ∧ (s.keyPart k ks).lco = s.lco ∧
    (s.keyPart k ks).nmx = s.nmx ∧ (s.keyPart k ks).ports = s.ports ∧ (s.keyPart k ks).free = s.free ∧
    (s.keyPart k ks).pending = s.pending := by
  unfold State.keyPart
  (repeat' split) <;> simp

@[simp] theorem State.flagPart_frame (f : Option (Bool × Fin 32)) :
    (s.flagPart f).sli = s.sli ∧ (s.flagPart f).mu = s.mu ∧ (s.flagPart f).sck = s.sck ∧ (s.flagPart f).iou = s.iou ∧
    (s.flagPart f).arb = s.arb ∧ (s.flagPart f).lco = s.lco ∧ (s.flagPart f).nmx = s.nmx ∧
    (s.flagPart f).mgt = s.mgt ∧ (s.flagPart f).ports = s.ports ∧ (s.flagPart f).free = s.free ∧
    (s.flagPart f).pending = s.pending := by
  unfold State.flagPart
  (repeat' split) <;> simp

@[simp] theorem State.segmentParts_frame (k : SlotId) (p : PlayRec) (sc : SceneRec) (g : Segment) :
    (s.segmentParts k p sc g).mu = s.mu ∧ (s.segmentParts k p sc g).sck = s.sck ∧
    (s.segmentParts k p sc g).iou = s.iou ∧ (s.segmentParts k p sc g).arb = s.arb ∧
    (s.segmentParts k p sc g).ports = s.ports ∧ (s.segmentParts k p sc g).free = s.free ∧
    (s.segmentParts k p sc g).pending = s.pending := by
  unfold State.segmentParts
  simp

@[simp] theorem State.beginSegment_frame (k : SlotId) (i : Nat) :
    (s.beginSegment k i).mu = s.mu ∧ (s.beginSegment k i).sck = s.sck ∧ (s.beginSegment k i).iou = s.iou ∧
    (s.beginSegment k i).arb = s.arb ∧ (s.beginSegment k i).ports = s.ports ∧ (s.beginSegment k i).free = s.free ∧
    (s.beginSegment k i).pending = s.pending := by
  unfold State.beginSegment
  (repeat' split) <;> simp

@[simp] theorem State.occupySlot_frame (k : SlotId) (r : Request) (sc : SceneRec) :
    (s.occupySlot k r sc).sli = s.sli ∧ (s.occupySlot k r sc).mu = s.mu ∧ (s.occupySlot k r sc).sck = s.sck ∧
    (s.occupySlot k r sc).iou = s.iou ∧ (s.occupySlot k r sc).arb = s.arb ∧ (s.occupySlot k r sc).mgt = s.mgt ∧
    (s.occupySlot k r sc).ports = s.ports ∧ (s.occupySlot k r sc).free = s.free ∧
    (s.occupySlot k r sc).pending = s.pending := by
  unfold State.occupySlot
  dsimp only
  simp

@[simp] theorem State.restartSlot_frame (k : SlotId) :
    (s.restartSlot k).mu = s.mu ∧ (s.restartSlot k).sck = s.sck ∧ (s.restartSlot k).iou = s.iou ∧
    (s.restartSlot k).arb = s.arb ∧ (s.restartSlot k).ports = s.ports ∧ (s.restartSlot k).free = s.free ∧
    (s.restartSlot k).pending = s.pending := by
  unfold State.restartSlot
  (repeat' split) <;> simp

@[simp] theorem State.endSlot_frame (k : SlotId) (reason : EndReason) (kept : Claims) :
    (s.endSlot k reason kept).mu = s.mu ∧ (s.endSlot k reason kept).sck = s.sck ∧
    (s.endSlot k reason kept).iou = s.iou ∧ (s.endSlot k reason kept).arb = s.arb ∧
    (s.endSlot k reason kept).ports = s.ports ∧ (s.endSlot k reason kept).free = s.free ∧
    (s.endSlot k reason kept).pending = s.pending := by
  unfold State.endSlot
  dsimp only
  (repeat' split) <;> simp

/-! ### Requests, the walk and the show state (Arbiter) -/

@[simp] theorem State.enter_frame (r : Request) (k : OutcomeKind) :
    (s.enter r k).mu = s.mu ∧ (s.enter r k).sck = s.sck ∧ (s.enter r k).iou = s.iou ∧ (s.enter r k).seq = s.seq ∧
    (s.enter r k).lco = s.lco ∧ (s.enter r k).nmx = s.nmx ∧ (s.enter r k).mgt = s.mgt ∧
    (s.enter r k).ports = s.ports ∧ (s.enter r k).free = s.free ∧ (s.enter r k).pending = s.pending := by
  unfold State.enter
  simp

@[simp] theorem State.enterPreempted_frame (k new : SlotId) (p : PlayRec) :
    (s.enterPreempted k new p).mu = s.mu ∧ (s.enterPreempted k new p).sck = s.sck ∧
    (s.enterPreempted k new p).iou = s.iou ∧ (s.enterPreempted k new p).seq = s.seq ∧
    (s.enterPreempted k new p).lco = s.lco ∧ (s.enterPreempted k new p).nmx = s.nmx ∧
    (s.enterPreempted k new p).mgt = s.mgt ∧ (s.enterPreempted k new p).ports = s.ports ∧
    (s.enterPreempted k new p).free = s.free ∧ (s.enterPreempted k new p).pending = s.pending := by
  unfold State.enterPreempted
  simp

@[simp] theorem State.judgeInsert_frame (r : Request) :
    (s.judgeInsert r).2.mu = s.mu ∧ (s.judgeInsert r).2.sck = s.sck ∧ (s.judgeInsert r).2.iou = s.iou ∧
    (s.judgeInsert r).2.seq = s.seq ∧ (s.judgeInsert r).2.lco = s.lco ∧ (s.judgeInsert r).2.nmx = s.nmx ∧
    (s.judgeInsert r).2.mgt = s.mgt ∧ (s.judgeInsert r).2.ports = s.ports ∧ (s.judgeInsert r).2.free = s.free ∧
    (s.judgeInsert r).2.pending = s.pending := by
  unfold State.judgeInsert
  dsimp only
  (repeat' split) <;> simp

@[simp] theorem State.depart_frame (r : Request) (d : Departure) :
    (s.depart r d).mu = s.mu ∧ (s.depart r d).sck = s.sck ∧ (s.depart r d).iou = s.iou ∧ (s.depart r d).seq = s.seq ∧
    (s.depart r d).lco = s.lco ∧ (s.depart r d).nmx = s.nmx ∧ (s.depart r d).mgt = s.mgt ∧
    (s.depart r d).ports = s.ports ∧ (s.depart r d).free = s.free ∧ (s.depart r d).pending = s.pending := by
  unfold State.depart
  simp

@[simp] theorem State.departAll_frame (test : Request → Bool) (d : Departure) :
    (s.departAll test d).mu = s.mu ∧ (s.departAll test d).sck = s.sck ∧ (s.departAll test d).iou = s.iou ∧
    (s.departAll test d).seq = s.seq ∧ (s.departAll test d).lco = s.lco ∧ (s.departAll test d).nmx = s.nmx ∧
    (s.departAll test d).mgt = s.mgt ∧ (s.departAll test d).ports = s.ports ∧ (s.departAll test d).free = s.free ∧
    (s.departAll test d).pending = s.pending := by
  unfold State.departAll
  simp

@[simp] theorem State.releaseClaims_frame (k : SlotId) (p : PlayRec) :
    (s.releaseClaims k p).mu = s.mu ∧ (s.releaseClaims k p).sck = s.sck ∧ (s.releaseClaims k p).iou = s.iou ∧
    (s.releaseClaims k p).ports = s.ports ∧ (s.releaseClaims k p).free = s.free ∧
    (s.releaseClaims k p).pending = s.pending := by
  unfold State.releaseClaims
  simp

@[simp] theorem State.freeSlot_frame (k : SlotId) (reason : EndReason) :
    (s.freeSlot k reason).mu = s.mu ∧ (s.freeSlot k reason).sck = s.sck ∧ (s.freeSlot k reason).iou = s.iou ∧
    (s.freeSlot k reason).ports = s.ports ∧ (s.freeSlot k reason).free = s.free ∧
    (s.freeSlot k reason).pending = s.pending := by
  unfold State.freeSlot
  (repeat' split) <;> simp

@[simp] theorem State.preemptOne_frame (new : SlotId) (kept : Claims) (k : SlotId) :
    (State.preemptOne new kept s k).mu = s.mu ∧ (State.preemptOne new kept s k).sck = s.sck ∧
    (State.preemptOne new kept s k).iou = s.iou ∧ (State.preemptOne new kept s k).ports = s.ports ∧
    (State.preemptOne new kept s k).free = s.free ∧ (State.preemptOne new kept s k).pending = s.pending := by
  unfold State.preemptOne
  (repeat' split) <;> simp

@[simp] theorem State.start_frame (new : SlotId) (r : Request) (sc : SceneRec) :
    (s.start new r sc).mu = s.mu ∧ (s.start new r sc).sck = s.sck ∧ (s.start new r sc).iou = s.iou ∧
    (s.start new r sc).ports = s.ports ∧ (s.start new r sc).free = s.free ∧
    (s.start new r sc).pending = s.pending := by
  unfold State.start
  dsimp only
  simp

@[simp] theorem State.walkFrom_frame (l : List Request) (blocked : BitVec 96) :
    (s.walkFrom l blocked).mu = s.mu ∧ (s.walkFrom l blocked).sck = s.sck ∧ (s.walkFrom l blocked).iou = s.iou ∧
    (s.walkFrom l blocked).ports = s.ports ∧ (s.walkFrom l blocked).free = s.free ∧
    (s.walkFrom l blocked).pending = s.pending := by
  induction l generalizing blocked s with
  | nil => simp [State.walkFrom]
  | cons r rs ih =>
    unfold State.walkFrom
    (repeat' split) <;> simp [ih]

@[simp] theorem State.walk_frame :
    s.walk.mu = s.mu ∧ s.walk.sck = s.sck ∧ s.walk.ports = s.ports ∧ s.walk.free = s.free ∧
    s.walk.pending = s.pending := by
  unfold State.walk
  simp

@[simp] theorem State.settle_frame (r : Request) :
    (s.settle r).2.mu = s.mu ∧ (s.settle r).2.sck = s.sck ∧ (s.settle r).2.ports = s.ports ∧
    (s.settle r).2.free = s.free ∧ (s.settle r).2.pending = s.pending := by
  unfold State.settle
  (repeat' split) <;> simp

@[simp] theorem State.arrive_frame (r : Request) :
    (s.arrive r).2.mu = s.mu ∧ (s.arrive r).2.sck = s.sck ∧ (s.arrive r).2.ports = s.ports ∧
    (s.arrive r).2.free = s.free ∧ (s.arrive r).2.pending = s.pending := by
  have h := State.judgeInsert_frame s r
  unfold State.arrive
  split <;> simp_all

@[simp] theorem State.request_frame (i : SceneId) (src : Source) (prio : Option Nat) (tag : Option Half) :
    (s.request i src prio tag).2.mu = s.mu ∧ (s.request i src prio tag).2.sck = s.sck ∧
    (s.request i src prio tag).2.ports = s.ports ∧ (s.request i src prio tag).2.pending = s.pending := by
  unfold State.request
  simp

@[simp] theorem State.endAndWalk_frame (k : SlotId) (reason : EndReason) :
    (s.endAndWalk k reason).mu = s.mu ∧ (s.endAndWalk k reason).sck = s.sck ∧
    (s.endAndWalk k reason).ports = s.ports ∧ (s.endAndWalk k reason).free = s.free ∧
    (s.endAndWalk k reason).pending = s.pending := by
  unfold State.endAndWalk
  simp

@[simp] theorem State.followOn_frame (i : SceneId) (src : Source) :
    (s.followOn i src).mu = s.mu ∧ (s.followOn i src).sck = s.sck ∧ (s.followOn i src).ports = s.ports ∧
    (s.followOn i src).pending = s.pending := by
  have h := State.judgeInsert_frame (s.afterNewRequest i none) (s.newRequest i src none none)
  unfold State.followOn
  dsimp only
  split <;> simp_all

@[simp] theorem State.handOver_frame (k : SlotId) (h : Option Completion) :
    (s.handOver k h).mu = s.mu ∧ (s.handOver k h).sck = s.sck ∧ (s.handOver k h).ports = s.ports ∧
    (s.handOver k h).pending = s.pending := by
  unfold State.handOver
  dsimp only
  (repeat' split) <;> simp

@[simp] theorem State.abandonOne_frame (k : SlotId) (p : Option PlayRec) :
    (s.abandonOne k p).mu = s.mu ∧ (s.abandonOne k p).sck = s.sck ∧ (s.abandonOne k p).iou = s.iou ∧
    (s.abandonOne k p).arb = s.arb ∧ (s.abandonOne k p).ports = s.ports ∧ (s.abandonOne k p).free = s.free ∧
    (s.abandonOne k p).pending = s.pending := by
  unfold State.abandonOne
  (repeat' split) <;> simp

@[simp] theorem State.releaseAndWalk_frame (k : SlotId) (p : Option PlayRec) :
    (s.releaseAndWalk k p).mu = s.mu ∧ (s.releaseAndWalk k p).sck = s.sck ∧ (s.releaseAndWalk k p).ports = s.ports ∧
    (s.releaseAndWalk k p).free = s.free ∧ (s.releaseAndWalk k p).pending = s.pending := by
  unfold State.releaseAndWalk
  (repeat' split) <;> simp

@[simp] theorem State.abandonZone_frame (z : ZoneId) :
    (s.abandonZone z).mu = s.mu ∧ (s.abandonZone z).sck = s.sck ∧ (s.abandonZone z).ports = s.ports ∧
    (s.abandonZone z).free = s.free ∧ (s.abandonZone z).pending = s.pending := by
  unfold State.abandonZone
  simp

@[simp] theorem State.endPlay_frame (k : SlotId) (p : PlayRec) (sc : SceneRec) :
    (s.endPlay k p sc).mu = s.mu ∧ (s.endPlay k p sc).sck = s.sck ∧ (s.endPlay k p sc).iou = s.iou ∧
    (s.endPlay k p sc).arb = s.arb ∧ (s.endPlay k p sc).ports = s.ports ∧ (s.endPlay k p sc).free = s.free ∧
    (s.endPlay k p sc).pending = s.pending := by
  unfold State.endPlay
  (repeat' split) <;> simp

@[simp] theorem State.slotAdvance_frame (k : SlotId) :
    (s.slotAdvance k).mu = s.mu ∧ (s.slotAdvance k).sck = s.sck ∧ (s.slotAdvance k).iou = s.iou ∧
    (s.slotAdvance k).arb = s.arb ∧ (s.slotAdvance k).ports = s.ports ∧ (s.slotAdvance k).free = s.free ∧
    (s.slotAdvance k).pending = s.pending := by
  unfold State.slotAdvance
  dsimp only
  (repeat' split) <;> simp

@[simp] theorem State.turnOf_frame (k : SlotId) :
    (s.turnOf k).mu = s.mu ∧ (s.turnOf k).sck = s.sck ∧ (s.turnOf k).iou = s.iou ∧ (s.turnOf k).arb = s.arb ∧
    (s.turnOf k).ports = s.ports ∧ (s.turnOf k).free = s.free ∧ (s.turnOf k).pending = s.pending := by
  unfold State.turnOf
  generalize (List.finRange 8).take k = l
  induction l generalizing s with
  | nil => simp
  | cons j l ih => simp [ih]

@[simp] theorem State.slotBeat_frame (k : SlotId) :
    (s.slotBeat k).mu = s.mu ∧ (s.slotBeat k).sck = s.sck ∧ (s.slotBeat k).ports = s.ports ∧
    (s.slotBeat k).pending = s.pending := by
  unfold State.slotBeat
  simp

@[simp] theorem State.seqBeat_frame :
    s.seqBeat.mu = s.mu ∧ s.seqBeat.sck = s.sck ∧ s.seqBeat.ports = s.ports ∧
    s.seqBeat.pending = s.pending := by
  unfold State.seqBeat
  simp

@[simp] theorem State.expire_frame (limit : Nat) :
    (s.expire limit).mu = s.mu ∧ (s.expire limit).sck = s.sck ∧ (s.expire limit).ports = s.ports ∧
    (s.expire limit).free = s.free ∧ (s.expire limit).pending = s.pending := by
  unfold State.expire
  dsimp only
  (repeat' split) <;> simp

@[simp] theorem State.arbBeat_frame :
    s.arbBeat.mu = s.mu ∧ s.arbBeat.sck = s.sck ∧ s.arbBeat.ports = s.ports ∧ s.arbBeat.free = s.free ∧
    s.arbBeat.pending = s.pending := by
  unfold State.arbBeat
  simp

@[simp] theorem State.arbHouse_frame (m : HouseMode) :
    (s.arbHouse m).mu = s.mu ∧ (s.arbHouse m).sck = s.sck ∧ (s.arbHouse m).ports = s.ports ∧
    (s.arbHouse m).free = s.free ∧ (s.arbHouse m).pending = s.pending := by
  unfold State.arbHouse
  simp

@[simp] theorem State.stopSlot_frame (k : SlotId) :
    (s.stopSlot k).2.mu = s.mu ∧ (s.stopSlot k).2.sck = s.sck ∧ (s.stopSlot k).2.ports = s.ports ∧
    (s.stopSlot k).2.free = s.free ∧ (s.stopSlot k).2.pending = s.pending := by
  unfold State.stopSlot
  (repeat' split) <;> simp

@[simp] theorem State.stopScene_frame (i : SceneId) :
    (s.stopScene i).2.mu = s.mu ∧ (s.stopScene i).2.sck = s.sck ∧ (s.stopScene i).2.ports = s.ports ∧
    (s.stopScene i).2.free = s.free ∧ (s.stopScene i).2.pending = s.pending := by
  unfold State.stopScene
  (repeat' split) <;> simp

@[simp] theorem State.setShow_frame (stopped : Bool) :
    (s.setShow stopped).mu = s.mu ∧ (s.setShow stopped).seq = s.seq ∧ (s.setShow stopped).lco = s.lco ∧
    (s.setShow stopped).nmx = s.nmx ∧ (s.setShow stopped).ports = s.ports ∧ (s.setShow stopped).free = s.free ∧
    (s.setShow stopped).pending = s.pending := by
  unfold State.setShow
  simp

@[simp] theorem State.stopShow_frame :
    s.stopShow.mu = s.mu ∧ s.stopShow.ports = s.ports ∧ s.stopShow.free = s.free ∧
    s.stopShow.pending = s.pending := by
  unfold State.stopShow
  dsimp only
  (repeat' split) <;> simp

@[simp] theorem State.resume_frame :
    s.resume.2.mu = s.mu ∧ s.resume.2.ports = s.ports ∧ s.resume.2.free = s.free ∧
    s.resume.2.pending = s.pending := by
  unfold State.resume
  (repeat' split) <;> simp

/-! ### Inputs (Inputs) -/

@[simp] theorem State.takeAnswer_frame (t : TrigRec) (src : Source) (a : Answer) :
    (s.takeAnswer t src a).2.mu = s.mu ∧ (s.takeAnswer t src a).2.sck = s.sck ∧
    (s.takeAnswer t src a).2.ports = s.ports ∧ (s.takeAnswer t src a).2.pending = s.pending := by
  unfold State.takeAnswer
  (repeat' split) <;> simp

@[simp] theorem State.act_frame (t : TrigRec) (src : Source) :
    (s.act t src).2.mu = s.mu ∧ (s.act t src).2.sck = s.sck ∧ (s.act t src).2.ports = s.ports ∧
    (s.act t src).2.pending = s.pending := by
  unfold State.act
  (repeat' split) <;> simp

@[simp] theorem State.fire_frame (n : EntryId) (src : Source) :
    (s.fire n src).2.mu = s.mu ∧ (s.fire n src).2.sck = s.sck ∧ (s.fire n src).2.ports = s.ports ∧
    (s.fire n src).2.pending = s.pending := by
  unfold State.fire
  (repeat' split) <;> simp

@[simp] theorem State.fireVirtual_frame (n : LineId) :
    (s.fireVirtual n).2.mu = s.mu ∧ (s.fireVirtual n).2.sck = s.sck ∧ (s.fireVirtual n).2.ports = s.ports ∧
    (s.fireVirtual n).2.pending = s.pending := by
  unfold State.fireVirtual
  simp

@[simp] theorem State.triggerArrival_frame (body : List Byte) :
    (s.triggerArrival body).mu = s.mu ∧ (s.triggerArrival body).sck = s.sck ∧
    (s.triggerArrival body).ports = s.ports ∧ (s.triggerArrival body).pending = s.pending := by
  unfold State.triggerArrival
  simp

@[simp] theorem State.occChanged_frame (z : ZoneId) (k : OccKind) :
    (s.occChanged z k).mu = s.mu ∧ (s.occChanged z k).sck = s.sck ∧ (s.occChanged z k).ports = s.ports ∧
    (s.occChanged z k).free = s.free ∧ (s.occChanged z k).pending = s.pending := by
  unfold State.occChanged
  dsimp only
  (repeat' split) <;> simp

@[simp] theorem State.setOcc_frame (z : ZoneId) (o : ZoneOcc) :
    (s.setOcc z o).mu = s.mu ∧ (s.setOcc z o).sck = s.sck ∧ (s.setOcc z o).ports = s.ports ∧
    (s.setOcc z o).free = s.free ∧ (s.setOcc z o).pending = s.pending := by
  unfold State.setOcc
  dsimp only
  (repeat' split) <;> simp

@[simp] theorem State.judgeZone_frame (z : ZoneId) :
    (s.judgeZone z).mu = s.mu ∧ (s.judgeZone z).sck = s.sck ∧ (s.judgeZone z).ports = s.ports ∧
    (s.judgeZone z).free = s.free ∧ (s.judgeZone z).pending = s.pending := by
  unfold State.judgeZone
  dsimp only
  (repeat' split) <;> simp

@[simp] theorem State.breakZone_frame (z : ZoneId) :
    (s.breakZone z).mu = s.mu ∧ (s.breakZone z).sck = s.sck ∧ (s.breakZone z).ports = s.ports ∧
    (s.breakZone z).free = s.free ∧ (s.breakZone z).pending = s.pending := by
  unfold State.breakZone
  (repeat' split) <;> simp

@[simp] theorem State.lingerBeat_frame (z : ZoneId) :
    (s.lingerBeat z).mu = s.mu ∧ (s.lingerBeat z).sck = s.sck ∧ (s.lingerBeat z).ports = s.ports ∧
    (s.lingerBeat z).free = s.free ∧ (s.lingerBeat z).pending = s.pending := by
  unfold State.lingerBeat
  dsimp only
  (repeat' split) <;> simp

@[simp] theorem State.onLine_frame (n : LineId) (f : LineRt → LineRt) :
    (s.onLine n f).sli = s.sli ∧ (s.onLine n f).mu = s.mu ∧ (s.onLine n f).sck = s.sck ∧ (s.onLine n f).arb = s.arb ∧
    (s.onLine n f).seq = s.seq ∧ (s.onLine n f).lco = s.lco ∧ (s.onLine n f).nmx = s.nmx ∧
    (s.onLine n f).mgt = s.mgt ∧ (s.onLine n f).ports = s.ports ∧ (s.onLine n f).free = s.free ∧
    (s.onLine n f).pending = s.pending := by
  unfold State.onLine
  simp

@[simp] theorem State.press_frame (n : LineId) :
    (s.press n).mu = s.mu ∧ (s.press n).sck = s.sck ∧ (s.press n).ports = s.ports ∧
    (s.press n).pending = s.pending := by
  unfold State.press
  (repeat' split) <;> simp

@[simp] theorem State.breakLine_frame (n : LineId) (zoneFirst : Bool) :
    (s.breakLine n zoneFirst).mu = s.mu ∧ (s.breakLine n zoneFirst).sck = s.sck ∧
    (s.breakLine n zoneFirst).ports = s.ports ∧ (s.breakLine n zoneFirst).pending = s.pending := by
  unfold State.breakLine
  dsimp only
  (repeat' split) <;> simp

@[simp] theorem State.acceptLine_frame (n : LineId) (high zoneFirst : Bool) :
    (s.acceptLine n high zoneFirst).mu = s.mu ∧ (s.acceptLine n high zoneFirst).sck = s.sck ∧
    (s.acceptLine n high zoneFirst).ports = s.ports ∧ (s.acceptLine n high zoneFirst).pending = s.pending := by
  unfold State.acceptLine
  dsimp only
  (repeat' split) <;> simp

@[simp] theorem State.judgeLineZone_frame (n : LineId) :
    (s.judgeLineZone n).mu = s.mu ∧ (s.judgeLineZone n).sck = s.sck ∧ (s.judgeLineZone n).ports = s.ports ∧
    (s.judgeLineZone n).free = s.free ∧ (s.judgeLineZone n).pending = s.pending := by
  unfold State.judgeLineZone
  split <;> simp

@[simp] theorem State.heldBeat_frame (n : LineId) :
    (s.heldBeat n).mu = s.mu ∧ (s.heldBeat n).sck = s.sck ∧ (s.heldBeat n).arb = s.arb ∧ (s.heldBeat n).seq = s.seq ∧
    (s.heldBeat n).lco = s.lco ∧ (s.heldBeat n).nmx = s.nmx ∧ (s.heldBeat n).mgt = s.mgt ∧
    (s.heldBeat n).ports = s.ports ∧ (s.heldBeat n).free = s.free ∧ (s.heldBeat n).pending = s.pending := by
  unfold State.heldBeat
  dsimp only
  (repeat' split) <;> simp

@[simp] theorem State.lockoutBeat_frame (n : LineId) :
    (s.lockoutBeat n).sli = s.sli ∧ (s.lockoutBeat n).mu = s.mu ∧ (s.lockoutBeat n).sck = s.sck ∧
    (s.lockoutBeat n).arb = s.arb ∧ (s.lockoutBeat n).seq = s.seq ∧ (s.lockoutBeat n).nmx = s.nmx ∧
    (s.lockoutBeat n).mgt = s.mgt ∧ (s.lockoutBeat n).ports = s.ports ∧ (s.lockoutBeat n).free = s.free ∧
    (s.lockoutBeat n).pending = s.pending := by
  unfold State.lockoutBeat
  dsimp only
  (repeat' split) <;> simp

@[simp] theorem State.lineBeat_frame (lines : BitVec 16) (zoneFirst : Bool) (n : LineId) :
    (s.lineBeat lines zoneFirst n).mu = s.mu ∧ (s.lineBeat lines zoneFirst n).sck = s.sck ∧
    (s.lineBeat lines zoneFirst n).ports = s.ports ∧ (s.lineBeat lines zoneFirst n).pending = s.pending := by
  unfold State.lineBeat
  dsimp only
  (repeat' split) <;> simp

@[simp] theorem State.acceptStop_frame (active : Bool) :
    (s.acceptStop active).mu = s.mu ∧ (s.acceptStop active).ports = s.ports ∧ (s.acceptStop active).free = s.free ∧
    (s.acceptStop active).pending = s.pending := by
  unfold State.acceptStop
  dsimp only
  (repeat' split) <;> simp

@[simp] theorem State.stopLineBeat_frame (active : Bool) :
    (s.stopLineBeat active).mu = s.mu ∧ (s.stopLineBeat active).ports = s.ports ∧
    (s.stopLineBeat active).free = s.free ∧ (s.stopLineBeat active).pending = s.pending := by
  unfold State.stopLineBeat
  (repeat' split) <;> simp

@[simp] theorem State.zoneBeat_frame (before : State) (lines : BitVec 16) (z : ZoneId) :
    (State.zoneBeat before lines z s).mu = s.mu ∧ (State.zoneBeat before lines z s).sck = s.sck ∧
    (State.zoneBeat before lines z s).ports = s.ports ∧ (State.zoneBeat before lines z s).free = s.free ∧
    (State.zoneBeat before lines z s).pending = s.pending := by
  unfold State.zoneBeat
  dsimp only
  (repeat' split) <;> simp

@[simp] theorem State.iouBeat_frame (b : BeatIn) :
    (s.iouBeat b).mu = s.mu ∧ (s.iouBeat b).ports = s.ports ∧ (s.iouBeat b).pending = s.pending := by
  unfold State.iouBeat
  dsimp only
  (repeat' split) <;> simp

/-! ### The clock (Clock) -/

@[simp] theorem State.changeMode_frame (m : HouseMode) (flagsFirst : Bool) :
    (s.changeMode m flagsFirst).mu = s.mu ∧ (s.changeMode m flagsFirst).ports = s.ports ∧
    (s.changeMode m flagsFirst).free = s.free ∧ (s.changeMode m flagsFirst).pending = s.pending := by
  unfold State.changeMode
  dsimp only
  (repeat' split) <;> simp

@[simp] theorem State.alarmAction_frame (n : AlarmId) (flagsFirst raced : Bool) (a : AlarmAction) :
    (s.alarmAction n flagsFirst raced a).mu = s.mu ∧ (s.alarmAction n flagsFirst raced a).ports = s.ports ∧
    (s.alarmAction n flagsFirst raced a).pending = s.pending := by
  unfold State.alarmAction
  (repeat' split) <;> simp

@[simp] theorem State.evaluateAlarm_frame (flagsFirst raced : Bool) (n : AlarmId) :
    (s.evaluateAlarm flagsFirst raced n).mu = s.mu ∧ (s.evaluateAlarm flagsFirst raced n).ports = s.ports ∧
    (s.evaluateAlarm flagsFirst raced n).pending = s.pending := by
  unfold State.evaluateAlarm
  dsimp only
  (repeat' split) <;> simp

@[simp] theorem State.sckBeat_frame (flagsFirst raced : Bool) :
    (s.sckBeat flagsFirst raced).mu = s.mu ∧ (s.sckBeat flagsFirst raced).ports = s.ports ∧
    (s.sckBeat flagsFirst raced).pending = s.pending := by
  unfold State.sckBeat
  dsimp only
  (repeat' split) <;> simp

/-! ### Loads (Load) -/

@[simp] theorem State.linesLoaded_frame (old : Vector LineRec 16) :
    (s.linesLoaded old).mu = s.mu ∧ (s.linesLoaded old).sck = s.sck ∧ (s.linesLoaded old).ports = s.ports ∧
    (s.linesLoaded old).free = s.free ∧ (s.linesLoaded old).pending = s.pending := by
  unfold State.linesLoaded
  dsimp only
  simp [apply_ite State.mu, apply_ite State.sck, apply_ite State.ports, apply_ite State.free, apply_ite State.pending]

@[simp] theorem State.afterLoad_frame (l : Load) (old : Tables) :
    (s.afterLoad l old).mu = s.mu ∧ (s.afterLoad l old).ports = s.ports ∧ (s.afterLoad l old).free = s.free ∧
    (s.afterLoad l old).pending = s.pending := by
  unfold State.afterLoad
  dsimp only
  (repeat' split) <;> simp [apply_ite State.mu, apply_ite State.ports, apply_ite State.free, apply_ite State.pending]

@[simp] theorem State.completeLoad_frame (l : Load) :
    (s.completeLoad l).ports = s.ports ∧ (s.completeLoad l).free = s.free ∧
    (s.completeLoad l).pending = s.pending := by
  unfold State.completeLoad
  dsimp only
  (repeat' split) <;> simp

@[simp] theorem State.muBeat_frame :
    s.muBeat.ports = s.ports ∧ s.muBeat.free = s.free ∧ s.muBeat.pending = s.pending := by
  unfold State.muBeat
  (repeat' split) <;> simp

/-! ### The link (Link) and the beat (Beat) -/

@[simp] theorem State.handStale_frame (src : SourceId) :
    (s.handStale src).mu = s.mu ∧ (s.handStale src).sck = s.sck ∧ (s.handStale src).iou = s.iou ∧
    (s.handStale src).arb = s.arb ∧ (s.handStale src).ports = s.ports ∧ (s.handStale src).free = s.free ∧
    (s.handStale src).pending = s.pending := by
  unfold State.handStale
  (repeat' split) <;> simp

@[simp] theorem State.sourceBeat_frame (src : SourceId) :
    (s.sourceBeat src).mu = s.mu ∧ (s.sourceBeat src).sck = s.sck ∧ (s.sourceBeat src).iou = s.iou ∧
    (s.sourceBeat src).arb = s.arb ∧ (s.sourceBeat src).ports = s.ports ∧ (s.sourceBeat src).free = s.free ∧
    (s.sourceBeat src).pending = s.pending := by
  unfold State.sourceBeat
  dsimp only
  (repeat' split) <;> simp

@[simp] theorem State.statusBeat_frame :
    s.statusBeat.mu = s.mu ∧ s.statusBeat.sck = s.sck ∧ s.statusBeat.iou = s.iou ∧ s.statusBeat.arb = s.arb ∧
    s.statusBeat.seq = s.seq ∧ s.statusBeat.lco = s.lco ∧ s.statusBeat.nmx = s.nmx ∧ s.statusBeat.mgt = s.mgt ∧
    s.statusBeat.ports = s.ports ∧ s.statusBeat.free = s.free ∧ s.statusBeat.pending = s.pending := by
  unfold State.statusBeat
  (repeat' split) <;> simp

@[simp] theorem State.sliBeat_frame :
    s.sliBeat.mu = s.mu ∧ s.sliBeat.sck = s.sck ∧ s.sliBeat.iou = s.iou ∧ s.sliBeat.arb = s.arb ∧
    s.sliBeat.ports = s.ports ∧ s.sliBeat.free = s.free ∧ s.sliBeat.pending = s.pending := by
  unfold State.sliBeat
  simp

@[simp] theorem State.lightArrival_frame (body : List Byte) :
    (s.lightArrival body).mu = s.mu ∧ (s.lightArrival body).sck = s.sck ∧ (s.lightArrival body).iou = s.iou ∧
    (s.lightArrival body).arb = s.arb ∧ (s.lightArrival body).seq = s.seq ∧ (s.lightArrival body).nmx = s.nmx ∧
    (s.lightArrival body).mgt = s.mgt ∧ (s.lightArrival body).ports = s.ports ∧ (s.lightArrival body).free = s.free ∧
    (s.lightArrival body).pending = s.pending := by
  unfold State.lightArrival
  (repeat' split) <;> simp

@[simp] theorem State.soundFrameArrival_frame (body : List Byte) :
    (s.soundFrameArrival body).mu = s.mu ∧ (s.soundFrameArrival body).sck = s.sck ∧
    (s.soundFrameArrival body).iou = s.iou ∧ (s.soundFrameArrival body).arb = s.arb ∧
    (s.soundFrameArrival body).seq = s.seq ∧ (s.soundFrameArrival body).mgt = s.mgt ∧
    (s.soundFrameArrival body).free = s.free ∧ (s.soundFrameArrival body).pending = s.pending := by
  unfold State.soundFrameArrival
  (repeat' split) <;> simp

@[simp] theorem State.thruArrival_frame (f : Frame) :
    (s.thruArrival f).mu = s.mu ∧ (s.thruArrival f).sck = s.sck ∧ (s.thruArrival f).iou = s.iou ∧
    (s.thruArrival f).arb = s.arb ∧ (s.thruArrival f).seq = s.seq ∧ (s.thruArrival f).lco = s.lco ∧
    (s.thruArrival f).nmx = s.nmx ∧ (s.thruArrival f).mgt = s.mgt ∧ (s.thruArrival f).ports = s.ports ∧
    (s.thruArrival f).free = s.free ∧ (s.thruArrival f).pending = s.pending := by
  unfold State.thruArrival
  (repeat' split) <;> simp

@[simp] theorem State.dropBad_frame (d : Side) (bytes : List Byte) :
    (s.dropBad d bytes).mu = s.mu ∧ (s.dropBad d bytes).sck = s.sck ∧ (s.dropBad d bytes).iou = s.iou ∧
    (s.dropBad d bytes).arb = s.arb ∧ (s.dropBad d bytes).seq = s.seq ∧ (s.dropBad d bytes).lco = s.lco ∧
    (s.dropBad d bytes).nmx = s.nmx ∧ (s.dropBad d bytes).mgt = s.mgt ∧ (s.dropBad d bytes).ports = s.ports ∧
    (s.dropBad d bytes).free = s.free ∧ (s.dropBad d bytes).pending = s.pending := by
  unfold State.dropBad
  (repeat' split) <;> simp

@[simp] theorem State.thruNext_frame :
    s.thruNext.mu = s.mu ∧ s.thruNext.sck = s.sck ∧ s.thruNext.iou = s.iou ∧ s.thruNext.arb = s.arb ∧
    s.thruNext.seq = s.seq ∧ s.thruNext.lco = s.lco ∧ s.thruNext.nmx = s.nmx ∧ s.thruNext.mgt = s.mgt ∧
    s.thruNext.ports = s.ports ∧ s.thruNext.free = s.free ∧ s.thruNext.pending = s.pending := by
  unfold State.thruNext
  simp

@[simp] theorem State.softReset_frame (stopped : Bool) :
    (s.softReset stopped).free = s.free ∧ (s.softReset stopped).pending = s.pending := by
  unfold State.softReset
  simp

@[simp] theorem State.blockBeat_frame (b : BeatIn) (k : Block) :
    (State.blockBeat b s k).pending = s.pending := by
  unfold State.blockBeat
  (repeat' split) <;> simp

@[simp] theorem State.beat_frame (b : BeatIn) :
    (s.beat b).pending = s.pending := by
  unfold State.beat
  simp

@[simp] theorem State.syncArrival_frame (b : BeatIn) :
    (s.syncArrival b).pending = s.pending := by
  unfold State.syncArrival
  dsimp only
  (repeat' split) <;> simp

end Sys2Proof.Machine
end

