-- ==== Sys2Proof/Laws/Commands.lean ====
section
/-! SUPPORT. How a frame and a command reach their block: one lemma for each way `receive` and `command` can go, and what
the own-report queue does with a report. -/

namespace Sys2Proof.Machine

/-! ### The own-report queue -/

/-- A STATUS asked for while one waits changes nothing. -/
theorem Sli.askStatus_waiting {x : Sli} (h : x.ownQueue.any Report.isStatus = true) : x.askStatus = x := by
  simp [Sli.askStatus, h]

/-- A STATUS asked for while none waits and there is room joins the tail. -/
theorem Sli.askStatus_room {x : Sli} (h : x.ownQueue.any Report.isStatus = false) (r : x.ownQueue.length < 32) :
    x.askStatus = { x with ownQueue := x.ownQueue ++ [.status] } := by
  simp [Sli.askStatus, h, r, Config.reportCap]

/-- A STATUS asked for while none waits at a full queue is owed. -/
theorem Sli.askStatus_full {x : Sli} (h : x.ownQueue.any Report.isStatus = false) (r : 32 ≤ x.ownQueue.length) :
    x.askStatus = { x with owed := true } := by
  simp [Sli.askStatus, h, Config.reportCap, Nat.not_lt.mpr r]

/-- A report handed to a queue with room joins the tail. -/
theorem Sli.join_room {x : Sli} (r : Report) (h : x.ownQueue.length < 32) :
    x.join r = { x with ownQueue := x.ownQueue ++ [r] } := by
  simp [Sli.join, h, Config.reportCap]

/-- A report handed to a full queue is dropped with REPORT-OVERRUN, which asks for a STATUS. -/
theorem Sli.join_full {x : Sli} (r : Report) (h : 32 ≤ x.ownQueue.length) :
    x.join r = { x with reportOverrun := true }.askStatus := by
  simp [Sli.join, Config.reportCap, Nat.not_lt.mpr h]

/-- Beside the queue and its two marks, asking for a STATUS leaves the SLI as it was. -/
theorem Sli.askStatus_rest (x : Sli) :
    { x.askStatus with ownQueue := x.ownQueue, owed := x.owed } = x := by
  unfold Sli.askStatus
  (repeat' split) <;> rfl

/-- Beside the queue, its marks and REPORT-OVERRUN, handing a report leaves the SLI as it was. -/
theorem Sli.join_rest (r : Report) (x : Sli) :
    { x.join r with ownQueue := x.ownQueue, owed := x.owed, reportOverrun := x.reportOverrun } = x := by
  unfold Sli.join Sli.askStatus
  (repeat' split) <;> rfl

/-! ### Addresses -/

/-- A unit's own address is no broadcast. -/
theorem State.isOwn_not_broadcast {s : State} {addr : Byte} (h : s.isOwn addr) : isBroadcast addr = false := by
  obtain ⟨rfl, n⟩ := h
  simp only [isBroadcast, beq_eq_false_iff_ne, ne_eq]
  intro e
  exact n (by bv_omega)

/-- A unit takes what is addressed to it. -/
theorem State.isOwn_takes {s : State} {addr : Byte} (h : s.isOwn addr) : s.takes addr = true := by
  simp [State.takes, h.1]

/-! ### Reception -/

/-- A frame addressed to the unit that agrees with its layout is recorded and acted on, and not passed on. -/
theorem State.receive_own {f : Frame} {s : State} (h : s.isOwn f.addr) (g : agrees f = true) (act : State → State) :
    s.receive f act = act (s.record f.seq) := by
  simp [State.receive, State.isOwn_takes h, State.isOwn_not_broadcast h, g, State.record]

/-- A frame addressed to the unit that disagrees with its layout is discarded with FORMAT. -/
theorem State.receive_format {f : Frame} {s : State} (h : s.isOwn f.addr) (g : agrees f = false)
    (act : State → State) : s.receive f act = (s.record f.seq).linkError .format .inSide := by
  simp [State.receive, State.isOwn_takes h, State.isOwn_not_broadcast h, g, State.record]

/-- A broadcast frame that agrees with its layout is recorded, acted on and passed on. -/
theorem State.receive_broadcast {f : Frame} {s : State} (h : f.addr = 15) (g : agrees f = true) (act : State → State) :
    s.receive f act = (act (s.record f.seq)).passOn f := by
  simp [State.receive, State.takes, h, isBroadcast, g, State.record]

/-- A frame for another unit is passed on alone. -/
theorem State.receive_other {f : Frame} {s : State} (h : s.takes f.addr = false) (act : State → State) :
    s.receive f act = s.passOn f := by
  simp [State.receive, h]

/-- A COMMAND frame addressed to the unit agrees with its layout, whatever its code and fields. -/
theorem agrees_command {s : State} {c : Cmd} (h : s.isOwn c.addr) (code : Byte) : agrees (Cmd.frame c code) = true := by
  have b := State.isOwn_not_broadcast h
  simp [agrees, Cmd.frame, put16, putN, b]

/-- A broadcast COMMAND frame of one of the four codes agrees with its layout. -/
theorem agrees_broadcast {c : Cmd} (h : c.addr = 15) {code : Byte} (g : broadcastCodes.contains code.toNat = true) :
    agrees (Cmd.frame c code) = true := by
  simp_all [agrees, Cmd.frame, put16, putN, isBroadcast, u8, byteAt]

/-! ### Commands -/

/-- A command addressed to the unit reaches the MU. -/
theorem State.command_own {c : Cmd} {s : State} (h : s.isOwn c.addr) (code : Byte) (form range : Bool)
    (run : State → Option Result × State) :
    s.command code c form range run = State.judgeCommand code c form range run (s.record c.seq) := by
  rw [State.command, State.receive_own (f := Cmd.frame c code) h (agrees_command h code)]
  rfl

/-- A command is answered BUSY while the MU is not IDLE. -/
theorem State.command_busy {c : Cmd} {s : State} (h : s.isOwn c.addr) (m : s.mu.st ≠ .idle) (code : Byte)
    (form range : Bool) (run : State → Option Result × State) :
    s.command code c form range run = (s.record c.seq).reply code .busy c.tag [] := by
  simp [State.command_own h, State.judgeCommand, State.isOwn_not_broadcast h, m]

/-- A command of the wrong form is answered BAD-COMMAND. -/
theorem State.command_form {c : Cmd} {s : State} (h : s.hears c) (code : Byte) (range : Bool)
    (run : State → Option Result × State) :
    s.command code c false range run = (s.record c.seq).reply code .badCommand c.tag [] := by
  simp [State.command_own h.1, State.judgeCommand, State.isOwn_not_broadcast h.1, h.2.1]

/-- A command with a field out of range is answered BAD-RANGE. -/
theorem State.command_range {c : Cmd} {s : State} (h : s.hears c) (code : Byte) (run : State → Option Result × State) :
    s.command code c true false run = (s.record c.seq).reply code .badRange c.tag [] := by
  simp [State.command_own h.1, State.judgeCommand, State.isOwn_not_broadcast h.1, h.2.1]

/-- A command in form and in range is executed and answered. -/
theorem State.command_run {c : Cmd} {s : State} (h : s.hears c) (code : Byte) (run : State → Option Result × State) :
    s.command code c true true run = State.answer code c.tag (run (s.record c.seq)) := by
  simp [State.command_own h.1, State.judgeCommand, State.isOwn_not_broadcast h.1, h.2.1]

/-- A broadcast command in form and in range is executed, unanswered, in every state of the MU, and passed on. -/
theorem State.command_broadcast {c : Cmd} {s : State} (h : c.addr = 15) {code : Byte}
    (g : broadcastCodes.contains code.toNat = true) (run : State → Option Result × State) :
    s.command code c true true run = (run (s.record c.seq)).2.passOn (Cmd.frame c code) := by
  rw [State.command, State.receive_broadcast (f := Cmd.frame c code) h (agrees_broadcast h g)]
  simp [State.judgeCommand, isBroadcast, h]
  rfl

/-! ### The command queue -/

/-- What the reception of a frame leaves is the state's, when its block leaves it. -/
theorem State.receive_pending {act : State → State} (h : ∀ t : State, (act t).pending = t.pending) (f : Frame)
    (s : State) : (s.receive f act).pending = s.pending := by
  unfold State.receive
  dsimp only
  (repeat' split) <;> simp [h]

/-- What a command leaves is the state's, when its execution leaves it. -/
theorem State.command_pending {run : State → Option Result × State} (h : ∀ t : State, (run t).2.pending = t.pending)
    (code : Byte) (c : Cmd) (form range : Bool) (s : State) :
    (s.command code c form range run).pending = s.pending := by
  refine State.receive_pending (fun t => ?_) _ s
  unfold State.judgeCommand State.answer
  (repeat' split) <;> simp [h]

end Sys2Proof.Machine
end

