-- ==== Sys2Proof/Laws/Exec.lean ====
section
/-! SUPPORT. What holds of every command: it answers a next state, and the command queue is as it was. -/

namespace Sys2Proof.Machine

/-- The departure of a report leaves the command queue. -/
theorem State.sendReport_pending (stop : Bool) (r : Report) (rest : List Report) (s : State) :
    (s.sendReport stop r rest).pending = s.pending := by
  unfold State.sendReport State.afterDeparture
  dsimp only
  (repeat' split) <;> simp

/-- The IN transmitter leaves the command queue. -/
@[simp] theorem State.inNext_pending (stop : Bool) (s : State) : (s.inNext stop).pending = s.pending := by
  unfold State.inNext State.sendForward
  (repeat' split) <;> simp [State.sendReport_pending]

/-- Every command answers a next state, with the command queue as it was. -/
theorem exec_pending (i : Instr) (s : State) : ∃ t, exec i s = .next t ∧ t.pending = s.pending := by
  cases i with
  | fullReset p b => exact ⟨_, rfl, rfl⟩
  | softReset b => refine ⟨_, rfl, ?_⟩; split <;> simp
  | trimmedIntervalEnd b => refine ⟨_, rfl, ?_⟩; split <;> simp
  | syncFrame f b => exact ⟨_, rfl, State.receive_pending (fun t => by simp) _ s⟩
  | selfMadeBeat b => refine ⟨_, rfl, ?_⟩; split <;> simp
  | lightFrame f => exact ⟨_, rfl, State.receive_pending (fun t => by simp) _ s⟩
  | soundFrame f => exact ⟨_, rfl, State.receive_pending (fun t => by simp) _ s⟩
  | motionFrame f => exact ⟨_, rfl, State.receive_pending (fun t => by simp) _ s⟩
  | triggerFrame f => exact ⟨_, rfl, State.receive_pending (fun t => by simp) _ s⟩
  | thruFrame f => exact ⟨_, rfl, by simp⟩
  | inTransmitNext b => exact ⟨_, rfl, by simp⟩
  | thruTransmitNext => exact ⟨_, rfl, by simp⟩
  | zbusTransmitNext z => exact ⟨_, rfl, by simp⟩
  | fixtureReply z b => simp only [exec, execFixtureReply]; split <;> exact ⟨_, rfl, by simp⟩
  | announcement z b => simp only [exec, execAnnouncement]; split <;> exact ⟨_, rfl, by simp⟩
  | motionPowerFault z => refine ⟨_, rfl, ?_⟩; split <;> simp
  | powerHoldoffExpiry z => refine ⟨_, rfl, ?_⟩; split <;> simp
  | showstopLineChange b => refine ⟨_, rfl, ?_⟩; split <;> simp
  | lineAcceptedChange n h z => refine ⟨_, rfl, ?_⟩; split <;> simp
  | lockoutExpiry n => refine ⟨_, rfl, ?_⟩; split <;> simp
  | buttonStuck n => refine ⟨_, rfl, ?_⟩; split <;> simp
  | presenceStuck n => refine ⟨_, rfl, ?_⟩; split <;> simp
  | lingerExpiry z => refine ⟨_, rfl, ?_⟩; split <;> simp
  | waitDeadlineExpiry => exact ⟨_, rfl, by simp⟩
  | playEnd k => refine ⟨_, rfl, ?_⟩; split <;> simp
  | segmentBegin k => refine ⟨_, rfl, ?_⟩; split <;> simp
  | fadeComplete c => refine ⟨_, rfl, ?_⟩; split <;> simp
  | effectPeriodWrap k => refine ⟨_, rfl, ?_⟩; split <;> simp
  | cueWaitExpiry k => refine ⟨_, rfl, ?_⟩; split <;> simp
  | rearmExpiry a => refine ⟨_, rfl, ?_⟩; split <;> simp
  | statusInterval => refine ⟨_, rfl, ?_⟩; split <;> simp
  | sourceStale x => refine ⟨_, rfl, ?_⟩; split <;> simp
  | loadComplete =>
    simp only [exec, execLoadComplete]
    split
    · refine ⟨_, rfl, ?_⟩; split <;> simp
    · exact ⟨_, rfl, rfl⟩
    · exact ⟨_, rfl, rfl⟩
  | loadTable c =>
    refine ⟨_, rfl, State.command_pending (fun t => ?_) ..⟩
    unfold State.runLoad; dsimp only; (repeat' split) <;> simp
  | readTable c =>
    refine ⟨_, rfl, State.command_pending (fun t => ?_) ..⟩
    unfold State.runRead; dsimp only; split <;> simp
  | readStatus c => exact ⟨_, rfl, State.command_pending (fun t => by simp [State.runImage]) ..⟩
  | readCensus c => exact ⟨_, rfl, State.command_pending (fun t => by simp [State.runCensus]) ..⟩
  | censusSweep c => exact ⟨_, rfl, State.command_pending (fun t => by simp [doneBy]) ..⟩
  | setTime c => exact ⟨_, rfl, State.command_pending (fun t => by simp [doneBy]) ..⟩
  | readTime c => exact ⟨_, rfl, State.command_pending (fun t => by simp [doneWith]) ..⟩
  | setTrim c => exact ⟨_, rfl, State.command_pending (fun t => by simp [doneBy]) ..⟩
  | setBeatSource c b =>
    refine ⟨_, rfl, State.command_pending (fun t => ?_) ..⟩
    unfold State.runSource; dsimp only; split <;> simp
  | setHouseMode c f => exact ⟨_, rfl, State.command_pending (fun t => by simp [doneBy]) ..⟩
  | startScene c => exact ⟨_, rfl, State.command_pending (fun t => by simp [State.runStart]) ..⟩
  | stopSceneByScene c => exact ⟨_, rfl, State.command_pending (fun t => by simp [State.runStopScene]) ..⟩
  | stopSceneBySlot c => exact ⟨_, rfl, State.command_pending (fun t => by simp [State.runStopSlot]) ..⟩
  | stopShow c => exact ⟨_, rfl, State.command_pending (fun t => by simp [doneBy]) ..⟩
  | resumeShow c => exact ⟨_, rfl, State.command_pending (fun t => by simp [State.runResume]) ..⟩
  | setFlags c => exact ⟨_, rfl, State.command_pending (fun t => by simp [doneBy]) ..⟩
  | clearFlags c => exact ⟨_, rfl, State.command_pending (fun t => by simp [doneBy]) ..⟩
  | readFlags c => exact ⟨_, rfl, State.command_pending (fun t => by simp [doneWith]) ..⟩
  | fireTrigger c => exact ⟨_, rfl, State.command_pending (fun t => by simp [State.runFire]) ..⟩
  | clearNotices c => exact ⟨_, rfl, State.command_pending (fun t => by simp [doneBy]) ..⟩
  | reset c b =>
    refine ⟨_, rfl, State.command_pending (fun t => ?_) ..⟩
    unfold State.runReset; dsimp only; split <;> simp
  | unknownCommand code c => exact ⟨_, rfl, State.command_pending (fun t => by simp [doneBy]) ..⟩
  | downstreamFramePassedOn f => refine ⟨_, rfl, ?_⟩; split <;> simp
  | badFrame d b => exact ⟨_, rfl, by simp⟩
  | formatFault f =>
    refine ⟨_, rfl, ?_⟩
    split
    · exact State.receive_pending (fun t => rfl) _ s
    · rfl

end Sys2Proof.Machine
end

