-- ==== Sys2Proof/Laws/Parts.lean ====
section
/-! SUPPORT. Parts of a block that operations on the block leave as they were: the companions of the theorems of Frames
for operations that touch a block in one part of it alone. -/

namespace Sys2Proof.Machine

/-! ### Folds -/

variable {γ : Type} {n : Nat}

@[simp] theorem forEach_iou_lines {f : Fin n → State → State} (h : ∀ i a, (f i a).iou.lines = a.iou.lines) (s : State) :
    (forEach n f s).iou.lines = s.iou.lines := forEach_same (g := fun s => s.iou.lines) h s
@[simp] theorem foldl_iou_lines {f : State → γ → State} (h : ∀ a x, (f a x).iou.lines = a.iou.lines) (l : List γ) (s : State) :
    (l.foldl f s).iou.lines = s.iou.lines := foldl_same (g := fun s => s.iou.lines) h l s
@[simp] theorem forEach_iou_zones {f : Fin n → State → State} (h : ∀ i a, (f i a).iou.zones = a.iou.zones) (s : State) :
    (forEach n f s).iou.zones = s.iou.zones := forEach_same (g := fun s => s.iou.zones) h s
@[simp] theorem foldl_iou_zones {f : State → γ → State} (h : ∀ a x, (f a x).iou.zones = a.iou.zones) (l : List γ) (s : State) :
    (l.foldl f s).iou.zones = s.iou.zones := foldl_same (g := fun s => s.iou.zones) h l s
@[simp] theorem forEach_iou_stopAccepted {f : Fin n → State → State} (h : ∀ i a, (f i a).iou.stopAccepted = a.iou.stopAccepted) (s : State) :
    (forEach n f s).iou.stopAccepted = s.iou.stopAccepted := forEach_same (g := fun s => s.iou.stopAccepted) h s
@[simp] theorem foldl_iou_stopAccepted {f : State → γ → State} (h : ∀ a x, (f a x).iou.stopAccepted = a.iou.stopAccepted) (l : List γ) (s : State) :
    (l.foldl f s).iou.stopAccepted = s.iou.stopAccepted := foldl_same (g := fun s => s.iou.stopAccepted) h l s
@[simp] theorem forEach_iou_stopDebounce {f : Fin n → State → State} (h : ∀ i a, (f i a).iou.stopDebounce = a.iou.stopDebounce) (s : State) :
    (forEach n f s).iou.stopDebounce = s.iou.stopDebounce := forEach_same (g := fun s => s.iou.stopDebounce) h s
@[simp] theorem foldl_iou_stopDebounce {f : State → γ → State} (h : ∀ a x, (f a x).iou.stopDebounce = a.iou.stopDebounce) (l : List γ) (s : State) :
    (l.foldl f s).iou.stopDebounce = s.iou.stopDebounce := foldl_same (g := fun s => s.iou.stopDebounce) h l s
@[simp] theorem forEach_iou_mode {f : Fin n → State → State} (h : ∀ i a, (f i a).iou.mode = a.iou.mode) (s : State) :
    (forEach n f s).iou.mode = s.iou.mode := forEach_same (g := fun s => s.iou.mode) h s
@[simp] theorem foldl_iou_mode {f : State → γ → State} (h : ∀ a x, (f a x).iou.mode = a.iou.mode) (l : List γ) (s : State) :
    (l.foldl f s).iou.mode = s.iou.mode := foldl_same (g := fun s => s.iou.mode) h l s
@[simp] theorem forEach_arb_mode {f : Fin n → State → State} (h : ∀ i a, (f i a).arb.mode = a.arb.mode) (s : State) :
    (forEach n f s).arb.mode = s.arb.mode := forEach_same (g := fun s => s.arb.mode) h s
@[simp] theorem foldl_arb_mode {f : State → γ → State} (h : ∀ a x, (f a x).arb.mode = a.arb.mode) (l : List γ) (s : State) :
    (l.foldl f s).arb.mode = s.arb.mode := foldl_same (g := fun s => s.arb.mode) h l s
@[simp] theorem forEach_arb_occ {f : Fin n → State → State} (h : ∀ i a, (f i a).arb.occ = a.arb.occ) (s : State) :
    (forEach n f s).arb.occ = s.arb.occ := forEach_same (g := fun s => s.arb.occ) h s
@[simp] theorem foldl_arb_occ {f : State → γ → State} (h : ∀ a x, (f a x).arb.occ = a.arb.occ) (l : List γ) (s : State) :
    (l.foldl f s).arb.occ = s.arb.occ := foldl_same (g := fun s => s.arb.occ) h l s
@[simp] theorem forEach_arb_showStopped {f : Fin n → State → State} (h : ∀ i a, (f i a).arb.showStopped = a.arb.showStopped) (s : State) :
    (forEach n f s).arb.showStopped = s.arb.showStopped := forEach_same (g := fun s => s.arb.showStopped) h s
@[simp] theorem foldl_arb_showStopped {f : State → γ → State} (h : ∀ a x, (f a x).arb.showStopped = a.arb.showStopped) (l : List γ) (s : State) :
    (l.foldl f s).arb.showStopped = s.arb.showStopped := foldl_same (g := fun s => s.arb.showStopped) h l s
@[simp] theorem forEach_seq_flags {f : Fin n → State → State} (h : ∀ i a, (f i a).seq.flags = a.seq.flags) (s : State) :
    (forEach n f s).seq.flags = s.seq.flags := forEach_same (g := fun s => s.seq.flags) h s
@[simp] theorem foldl_seq_flags {f : State → γ → State} (h : ∀ a x, (f a x).seq.flags = a.seq.flags) (l : List γ) (s : State) :
    (l.foldl f s).seq.flags = s.seq.flags := foldl_same (g := fun s => s.seq.flags) h l s
@[simp] theorem forEach_lco_masters {f : Fin n → State → State} (h : ∀ i a, (f i a).lco.masters = a.lco.masters) (s : State) :
    (forEach n f s).lco.masters = s.lco.masters := forEach_same (g := fun s => s.lco.masters) h s
@[simp] theorem foldl_lco_masters {f : State → γ → State} (h : ∀ a x, (f a x).lco.masters = a.lco.masters) (l : List γ) (s : State) :
    (l.foldl f s).lco.masters = s.lco.masters := foldl_same (g := fun s => s.lco.masters) h l s

/-! ### Operations on one block's part -/

@[simp] theorem Arb.enter_received (i : SceneId) (src : Source) (p : Nat) (k : OutcomeKind) (t : Option Half) (x : Arb) :
    (x.enter i src p k t).mode = x.mode ∧ (x.enter i src p k t).occ = x.occ ∧
    (x.enter i src p k t).showStopped = x.showStopped ∧ (x.enter i src p k t).queue = x.queue ∧
    (x.enter i src p k t).owners = x.owners := ⟨rfl, rfl, rfl, rfl, rfl⟩
@[simp] theorem Arb.release_received (k : SlotId) (m : BitVec 96) (x : Arb) :
    (x.release k m).mode = x.mode ∧ (x.release k m).occ = x.occ ∧ (x.release k m).showStopped = x.showStopped ∧
    (x.release k m).queue = x.queue ∧ (x.release k m).log = x.log := by
  unfold Arb.release
  simp
@[simp] theorem Arb.takeClaims_received (k : SlotId) (m : BitVec 96) (l : List SlotId) (x : Arb) :
    (x.takeClaims k m l).mode = x.mode ∧ (x.takeClaims k m l).occ = x.occ ∧
    (x.takeClaims k m l).showStopped = x.showStopped ∧ (x.takeClaims k m l).queue = x.queue ∧
    (x.takeClaims k m l).log = x.log := by
  unfold Arb.takeClaims
  simp
@[simp] theorem Lco.mapChannels_masters (f : ChannelId → Channel → Channel) (x : Lco) :
    (x.mapChannels f).masters = x.masters ∧ (x.mapChannels f).effects = x.effects ∧
    (x.mapChannels f).cueLive = x.cueLive := by
  unfold Lco.mapChannels
  simp
@[simp] theorem Lco.tellLive_masters (k : SlotId) (b : Bool) (x : Lco) :
    (x.tellLive k b).masters = x.masters ∧ (x.tellLive k b).effects = x.effects ∧
    (x.tellLive k b).channels = x.channels := ⟨rfl, rfl, rfl⟩
@[simp] theorem Lco.setEffect_masters (k : SlotId) (e : EffectPart) (x : Lco) :
    (x.setEffect k e).masters = x.masters ∧ (x.setEffect k e).channels = x.channels ∧
    (x.setEffect k e).cueLive = x.cueLive := ⟨rfl, rfl, rfl⟩
@[simp] theorem Lco.clearEffect_masters (k : SlotId) (x : Lco) :
    (x.clearEffect k).masters = x.masters ∧ (x.clearEffect k).channels = x.channels ∧
    (x.clearEffect k).cueLive = x.cueLive := ⟨rfl, rfl, rfl⟩
@[simp] theorem Lco.releaseGroups_masters (k : SlotId) (g : BitVec 48) (n : Nat) (x : Lco) :
    (x.releaseGroups k g n).masters = x.masters ∧ (x.releaseGroups k g n).effects = x.effects ∧
    (x.releaseGroups k g n).cueLive = x.cueLive := by
  unfold Lco.releaseGroups
  simp
@[simp] theorem Lco.holdGroups_masters (k : SlotId) (g : BitVec 48) (x : Lco) :
    (x.holdGroups k g).masters = x.masters ∧ (x.holdGroups k g).effects = x.effects ∧
    (x.holdGroups k g).cueLive = x.cueLive := by
  unfold Lco.holdGroups
  simp
@[simp] theorem Lco.dropAll_masters (x : Lco) :
    x.dropAll.masters = x.masters ∧ x.dropAll.cueLive = x.cueLive := by
  unfold Lco.dropAll
  simp
@[simp] theorem Lco.setIndicator_masters (c l : Nat) (x : Lco) :
    (x.setIndicator c l).masters = x.masters ∧ (x.setIndicator c l).effects = x.effects ∧
    (x.setIndicator c l).cueLive = x.cueLive := by
  unfold Lco.setIndicator
  split <;> exact ⟨rfl, rfl, rfl⟩
@[simp] theorem Lco.lookPair_masters (k : SlotId) (g : BitVec 48) (n : Nat) (x : Lco) (q : Nat × Nat) :
    (x.lookPair k g n q).masters = x.masters ∧ (x.lookPair k g n q).effects = x.effects ∧
    (x.lookPair k g n q).cueLive = x.cueLive := by
  unfold Lco.lookPair
  (repeat' split) <;> exact ⟨rfl, rfl, rfl⟩
@[simp] theorem Lco.applyLook_masters (k : SlotId) (g : BitVec 48) (r : LookRec) (n : Nat) (x : Lco) :
    (x.applyLook k g r n).masters = x.masters ∧ (x.applyLook k g r n).effects = x.effects ∧
    (x.applyLook k g r n).cueLive = x.cueLive :=
  ⟨foldl_same (fun a q => (a.lookPair_masters k g n q).1) _ _, foldl_same (fun a q => (a.lookPair_masters k g n q).2.1) _ _,
    foldl_same (fun a q => (a.lookPair_masters k g n q).2.2) _ _⟩

variable (s : State)

/-! ### The inputs, beside the indicators -/

@[simp] theorem State.judgeIndicator_iou (n : EntryId) :
    (s.judgeIndicator n).iou.lines = s.iou.lines ∧ (s.judgeIndicator n).iou.zones = s.iou.zones ∧
    (s.judgeIndicator n).iou.stopAccepted = s.iou.stopAccepted ∧
    (s.judgeIndicator n).iou.stopDebounce = s.iou.stopDebounce ∧ (s.judgeIndicator n).iou.mode = s.iou.mode := by
  unfold State.judgeIndicator
  dsimp only
  (repeat' split) <;> simp

@[simp] theorem State.judgeIndicators_iou :
    s.judgeIndicators.iou.lines = s.iou.lines ∧ s.judgeIndicators.iou.zones = s.iou.zones ∧
    s.judgeIndicators.iou.stopAccepted = s.iou.stopAccepted ∧
    s.judgeIndicators.iou.stopDebounce = s.iou.stopDebounce ∧ s.judgeIndicators.iou.mode = s.iou.mode := by
  unfold State.judgeIndicators
  simp

@[simp] theorem State.renewIndicators_iou :
    s.renewIndicators.iou.lines = s.iou.lines ∧ s.renewIndicators.iou.zones = s.iou.zones ∧
    s.renewIndicators.iou.stopAccepted = s.iou.stopAccepted ∧
    s.renewIndicators.iou.stopDebounce = s.iou.stopDebounce ∧ s.renewIndicators.iou.mode = s.iou.mode := by
  unfold State.renewIndicators
  simp

@[simp] theorem State.walk_iou :
    s.walk.iou.lines = s.iou.lines ∧ s.walk.iou.zones = s.iou.zones ∧ s.walk.iou.stopAccepted = s.iou.stopAccepted ∧
    s.walk.iou.stopDebounce = s.iou.stopDebounce ∧ s.walk.iou.mode = s.iou.mode := by
  unfold State.walk
  simp

@[simp] theorem State.settle_iou (r : Request) :
    (s.settle r).2.iou.lines = s.iou.lines ∧ (s.settle r).2.iou.zones = s.iou.zones ∧
    (s.settle r).2.iou.stopAccepted = s.iou.stopAccepted ∧ (s.settle r).2.iou.stopDebounce = s.iou.stopDebounce ∧
    (s.settle r).2.iou.mode = s.iou.mode := by
  unfold State.settle
  (repeat' split) <;> simp

@[simp] theorem State.arrive_iou (r : Request) :
    (s.arrive r).2.iou.lines = s.iou.lines ∧ (s.arrive r).2.iou.zones = s.iou.zones ∧
    (s.arrive r).2.iou.stopAccepted = s.iou.stopAccepted ∧ (s.arrive r).2.iou.stopDebounce = s.iou.stopDebounce ∧
    (s.arrive r).2.iou.mode = s.iou.mode := by
  have h := State.judgeInsert_frame s r
  unfold State.arrive
  split <;> simp_all

@[simp] theorem State.request_iou (i : SceneId) (src : Source) (prio : Option Nat) (tag : Option Half) :
    (s.request i src prio tag).2.iou.lines = s.iou.lines ∧ (s.request i src prio tag).2.iou.zones = s.iou.zones ∧
    (s.request i src prio tag).2.iou.stopAccepted = s.iou.stopAccepted ∧
    (s.request i src prio tag).2.iou.stopDebounce = s.iou.stopDebounce ∧
    (s.request i src prio tag).2.iou.mode = s.iou.mode := by
  unfold State.request
  simp

@[simp] theorem State.endAndWalk_iou (k : SlotId) (reason : EndReason) :
    (s.endAndWalk k reason).iou.lines = s.iou.lines ∧ (s.endAndWalk k reason).iou.zones = s.iou.zones ∧
    (s.endAndWalk k reason).iou.stopAccepted = s.iou.stopAccepted ∧
    (s.endAndWalk k reason).iou.stopDebounce = s.iou.stopDebounce ∧
    (s.endAndWalk k reason).iou.mode = s.iou.mode := by
  unfold State.endAndWalk
  simp

@[simp] theorem State.followOn_iou (i : SceneId) (src : Source) :
    (s.followOn i src).iou.lines = s.iou.lines ∧ (s.followOn i src).iou.zones = s.iou.zones ∧
    (s.followOn i src).iou.stopAccepted = s.iou.stopAccepted ∧
    (s.followOn i src).iou.stopDebounce = s.iou.stopDebounce ∧ (s.followOn i src).iou.mode = s.iou.mode := by
  have h := State.judgeInsert_frame (s.afterNewRequest i none) (s.newRequest i src none none)
  unfold State.followOn
  dsimp only
  split <;> simp_all

@[simp] theorem State.handOver_iou (k : SlotId) (h : Option Completion) :
    (s.handOver k h).iou.lines = s.iou.lines ∧ (s.handOver k h).iou.zones = s.iou.zones ∧
    (s.handOver k h).iou.stopAccepted = s.iou.stopAccepted ∧ (s.handOver k h).iou.stopDebounce = s.iou.stopDebounce ∧
    (s.handOver k h).iou.mode = s.iou.mode := by
  unfold State.handOver
  dsimp only
  (repeat' split) <;> simp

@[simp] theorem State.releaseAndWalk_iou (k : SlotId) (p : Option PlayRec) :
    (s.releaseAndWalk k p).iou.lines = s.iou.lines ∧ (s.releaseAndWalk k p).iou.zones = s.iou.zones ∧
    (s.releaseAndWalk k p).iou.stopAccepted = s.iou.stopAccepted ∧
    (s.releaseAndWalk k p).iou.stopDebounce = s.iou.stopDebounce ∧ (s.releaseAndWalk k p).iou.mode = s.iou.mode := by
  unfold State.releaseAndWalk
  (repeat' split) <;> simp

@[simp] theorem State.abandonZone_iou (z : ZoneId) :
    (s.abandonZone z).iou.lines = s.iou.lines ∧ (s.abandonZone z).iou.zones = s.iou.zones ∧
    (s.abandonZone z).iou.stopAccepted = s.iou.stopAccepted ∧
    (s.abandonZone z).iou.stopDebounce = s.iou.stopDebounce ∧ (s.abandonZone z).iou.mode = s.iou.mode := by
  unfold State.abandonZone
  simp

@[simp] theorem State.slotBeat_iou (k : SlotId) :
    (s.slotBeat k).iou.lines = s.iou.lines ∧ (s.slotBeat k).iou.zones = s.iou.zones ∧
    (s.slotBeat k).iou.stopAccepted = s.iou.stopAccepted ∧ (s.slotBeat k).iou.stopDebounce = s.iou.stopDebounce ∧
    (s.slotBeat k).iou.mode = s.iou.mode := by
  unfold State.slotBeat
  simp

@[simp] theorem State.seqBeat_iou :
    s.seqBeat.iou.lines = s.iou.lines ∧ s.seqBeat.iou.zones = s.iou.zones ∧
    s.seqBeat.iou.stopAccepted = s.iou.stopAccepted ∧ s.seqBeat.iou.stopDebounce = s.iou.stopDebounce ∧
    s.seqBeat.iou.mode = s.iou.mode := by
  unfold State.seqBeat
  simp

@[simp] theorem State.expire_iou (limit : Nat) :
    (s.expire limit).iou.lines = s.iou.lines ∧ (s.expire limit).iou.zones = s.iou.zones ∧
    (s.expire limit).iou.stopAccepted = s.iou.stopAccepted ∧ (s.expire limit).iou.stopDebounce = s.iou.stopDebounce ∧
    (s.expire limit).iou.mode = s.iou.mode := by
  unfold State.expire
  dsimp only
  (repeat' split) <;> simp

@[simp] theorem State.arbBeat_iou :
    s.arbBeat.iou.lines = s.iou.lines ∧ s.arbBeat.iou.zones = s.iou.zones ∧
    s.arbBeat.iou.stopAccepted = s.iou.stopAccepted ∧ s.arbBeat.iou.stopDebounce = s.iou.stopDebounce ∧
    s.arbBeat.iou.mode = s.iou.mode := by
  unfold State.arbBeat
  simp

@[simp] theorem State.arbHouse_iou (m : HouseMode) :
    (s.arbHouse m).iou.lines = s.iou.lines ∧ (s.arbHouse m).iou.zones = s.iou.zones ∧
    (s.arbHouse m).iou.stopAccepted = s.iou.stopAccepted ∧ (s.arbHouse m).iou.stopDebounce = s.iou.stopDebounce ∧
    (s.arbHouse m).iou.mode = s.iou.mode := by
  unfold State.arbHouse
  simp

@[simp] theorem State.stopSlot_iou (k : SlotId) :
    (s.stopSlot k).2.iou.lines = s.iou.lines ∧ (s.stopSlot k).2.iou.zones = s.iou.zones ∧
    (s.stopSlot k).2.iou.stopAccepted = s.iou.stopAccepted ∧ (s.stopSlot k).2.iou.stopDebounce = s.iou.stopDebounce ∧
    (s.stopSlot k).2.iou.mode = s.iou.mode := by
  unfold State.stopSlot
  (repeat' split) <;> simp

@[simp] theorem State.stopScene_iou (i : SceneId) :
    (s.stopScene i).2.iou.lines = s.iou.lines ∧ (s.stopScene i).2.iou.zones = s.iou.zones ∧
    (s.stopScene i).2.iou.stopAccepted = s.iou.stopAccepted ∧
    (s.stopScene i).2.iou.stopDebounce = s.iou.stopDebounce ∧ (s.stopScene i).2.iou.mode = s.iou.mode := by
  unfold State.stopScene
  (repeat' split) <;> simp

@[simp] theorem State.setShow_iou (stopped : Bool) :
    (s.setShow stopped).iou.lines = s.iou.lines ∧ (s.setShow stopped).iou.zones = s.iou.zones ∧
    (s.setShow stopped).iou.stopAccepted = s.iou.stopAccepted ∧
    (s.setShow stopped).iou.stopDebounce = s.iou.stopDebounce ∧ (s.setShow stopped).iou.mode = s.iou.mode := by
  unfold State.setShow
  simp

@[simp] theorem State.stopShow_iou :
    s.stopShow.iou.lines = s.iou.lines ∧ s.stopShow.iou.zones = s.iou.zones ∧
    s.stopShow.iou.stopAccepted = s.iou.stopAccepted ∧ s.stopShow.iou.stopDebounce = s.iou.stopDebounce ∧
    s.stopShow.iou.mode = s.iou.mode := by
  unfold State.stopShow
  dsimp only
  (repeat' split) <;> simp

@[simp] theorem State.resume_iou :
    s.resume.2.iou.lines = s.iou.lines ∧ s.resume.2.iou.zones = s.iou.zones ∧
    s.resume.2.iou.stopAccepted = s.iou.stopAccepted ∧ s.resume.2.iou.stopDebounce = s.iou.stopDebounce ∧
    s.resume.2.iou.mode = s.iou.mode := by
  unfold State.resume
  (repeat' split) <;> simp

@[simp] theorem State.takeAnswer_iou (t : TrigRec) (src : Source) (a : Answer) :
    (s.takeAnswer t src a).2.iou.lines = s.iou.lines ∧ (s.takeAnswer t src a).2.iou.zones = s.iou.zones ∧
    (s.takeAnswer t src a).2.iou.stopAccepted = s.iou.stopAccepted ∧
    (s.takeAnswer t src a).2.iou.stopDebounce = s.iou.stopDebounce ∧
    (s.takeAnswer t src a).2.iou.mode = s.iou.mode := by
  unfold State.takeAnswer
  (repeat' split) <;> simp

@[simp] theorem State.act_iou (t : TrigRec) (src : Source) :
    (s.act t src).2.iou.lines = s.iou.lines ∧ (s.act t src).2.iou.zones = s.iou.zones ∧
    (s.act t src).2.iou.stopAccepted = s.iou.stopAccepted ∧ (s.act t src).2.iou.stopDebounce = s.iou.stopDebounce ∧
    (s.act t src).2.iou.mode = s.iou.mode := by
  unfold State.act
  (repeat' split) <;> simp

@[simp] theorem State.fire_iou (n : EntryId) (src : Source) :
    (s.fire n src).2.iou.lines = s.iou.lines ∧ (s.fire n src).2.iou.zones = s.iou.zones ∧
    (s.fire n src).2.iou.stopAccepted = s.iou.stopAccepted ∧ (s.fire n src).2.iou.stopDebounce = s.iou.stopDebounce ∧
    (s.fire n src).2.iou.mode = s.iou.mode := by
  unfold State.fire
  (repeat' split) <;> simp

@[simp] theorem State.fireVirtual_iou (n : LineId) :
    (s.fireVirtual n).2.iou.lines = s.iou.lines ∧ (s.fireVirtual n).2.iou.zones = s.iou.zones ∧
    (s.fireVirtual n).2.iou.stopAccepted = s.iou.stopAccepted ∧
    (s.fireVirtual n).2.iou.stopDebounce = s.iou.stopDebounce ∧ (s.fireVirtual n).2.iou.mode = s.iou.mode := by
  unfold State.fireVirtual
  simp

@[simp] theorem State.triggerArrival_iou (body : List Byte) :
    (s.triggerArrival body).iou.lines = s.iou.lines ∧ (s.triggerArrival body).iou.zones = s.iou.zones ∧
    (s.triggerArrival body).iou.stopAccepted = s.iou.stopAccepted ∧
    (s.triggerArrival body).iou.stopDebounce = s.iou.stopDebounce ∧
    (s.triggerArrival body).iou.mode = s.iou.mode := by
  unfold State.triggerArrival
  simp

/-! ### What the ARB has received, and the show state -/

@[simp] theorem State.enter_arb (r : Request) (k : OutcomeKind) :
    (s.enter r k).arb.mode = s.arb.mode ∧ (s.enter r k).arb.occ = s.arb.occ ∧
    (s.enter r k).arb.showStopped = s.arb.showStopped := by
  unfold State.enter
  simp

@[simp] theorem State.enterPreempted_arb (k new : SlotId) (p : PlayRec) :
    (s.enterPreempted k new p).arb.mode = s.arb.mode ∧ (s.enterPreempted k new p).arb.occ = s.arb.occ ∧
    (s.enterPreempted k new p).arb.showStopped = s.arb.showStopped := by
  unfold State.enterPreempted
  simp

@[simp] theorem State.judgeInsert_arb (r : Request) :
    (s.judgeInsert r).2.arb.mode = s.arb.mode ∧ (s.judgeInsert r).2.arb.occ = s.arb.occ ∧
    (s.judgeInsert r).2.arb.showStopped = s.arb.showStopped := by
  unfold State.judgeInsert
  dsimp only
  (repeat' split) <;> simp

@[simp] theorem State.depart_arb (r : Request) (d : Departure) :
    (s.depart r d).arb.mode = s.arb.mode ∧ (s.depart r d).arb.occ = s.arb.occ ∧
    (s.depart r d).arb.showStopped = s.arb.showStopped := by
  unfold State.depart
  simp

@[simp] theorem State.departAll_arb (test : Request → Bool) (d : Departure) :
    (s.departAll test d).arb.mode = s.arb.mode ∧ (s.departAll test d).arb.occ = s.arb.occ ∧
    (s.departAll test d).arb.showStopped = s.arb.showStopped := by
  unfold State.departAll
  simp

@[simp] theorem State.releaseClaims_arb (k : SlotId) (p : PlayRec) :
    (s.releaseClaims k p).arb.mode = s.arb.mode ∧ (s.releaseClaims k p).arb.occ = s.arb.occ ∧
    (s.releaseClaims k p).arb.showStopped = s.arb.showStopped := by
  unfold State.releaseClaims
  simp

@[simp] theorem State.freeSlot_arb (k : SlotId) (reason : EndReason) :
    (s.freeSlot k reason).arb.mode = s.arb.mode ∧ (s.freeSlot k reason).arb.occ = s.arb.occ ∧
    (s.freeSlot k reason).arb.showStopped = s.arb.showStopped := by
  unfold State.freeSlot
  (repeat' split) <;> simp

@[simp] theorem State.preemptOne_arb (new : SlotId) (kept : Claims) (k : SlotId) :
    (State.preemptOne new kept s k).arb.mode = s.arb.mode ∧ (State.preemptOne new kept s k).arb.occ = s.arb.occ ∧
    (State.preemptOne new kept s k).arb.showStopped = s.arb.showStopped := by
  unfold State.preemptOne
  (repeat' split) <;> simp

@[simp] theorem State.start_arb (new : SlotId) (r : Request) (sc : SceneRec) :
    (s.start new r sc).arb.mode = s.arb.mode ∧ (s.start new r sc).arb.occ = s.arb.occ ∧
    (s.start new r sc).arb.showStopped = s.arb.showStopped := by
  unfold State.start
  dsimp only
  simp

@[simp] theorem State.walkFrom_arb (l : List Request) (blocked : BitVec 96) :
    (s.walkFrom l blocked).arb.mode = s.arb.mode ∧ (s.walkFrom l blocked).arb.occ = s.arb.occ ∧
    (s.walkFrom l blocked).arb.showStopped = s.arb.showStopped := by
  induction l generalizing blocked s with
  | nil => simp [State.walkFrom]
  | cons r rs ih =>
    unfold State.walkFrom
    (repeat' split) <;> simp [ih]

@[simp] theorem State.walk_arb :
    s.walk.arb.mode = s.arb.mode ∧ s.walk.arb.occ = s.arb.occ ∧ s.walk.arb.showStopped = s.arb.showStopped := by
  unfold State.walk
  simp

@[simp] theorem State.settle_arb (r : Request) :
    (s.settle r).2.arb.mode = s.arb.mode ∧ (s.settle r).2.arb.occ = s.arb.occ ∧
    (s.settle r).2.arb.showStopped = s.arb.showStopped := by
  unfold State.settle
  (repeat' split) <;> simp

@[simp] theorem State.arrive_arb (r : Request) :
    (s.arrive r).2.arb.mode = s.arb.mode ∧ (s.arrive r).2.arb.occ = s.arb.occ ∧
    (s.arrive r).2.arb.showStopped = s.arb.showStopped := by
  have h := State.judgeInsert_arb s r
  unfold State.arrive
  split <;> simp_all

@[simp] theorem State.request_arb (i : SceneId) (src : Source) (prio : Option Nat) (tag : Option Half) :
    (s.request i src prio tag).2.arb.mode = s.arb.mode ∧ (s.request i src prio tag).2.arb.occ = s.arb.occ ∧
    (s.request i src prio tag).2.arb.showStopped = s.arb.showStopped := by
  unfold State.request
  simp

@[simp] theorem State.endAndWalk_arb (k : SlotId) (reason : EndReason) :
    (s.endAndWalk k reason).arb.mode = s.arb.mode ∧ (s.endAndWalk k reason).arb.occ = s.arb.occ ∧
    (s.endAndWalk k reason).arb.showStopped = s.arb.showStopped := by
  unfold State.endAndWalk
  simp

@[simp] theorem State.followOn_arb (i : SceneId) (src : Source) :
    (s.followOn i src).arb.mode = s.arb.mode ∧ (s.followOn i src).arb.occ = s.arb.occ ∧
    (s.followOn i src).arb.showStopped = s.arb.showStopped := by
  have h := State.judgeInsert_arb (s.afterNewRequest i none) (s.newRequest i src none none)
  unfold State.followOn
  dsimp only
  split <;> simp_all

@[simp] theorem State.handOver_arb (k : SlotId) (h : Option Completion) :
    (s.handOver k h).arb.mode = s.arb.mode ∧ (s.handOver k h).arb.occ = s.arb.occ ∧
    (s.handOver k h).arb.showStopped = s.arb.showStopped := by
  unfold State.handOver
  dsimp only
  (repeat' split) <;> simp

@[simp] theorem State.releaseAndWalk_arb (k : SlotId) (p : Option PlayRec) :
    (s.releaseAndWalk k p).arb.mode = s.arb.mode ∧ (s.releaseAndWalk k p).arb.occ = s.arb.occ ∧
    (s.releaseAndWalk k p).arb.showStopped = s.arb.showStopped := by
  unfold State.releaseAndWalk
  (repeat' split) <;> simp

@[simp] theorem State.abandonZone_arb (z : ZoneId) :
    (s.abandonZone z).arb.mode = s.arb.mode ∧ (s.abandonZone z).arb.occ = s.arb.occ ∧
    (s.abandonZone z).arb.showStopped = s.arb.showStopped := by
  unfold State.abandonZone
  simp

@[simp] theorem State.slotBeat_arb (k : SlotId) :
    (s.slotBeat k).arb.mode = s.arb.mode ∧ (s.slotBeat k).arb.occ = s.arb.occ ∧
    (s.slotBeat k).arb.showStopped = s.arb.showStopped := by
  unfold State.slotBeat
  simp

@[simp] theorem State.seqBeat_arb :
    s.seqBeat.arb.mode = s.arb.mode ∧ s.seqBeat.arb.occ = s.arb.occ ∧
    s.seqBeat.arb.showStopped = s.arb.showStopped := by
  unfold State.seqBeat
  simp

@[simp] theorem State.expire_arb (limit : Nat) :
    (s.expire limit).arb.mode = s.arb.mode ∧ (s.expire limit).arb.occ = s.arb.occ ∧
    (s.expire limit).arb.showStopped = s.arb.showStopped := by
  unfold State.expire
  dsimp only
  (repeat' split) <;> simp

@[simp] theorem State.arbBeat_arb :
    s.arbBeat.arb.mode = s.arb.mode ∧ s.arbBeat.arb.occ = s.arb.occ ∧
    s.arbBeat.arb.showStopped = s.arb.showStopped := by
  unfold State.arbBeat
  simp

@[simp] theorem State.stopSlot_arb (k : SlotId) :
    (s.stopSlot k).2.arb.mode = s.arb.mode ∧ (s.stopSlot k).2.arb.occ = s.arb.occ ∧
    (s.stopSlot k).2.arb.showStopped = s.arb.showStopped := by
  unfold State.stopSlot
  (repeat' split) <;> simp

@[simp] theorem State.stopScene_arb (i : SceneId) :
    (s.stopScene i).2.arb.mode = s.arb.mode ∧ (s.stopScene i).2.arb.occ = s.arb.occ ∧
    (s.stopScene i).2.arb.showStopped = s.arb.showStopped := by
  unfold State.stopScene
  (repeat' split) <;> simp

@[simp] theorem State.takeAnswer_arb (t : TrigRec) (src : Source) (a : Answer) :
    (s.takeAnswer t src a).2.arb.mode = s.arb.mode ∧ (s.takeAnswer t src a).2.arb.occ = s.arb.occ ∧
    (s.takeAnswer t src a).2.arb.showStopped = s.arb.showStopped := by
  unfold State.takeAnswer
  (repeat' split) <;> simp

@[simp] theorem State.act_arb (t : TrigRec) (src : Source) :
    (s.act t src).2.arb.mode = s.arb.mode ∧ (s.act t src).2.arb.occ = s.arb.occ ∧
    (s.act t src).2.arb.showStopped = s.arb.showStopped := by
  unfold State.act
  (repeat' split) <;> simp

@[simp] theorem State.fire_arb (n : EntryId) (src : Source) :
    (s.fire n src).2.arb.mode = s.arb.mode ∧ (s.fire n src).2.arb.occ = s.arb.occ ∧
    (s.fire n src).2.arb.showStopped = s.arb.showStopped := by
  unfold State.fire
  (repeat' split) <;> simp

@[simp] theorem State.fireVirtual_arb (n : LineId) :
    (s.fireVirtual n).2.arb.mode = s.arb.mode ∧ (s.fireVirtual n).2.arb.occ = s.arb.occ ∧
    (s.fireVirtual n).2.arb.showStopped = s.arb.showStopped := by
  unfold State.fireVirtual
  simp

@[simp] theorem State.triggerArrival_arb (body : List Byte) :
    (s.triggerArrival body).arb.mode = s.arb.mode ∧ (s.triggerArrival body).arb.occ = s.arb.occ ∧
    (s.triggerArrival body).arb.showStopped = s.arb.showStopped := by
  unfold State.triggerArrival
  simp

/-! ### The story flags, beside a segment and the operations that write them -/

@[simp] theorem State.onPlay_flags (k : SlotId) (f : PlayRec → PlayRec) :
    (s.onPlay k f).seq.flags = s.seq.flags := by
  unfold State.onPlay
  (repeat' split) <;> simp

@[simp] theorem State.mark_flags (k : SlotId) (m : Mark) :
    (s.mark k m).seq.flags = s.seq.flags := by
  unfold State.mark
  simp

@[simp] theorem State.cueBeat_flags (k : SlotId) :
    (s.cueBeat k).seq.flags = s.seq.flags := by
  unfold State.cueBeat
  (repeat' split) <;> simp

@[simp] theorem State.nmxBeat_flags :
    s.nmxBeat.seq.flags = s.seq.flags := by
  unfold State.nmxBeat
  simp

@[simp] theorem State.newCue_flags (k : SlotId) (scene : SceneId) (home : ZoneId) (p : CuePart) :
    (s.newCue k scene home p).seq.flags = s.seq.flags := by
  unfold State.newCue
  dsimp only
  (repeat' split) <;> simp

@[simp] theorem State.loseCue_flags (t : StreamId) (k : SlotId) :
    (s.loseCue t k).seq.flags = s.seq.flags := by
  unfold State.loseCue
  (repeat' split) <;> simp

@[simp] theorem State.streamStale_flags (t : StreamId) :
    (s.streamStale t).seq.flags = s.seq.flags := by
  unfold State.streamStale
  simp

@[simp] theorem State.judgeAxis_flags (a : AxisId) :
    (s.judgeAxis a).seq.flags = s.seq.flags := by
  unfold State.judgeAxis
  dsimp only
  (repeat' split) <;> simp

@[simp] theorem State.judgeAxes_flags :
    s.judgeAxes.seq.flags = s.seq.flags := by
  unfold State.judgeAxes
  simp

@[simp] theorem State.axisPresent_flags (a : AxisId) (p : Int) :
    (s.axisPresent a p).seq.flags = s.seq.flags := by
  unfold State.axisPresent
  simp

@[simp] theorem State.axisAbsent_flags (a : AxisId) :
    (s.axisAbsent a).seq.flags = s.seq.flags := by
  unfold State.axisAbsent
  simp

@[simp] theorem State.axisAnnounced_flags (a : AxisId) (p : Int) :
    (s.axisAnnounced a p).seq.flags = s.seq.flags := by
  unfold State.axisAnnounced
  (repeat' split) <;> simp

@[simp] theorem State.markOwner_flags (z : ZoneId) (a : AxisId) :
    (s.markOwner z a).seq.flags = s.seq.flags := by
  unfold State.markOwner
  (repeat' split) <;> simp

@[simp] theorem State.powerFaultStart_flags (z : ZoneId) :
    (s.powerFaultStart z).seq.flags = s.seq.flags := by
  unfold State.powerFaultStart
  simp

@[simp] theorem State.powerFaultEnd_flags (z : ZoneId) :
    (s.powerFaultEnd z).seq.flags = s.seq.flags := by
  unfold State.powerFaultEnd
  simp

@[simp] theorem State.takeSetpoint_flags (body : List Byte) (a : AxisId) :
    (s.takeSetpoint body a).seq.flags = s.seq.flags := by
  unfold State.takeSetpoint
  (repeat' split) <;> simp

@[simp] theorem State.motionArrival_flags (body : List Byte) :
    (s.motionArrival body).seq.flags = s.seq.flags := by
  unfold State.motionArrival
  simp

@[simp] theorem State.giveKey_flags (k : SlotId) (e : KeyEntry) :
    (s.giveKey k e).seq.flags = s.seq.flags := by
  unfold State.giveKey
  dsimp only
  (repeat' split) <;> simp

@[simp] theorem State.mgtOccupancy_flags (z : ZoneId) (o : OccKind) :
    (s.mgtOccupancy z o).seq.flags = s.seq.flags := by
  unfold State.mgtOccupancy
  dsimp only
  simp

@[simp] theorem State.envLoaded_flags (a : AxisId) (old : EnvRec) :
    (s.envLoaded a old).seq.flags = s.seq.flags := by
  unfold State.envLoaded
  dsimp only
  (repeat' split) <;> simp

@[simp] theorem State.axisBeat_flags (a : AxisId) :
    (s.axisBeat a).seq.flags = s.seq.flags := by
  unfold State.axisBeat
  simp

@[simp] theorem State.mgtBeat_flags :
    s.mgtBeat.seq.flags = s.seq.flags := by
  unfold State.mgtBeat
  simp

@[simp] theorem State.handAxis_flags (z : ZoneId) (old new : Port) (an : Option Announce) (i : Fin 8) :
    (s.handAxis z old new an i).seq.flags = s.seq.flags := by
  unfold State.handAxis
  dsimp only
  (repeat' split) <;> simp

@[simp] theorem State.handPresence_flags (z : ZoneId) (old new : Port) (ann : Option Announce) :
    (s.handPresence z old new ann).seq.flags = s.seq.flags := by
  unfold State.handPresence
  dsimp only
  simp

@[simp] theorem State.censusEvent_flags (z : ZoneId) (census : Vector (Option CensusRec) 12) (ann : Option Announce) (c : Bool) :
    (s.censusEvent z census ann c).seq.flags = s.seq.flags := by
  unfold State.censusEvent
  dsimp only
  (repeat' split) <;> simp

@[simp] theorem State.announce_flags (z : ZoneId) (q : PosId) (a : Announce) :
    (s.announce z q a).seq.flags = s.seq.flags := by
  unfold State.announce
  dsimp only
  simp

@[simp] theorem State.closeWindow_flags (z : ZoneId) :
    (s.closeWindow z).seq.flags = s.seq.flags := by
  unfold State.closeWindow
  dsimp only
  (repeat' split) <;> simp

@[simp] theorem State.powerFaultEvent_flags (z : ZoneId) :
    (s.powerFaultEvent z).seq.flags = s.seq.flags := by
  unfold State.powerFaultEvent
  dsimp only
  (repeat' split) <;> simp

@[simp] theorem State.powerOn_flags (z : ZoneId) :
    (s.powerOn z).seq.flags = s.seq.flags := by
  unfold State.powerOn
  simp

@[simp] theorem State.holdOffBeat_flags (z : ZoneId) :
    (s.holdOffBeat z).seq.flags = s.seq.flags := by
  unfold State.holdOffBeat
  (repeat' split) <;> simp

@[simp] theorem State.senseBeat_flags (z : ZoneId) (fault : Bool) :
    (s.senseBeat z fault).seq.flags = s.seq.flags := by
  unfold State.senseBeat
  (repeat' split) <;> simp

@[simp] theorem State.portBeat_flags (z : ZoneId) (fault : Bool) :
    (s.portBeat z fault).seq.flags = s.seq.flags := by
  unfold State.portBeat
  simp

@[simp] theorem State.lookPart_flags (k : SlotId) (g : BitVec 48) (l : Option (Fin 64 × Nat)) :
    (s.lookPart k g l).seq.flags = s.seq.flags := by
  unfold State.lookPart
  (repeat' split) <;> simp

@[simp] theorem State.cuePart_flags (k : SlotId) (i : SceneId) (z : ZoneId) (c : Option CuePart) :
    (s.cuePart k i z c).seq.flags = s.seq.flags := by
  unfold State.cuePart
  (repeat' split) <;> simp

@[simp] theorem State.keyPart_flags (k : SlotId) (ks : Option (List KeyEntry)) :
    (s.keyPart k ks).seq.flags = s.seq.flags := by
  unfold State.keyPart
  (repeat' split) <;> simp

@[simp] theorem State.occupySlot_flags (k : SlotId) (r : Request) (sc : SceneRec) :
    (s.occupySlot k r sc).seq.flags = s.seq.flags := by
  unfold State.occupySlot
  dsimp only
  simp

@[simp] theorem State.endSlot_flags (k : SlotId) (reason : EndReason) (kept : Claims) :
    (s.endSlot k reason kept).seq.flags = s.seq.flags := by
  unfold State.endSlot
  dsimp only
  (repeat' split) <;> simp

@[simp] theorem State.releaseClaims_flags (k : SlotId) (p : PlayRec) :
    (s.releaseClaims k p).seq.flags = s.seq.flags := by
  unfold State.releaseClaims
  simp

@[simp] theorem State.freeSlot_flags (k : SlotId) (reason : EndReason) :
    (s.freeSlot k reason).seq.flags = s.seq.flags := by
  unfold State.freeSlot
  (repeat' split) <;> simp

@[simp] theorem State.preemptOne_flags (new : SlotId) (kept : Claims) (k : SlotId) :
    (State.preemptOne new kept s k).seq.flags = s.seq.flags := by
  unfold State.preemptOne
  (repeat' split) <;> simp

@[simp] theorem State.stopShow_flags :
    s.stopShow.seq.flags = s.seq.flags := by
  unfold State.stopShow
  dsimp only
  (repeat' split) <;> simp

@[simp] theorem State.resume_flags :
    s.resume.2.seq.flags = s.seq.flags := by
  unfold State.resume
  (repeat' split) <;> simp

@[simp] theorem State.handStale_flags (src : SourceId) :
    (s.handStale src).seq.flags = s.seq.flags := by
  unfold State.handStale
  (repeat' split) <;> simp

@[simp] theorem State.sourceBeat_flags (src : SourceId) :
    (s.sourceBeat src).seq.flags = s.seq.flags := by
  unfold State.sourceBeat
  dsimp only
  (repeat' split) <;> simp

@[simp] theorem State.sliBeat_flags :
    s.sliBeat.seq.flags = s.seq.flags := by
  unfold State.sliBeat
  simp

/-! ### The masters -/

@[simp] theorem State.effectBeat_lights (k : SlotId) :
    (s.effectBeat k).lco.masters = s.lco.masters := by
  unfold State.effectBeat
  (repeat' split) <;> simp

@[simp] theorem State.layerBeat_lights (c : ChannelId) :
    (s.layerBeat c).lco.masters = s.lco.masters := by
  unfold State.layerBeat
  simp

@[simp] theorem State.lcoBeat_lights :
    s.lcoBeat.lco.masters = s.lco.masters := by
  unfold State.lcoBeat
  dsimp only
  simp

@[simp] theorem State.cancelCue_lights (k : SlotId) (cause : CancelCause) :
    (s.cancelCue k cause).lco.masters = s.lco.masters := by
  unfold State.cancelCue
  dsimp only
  (repeat' split) <;> simp

@[simp] theorem State.newCue_lights (k : SlotId) (scene : SceneId) (home : ZoneId) (p : CuePart) :
    (s.newCue k scene home p).lco.masters = s.lco.masters := by
  unfold State.newCue
  dsimp only
  (repeat' split) <;> simp

@[simp] theorem State.loseCue_lights (t : StreamId) (k : SlotId) :
    (s.loseCue t k).lco.masters = s.lco.masters := by
  unfold State.loseCue
  (repeat' split) <;> simp

@[simp] theorem State.streamStale_lights (t : StreamId) :
    (s.streamStale t).lco.masters = s.lco.masters := by
  unfold State.streamStale
  simp

@[simp] theorem State.cancelAllCues_lights :
    s.cancelAllCues.lco.masters = s.lco.masters := by
  unfold State.cancelAllCues
  simp

@[simp] theorem State.matchTag_lights (blocks : List StreamBlock) (k : SlotId) :
    (s.matchTag blocks k).lco.masters = s.lco.masters := by
  unfold State.matchTag
  (repeat' split) <;> simp

@[simp] theorem State.finishCue_lights (blocks : List StreamBlock) (k : SlotId) :
    (s.finishCue blocks k).lco.masters = s.lco.masters := by
  unfold State.finishCue
  (repeat' split) <;> simp

@[simp] theorem State.soundArrival_lights (blocks : List StreamBlock) :
    (s.soundArrival blocks).lco.masters = s.lco.masters := by
  unfold State.soundArrival
  dsimp only
  simp

@[simp] theorem State.handChannel_lights (z : ZoneId) (old new : Port) (i : Fin 192) :
    (s.handChannel z old new i).lco.masters = s.lco.masters := by
  unfold State.handChannel
  (repeat' split) <;> simp

@[simp] theorem State.handPresence_lights (z : ZoneId) (old new : Port) (ann : Option Announce) :
    (s.handPresence z old new ann).lco.masters = s.lco.masters := by
  unfold State.handPresence
  dsimp only
  simp

@[simp] theorem State.censusEvent_lights (z : ZoneId) (census : Vector (Option CensusRec) 12) (ann : Option Announce) (c : Bool) :
    (s.censusEvent z census ann c).lco.masters = s.lco.masters := by
  unfold State.censusEvent
  dsimp only
  (repeat' split) <;> simp

@[simp] theorem State.announce_lights (z : ZoneId) (q : PosId) (a : Announce) :
    (s.announce z q a).lco.masters = s.lco.masters := by
  unfold State.announce
  dsimp only
  simp

@[simp] theorem State.closeWindow_lights (z : ZoneId) :
    (s.closeWindow z).lco.masters = s.lco.masters := by
  unfold State.closeWindow
  dsimp only
  (repeat' split) <;> simp

@[simp] theorem State.judgeIndicator_lights (n : EntryId) :
    (s.judgeIndicator n).lco.masters = s.lco.masters := by
  unfold State.judgeIndicator
  dsimp only
  (repeat' split) <;> simp

@[simp] theorem State.judgeIndicators_lights :
    s.judgeIndicators.lco.masters = s.lco.masters := by
  unfold State.judgeIndicators
  simp

@[simp] theorem State.renewIndicators_lights :
    s.renewIndicators.lco.masters = s.lco.masters := by
  unfold State.renewIndicators
  simp

@[simp] theorem State.lookPart_lights (k : SlotId) (g : BitVec 48) (l : Option (Fin 64 × Nat)) :
    (s.lookPart k g l).lco.masters = s.lco.masters := by
  unfold State.lookPart
  (repeat' split) <;> simp

@[simp] theorem State.effectPart_lights (k : SlotId) (e : Option EffectPart) :
    (s.effectPart k e).lco.masters = s.lco.masters := by
  unfold State.effectPart
  (repeat' split) <;> simp

@[simp] theorem State.cuePart_lights (k : SlotId) (i : SceneId) (z : ZoneId) (c : Option CuePart) :
    (s.cuePart k i z c).lco.masters = s.lco.masters := by
  unfold State.cuePart
  (repeat' split) <;> simp

@[simp] theorem State.segmentParts_lights (k : SlotId) (p : PlayRec) (sc : SceneRec) (g : Segment) :
    (s.segmentParts k p sc g).lco.masters = s.lco.masters := by
  unfold State.segmentParts
  simp

@[simp] theorem State.beginSegment_lights (k : SlotId) (i : Nat) :
    (s.beginSegment k i).lco.masters = s.lco.masters := by
  unfold State.beginSegment
  (repeat' split) <;> simp

@[simp] theorem State.occupySlot_lights (k : SlotId) (r : Request) (sc : SceneRec) :
    (s.occupySlot k r sc).lco.masters = s.lco.masters := by
  unfold State.occupySlot
  dsimp only
  simp

@[simp] theorem State.restartSlot_lights (k : SlotId) :
    (s.restartSlot k).lco.masters = s.lco.masters := by
  unfold State.restartSlot
  (repeat' split) <;> simp

@[simp] theorem State.endSlot_lights (k : SlotId) (reason : EndReason) (kept : Claims) :
    (s.endSlot k reason kept).lco.masters = s.lco.masters := by
  unfold State.endSlot
  dsimp only
  (repeat' split) <;> simp

@[simp] theorem State.releaseClaims_lights (k : SlotId) (p : PlayRec) :
    (s.releaseClaims k p).lco.masters = s.lco.masters := by
  unfold State.releaseClaims
  simp

@[simp] theorem State.freeSlot_lights (k : SlotId) (reason : EndReason) :
    (s.freeSlot k reason).lco.masters = s.lco.masters := by
  unfold State.freeSlot
  (repeat' split) <;> simp

@[simp] theorem State.preemptOne_lights (new : SlotId) (kept : Claims) (k : SlotId) :
    (State.preemptOne new kept s k).lco.masters = s.lco.masters := by
  unfold State.preemptOne
  (repeat' split) <;> simp

@[simp] theorem State.start_lights (new : SlotId) (r : Request) (sc : SceneRec) :
    (s.start new r sc).lco.masters = s.lco.masters := by
  unfold State.start
  dsimp only
  simp

@[simp] theorem State.walkFrom_lights (l : List Request) (blocked : BitVec 96) :
    (s.walkFrom l blocked).lco.masters = s.lco.masters := by
  induction l generalizing blocked s with
  | nil => simp [State.walkFrom]
  | cons r rs ih =>
    unfold State.walkFrom
    (repeat' split) <;> simp [ih]

@[simp] theorem State.walk_lights :
    s.walk.lco.masters = s.lco.masters := by
  unfold State.walk
  simp

@[simp] theorem State.settle_lights (r : Request) :
    (s.settle r).2.lco.masters = s.lco.masters := by
  unfold State.settle
  (repeat' split) <;> simp

@[simp] theorem State.arrive_lights (r : Request) :
    (s.arrive r).2.lco.masters = s.lco.masters := by
  have h := State.judgeInsert_frame s r
  unfold State.arrive
  split <;> simp_all

@[simp] theorem State.request_lights (i : SceneId) (src : Source) (prio : Option Nat) (tag : Option Half) :
    (s.request i src prio tag).2.lco.masters = s.lco.masters := by
  unfold State.request
  simp

@[simp] theorem State.endAndWalk_lights (k : SlotId) (reason : EndReason) :
    (s.endAndWalk k reason).lco.masters = s.lco.masters := by
  unfold State.endAndWalk
  simp

@[simp] theorem State.expire_lights (limit : Nat) :
    (s.expire limit).lco.masters = s.lco.masters := by
  unfold State.expire
  dsimp only
  (repeat' split) <;> simp

@[simp] theorem State.stopShow_lights :
    s.stopShow.lco.masters = s.lco.masters := by
  unfold State.stopShow
  dsimp only
  (repeat' split) <;> simp

@[simp] theorem State.resume_lights :
    s.resume.2.lco.masters = s.lco.masters := by
  unfold State.resume
  (repeat' split) <;> simp

/-- A port's hand-over empties the replies of its own axes and changes nothing else of an axis (R125). -/
@[simp] theorem Mgt.dropReplies_axes (z : ZoneId) (x : Mgt) (a : AxisId) :
    (x.dropReplies z).axes[a] = if axisZone a = z then { x.axes[a] with reply := none } else x.axes[a] := by
  simp [Mgt.dropReplies]

@[simp] theorem Mgt.dropReplies_rest (z : ZoneId) (x : Mgt) :
    (x.dropReplies z).occ = x.occ ∧ (x.dropReplies z).powerFault = x.powerFault ∧
    (x.dropReplies z).showStopped = x.showStopped := by simp [Mgt.dropReplies]

end Sys2Proof.Machine
end

