-- ==== Sys2Proof/Laws/PerInstr.lean ====
section
/-! SUPPORT. The family FrameFits: a well-formed command that carries a whole frame carries one whose body fits in a Show
Link frame (R164). -/

namespace Sys2Proof.Laws.FrameFits

/-- The frame of a well-formed command fits. -/
def Statement (i : Instr) : Prop :=
  i.wellFormed = true → ∀ f, i.frame? = some f → f.body.length ≤ Config.bodyMax

/-- A frame that is in order fits. -/
theorem of_frameOk {f : Frame} (h : frameOk f = true) : f.body.length ≤ Config.bodyMax := by
  simp only [frameOk, bodyFits, Bool.and_eq_true, decide_eq_true_eq] at h
  exact h.2

/-- A frame whose body fits does. -/
theorem of_bodyFits {f : Frame} (h : bodyFits f = true) : f.body.length ≤ Config.bodyMax := by
  simpa [bodyFits] using h

theorem fullReset (addrPins : BitVec 4) (stopActive : Bool) : Statement (.fullReset addrPins stopActive) := fun _ _ h => nomatch h

theorem softReset (stopActive : Bool) : Statement (.softReset stopActive) := fun _ _ h => nomatch h

theorem trimmedIntervalEnd (b : BeatIn) : Statement (.trimmedIntervalEnd b) := fun _ _ h => nomatch h

theorem syncFrame (f : Rx) (b : BeatIn) : Statement (.syncFrame f b) := by
  intro h f e
  obtain rfl := Option.some.inj e
  exact of_frameOk (Bool.and_eq_true_iff.mp h).1

theorem selfMadeBeat (b : BeatIn) : Statement (.selfMadeBeat b) := fun _ _ h => nomatch h

theorem lightFrame (f : Rx) : Statement (.lightFrame f) := by
  intro h f e
  obtain rfl := Option.some.inj e
  exact of_frameOk h

theorem soundFrame (f : Rx) : Statement (.soundFrame f) := by
  intro h f e
  obtain rfl := Option.some.inj e
  exact of_frameOk h

theorem motionFrame (f : Rx) : Statement (.motionFrame f) := by
  intro h f e
  obtain rfl := Option.some.inj e
  exact of_frameOk h

theorem triggerFrame (f : Rx) : Statement (.triggerFrame f) := by
  intro h f e
  obtain rfl := Option.some.inj e
  exact of_frameOk h

theorem thruFrame (f : Frame) : Statement (.thruFrame f) := by
  intro h f e
  obtain rfl := Option.some.inj e
  exact of_bodyFits h

theorem inTransmitNext (stopActive : Bool) : Statement (.inTransmitNext stopActive) := fun _ _ h => nomatch h

theorem thruTransmitNext : Statement .thruTransmitNext := fun _ _ h => nomatch h

theorem zbusTransmitNext (z : ZoneId) : Statement (.zbusTransmitNext z) := fun _ _ h => nomatch h

theorem fixtureReply (z : ZoneId) (bytes : List Byte) : Statement (.fixtureReply z bytes) := fun _ _ h => nomatch h

theorem announcement (z : ZoneId) (bytes : List Byte) : Statement (.announcement z bytes) := fun _ _ h => nomatch h

theorem motionPowerFault (z : ZoneId) : Statement (.motionPowerFault z) := fun _ _ h => nomatch h

theorem powerHoldoffExpiry (z : ZoneId) : Statement (.powerHoldoffExpiry z) := fun _ _ h => nomatch h

theorem showstopLineChange (stopActive : Bool) : Statement (.showstopLineChange stopActive) := fun _ _ h => nomatch h

theorem lineAcceptedChange (n : LineId) (high : Bool) (zoneFirst : Bool) : Statement (.lineAcceptedChange n high zoneFirst) := fun _ _ h => nomatch h

theorem lockoutExpiry (n : LineId) : Statement (.lockoutExpiry n) := fun _ _ h => nomatch h

theorem buttonStuck (n : LineId) : Statement (.buttonStuck n) := fun _ _ h => nomatch h

theorem presenceStuck (n : LineId) : Statement (.presenceStuck n) := fun _ _ h => nomatch h

theorem lingerExpiry (z : ZoneId) : Statement (.lingerExpiry z) := fun _ _ h => nomatch h

theorem waitDeadlineExpiry : Statement .waitDeadlineExpiry := fun _ _ h => nomatch h

theorem playEnd (k : SlotId) : Statement (.playEnd k) := fun _ _ h => nomatch h

theorem segmentBegin (k : SlotId) : Statement (.segmentBegin k) := fun _ _ h => nomatch h

theorem fadeComplete (c : ChannelId) : Statement (.fadeComplete c) := fun _ _ h => nomatch h

theorem effectPeriodWrap (k : SlotId) : Statement (.effectPeriodWrap k) := fun _ _ h => nomatch h

theorem cueWaitExpiry (k : SlotId) : Statement (.cueWaitExpiry k) := fun _ _ h => nomatch h

theorem rearmExpiry (a : AxisId) : Statement (.rearmExpiry a) := fun _ _ h => nomatch h

theorem statusInterval : Statement .statusInterval := fun _ _ h => nomatch h

theorem sourceStale (src : SourceId) : Statement (.sourceStale src) := fun _ _ h => nomatch h

theorem loadComplete : Statement .loadComplete := fun _ _ h => nomatch h

theorem loadTable (c : Cmd) : Statement (.loadTable c) := by
  intro h f e
  obtain rfl := Option.some.inj e
  exact of_frameOk h

theorem readTable (c : Cmd) : Statement (.readTable c) := by
  intro h f e
  obtain rfl := Option.some.inj e
  exact of_frameOk h

theorem readStatus (c : Cmd) : Statement (.readStatus c) := by
  intro h f e
  obtain rfl := Option.some.inj e
  exact of_frameOk h

theorem readCensus (c : Cmd) : Statement (.readCensus c) := by
  intro h f e
  obtain rfl := Option.some.inj e
  exact of_frameOk h

theorem censusSweep (c : Cmd) : Statement (.censusSweep c) := by
  intro h f e
  obtain rfl := Option.some.inj e
  exact of_frameOk h

theorem setTime (c : Cmd) : Statement (.setTime c) := by
  intro h f e
  obtain rfl := Option.some.inj e
  exact of_frameOk h

theorem readTime (c : Cmd) : Statement (.readTime c) := by
  intro h f e
  obtain rfl := Option.some.inj e
  exact of_frameOk h

theorem setTrim (c : Cmd) : Statement (.setTrim c) := by
  intro h f e
  obtain rfl := Option.some.inj e
  exact of_frameOk h

theorem setBeatSource (c : Cmd) (b : BeatIn) : Statement (.setBeatSource c b) := by
  intro h f e
  obtain rfl := Option.some.inj e
  exact of_frameOk (Bool.and_eq_true_iff.mp h).1

theorem setHouseMode (c : Cmd) (flagsFirst : Bool) : Statement (.setHouseMode c flagsFirst) := by
  intro h f e
  obtain rfl := Option.some.inj e
  exact of_frameOk h

theorem startScene (c : Cmd) : Statement (.startScene c) := by
  intro h f e
  obtain rfl := Option.some.inj e
  exact of_frameOk h

theorem stopSceneByScene (c : Cmd) : Statement (.stopSceneByScene c) := by
  intro h f e
  obtain rfl := Option.some.inj e
  exact of_frameOk (Bool.and_eq_true_iff.mp h).1

theorem stopSceneBySlot (c : Cmd) : Statement (.stopSceneBySlot c) := by
  intro h f e
  obtain rfl := Option.some.inj e
  exact of_frameOk (Bool.and_eq_true_iff.mp h).1

theorem stopShow (c : Cmd) : Statement (.stopShow c) := by
  intro h f e
  obtain rfl := Option.some.inj e
  exact of_frameOk h

theorem resumeShow (c : Cmd) : Statement (.resumeShow c) := by
  intro h f e
  obtain rfl := Option.some.inj e
  exact of_frameOk h

theorem setFlags (c : Cmd) : Statement (.setFlags c) := by
  intro h f e
  obtain rfl := Option.some.inj e
  exact of_frameOk h

theorem clearFlags (c : Cmd) : Statement (.clearFlags c) := by
  intro h f e
  obtain rfl := Option.some.inj e
  exact of_frameOk h

theorem readFlags (c : Cmd) : Statement (.readFlags c) := by
  intro h f e
  obtain rfl := Option.some.inj e
  exact of_frameOk h

theorem fireTrigger (c : Cmd) : Statement (.fireTrigger c) := by
  intro h f e
  obtain rfl := Option.some.inj e
  exact of_frameOk h

theorem clearNotices (c : Cmd) : Statement (.clearNotices c) := by
  intro h f e
  obtain rfl := Option.some.inj e
  exact of_frameOk h

theorem reset (c : Cmd) (stopActive : Bool) : Statement (.reset c stopActive) := by
  intro h f e
  obtain rfl := Option.some.inj e
  exact of_frameOk h

theorem unknownCommand (code : Byte) (c : Cmd) : Statement (.unknownCommand code c) := by
  intro h f e
  obtain rfl := Option.some.inj e
  exact of_frameOk (Bool.and_eq_true_iff.mp h).1

theorem downstreamFramePassedOn (f : Frame) : Statement (.downstreamFramePassedOn f) := by
  intro h f e
  obtain rfl := Option.some.inj e
  exact of_bodyFits (Bool.and_eq_true_iff.mp h).1

theorem badFrame (side : Side) (bytes : List Byte) : Statement (.badFrame side bytes) := fun _ _ h => nomatch h

theorem formatFault (f : Frame) : Statement (.formatFault f) := by
  intro h f e
  obtain rfl := Option.some.inj e
  exact of_bodyFits (Bool.and_eq_true_iff.mp h).1

end Sys2Proof.Laws.FrameFits
end

