-- ==== Sys2Proof/Laws/Show.lean ====
section
/-! SUPPORT. What the reads and writes of slots, of the request queue and of the claim table say: one lemma for each way
they can go, so that proofs about scenes do not unfold them. -/

namespace Sys2Proof.Machine

variable {s : State}

/-! ### Slots -/

/-- The play record of a slot written PLAYING. -/
theorem State.play_set_same (k : SlotId) (p : PlayRec) :
    (s.onSeq fun x => { x with slots := x.slots.set k (.playing p) }).play k = some p := by
  simp [State.play]

/-- The play record of a slot written FREE. -/
theorem State.play_free_same (k : SlotId) (l : Option SceneId) (r : EndReason) :
    (s.onSeq fun x => { x with slots := x.slots.set k (.free l r) }).play k = none := by
  simp [State.play]

/-- Writing one slot leaves the play records of the others. -/
theorem State.play_set_other {k j : SlotId} (h : j ≠ k) (v : Slot) :
    (s.onSeq fun x => { x with slots := x.slots.set k v }).play j = s.play j := by
  have e : (s.seq.slots.set k v)[j] = s.seq.slots[j] :=
    Vector.getElem_set_ne _ _ (fun e => h (Fin.ext e.symm))
  simp only [State.play, State.onSeq_seq, e]

/-- A play record is read from the slots alone. -/
theorem State.play_congr {t : State} (h : t.seq.slots = s.seq.slots) (k : SlotId) : t.play k = s.play k := by
  simp only [State.play, h]

/-- Changing the play record of a PLAYING slot. -/
theorem State.onPlay_some {k : SlotId} {p : PlayRec} (h : s.play k = some p) (f : PlayRec → PlayRec) :
    s.onPlay k f = s.onSeq fun x => { x with slots := x.slots.set k (.playing (f p)) } := by
  simp [State.onPlay, h]

/-- Changing the play record of a FREE slot changes nothing. -/
theorem State.onPlay_none {k : SlotId} (h : s.play k = none) (f : PlayRec → PlayRec) : s.onPlay k f = s := by
  simp [State.onPlay, h]

/-- The play record after it was changed. -/
theorem State.onPlay_play_same (k : SlotId) (f : PlayRec → PlayRec) : (s.onPlay k f).play k = (s.play k).map f := by
  cases h : s.play k with
  | none => simp [State.onPlay_none h, h]
  | some p => rw [State.onPlay_some h, State.play_set_same]; rfl

/-- Changing one slot's play record leaves the others'. -/
theorem State.onPlay_play_other {k j : SlotId} (h : j ≠ k) (f : PlayRec → PlayRec) :
    (s.onPlay k f).play j = s.play j := by
  cases e : s.play k with
  | none => rw [State.onPlay_none e]
  | some p => rw [State.onPlay_some e, State.play_set_other h]

/-- The slot that plays a scene plays it. -/
theorem State.playingSlot_some {i : SceneId} {k : SlotId} (h : s.playingSlot i = some k) :
    ∃ p, s.play k = some p ∧ p.scene = i := by
  have := List.find?_some h
  cases e : s.play k with
  | none => simp [e] at this
  | some p => exact ⟨p, rfl, by simpa [e] using this⟩

/-- A scene that no slot plays. -/
theorem State.playingSlot_none {i : SceneId} :
    s.playingSlot i = none ↔ ∀ (k : SlotId) (p : PlayRec), s.play k = some p → p.scene ≠ i := by
  constructor
  · intro h k p e
    have := List.find?_eq_none.mp h k (List.mem_finRange k)
    simpa [e] using this
  · intro h
    refine List.find?_eq_none.mpr fun k _ => ?_
    cases e : s.play k with
    | none => simp
    | some p => simpa using h k p e

/-- A scene is queued when some queued request is for it. -/
theorem State.isQueued_iff {i : SceneId} : s.isQueued i = true ↔ ∃ r ∈ s.arb.queue, r.scene = i := by
  simp [State.isQueued]

/-! ### The queue and the walk -/

/-- A walk over an empty queue judges the indicators alone. -/
theorem State.walk_nil (h : s.arb.queue = []) : s.walk = s.judgeIndicators := by
  simp [State.walk, h, State.walkFrom]

/-- From an empty queue no request departs. -/
theorem State.departAll_nil (h : s.arb.queue = []) (test : Request → Bool) (d : Departure) :
    s.departAll test d = s := by
  simp [State.departAll, h]

/-- When no deadline is due nothing leaves the queue. -/
theorem State.expire_none {n : Nat} (h : ∀ r ∈ s.arb.queue, n < r.deadline) : s.expire n = s := by
  have : (s.arb.queue.any fun r => decide (r.deadline ≤ n)) = false := by
    simpa [List.any_eq_false] using h
  simp [State.expire, this]

/-- Ending a FREE slot changes nothing. -/
theorem State.freeSlot_none {k : SlotId} (h : s.play k = none) (reason : EndReason) : s.freeSlot k reason = s := by
  simp [State.freeSlot, h]

/-- What a refused request leaves: the entry in the outcome log and, on QUEUE-FULL, its notice. -/
theorem State.judgeInsert_refused {r : Request} {c : RefuseCode} (h : s.refusal r = some c) :
    s.judgeInsert r = (some c, if c = .queueFull then (s.enter r (.refused c)).raiseQueueFull
      else s.enter r (.refused c)) := by
  simp [State.judgeInsert, h]

/-- What an accepted request leaves: it stands in the queue, and a STATUS is asked for. -/
theorem State.judgeInsert_accepted {r : Request} (h : s.refusal r = none) :
    s.judgeInsert r = (none, (s.onArb fun x => { x with queue := insertRequest r x.queue }).askStatus) := by
  simp [State.judgeInsert, h]

/-- The owners after a release. -/
theorem Arb.release_owners (k : SlotId) (m : BitVec 96) (x : Arb) (i : ResourceId) :
    (x.release k m).owners[i] = if m.getLsbD i && x.owners[i] == some k then none else x.owners[i] := by
  simp [Arb.release]

/-- The owners after a start. -/
theorem Arb.takeClaims_owners (k : SlotId) (m : BitVec 96) (l : List SlotId) (x : Arb) (i : ResourceId) :
    (x.takeClaims k m l).owners[i] = if m.getLsbD i then some k
      else match x.owners[i] with
        | some j => if l.contains j then none else some j
        | none => none := by
  simp only [Arb.takeClaims, Fin.getElem_fin, Vector.getElem_ofFn]
  all_goals rfl

/-- What a slot's completion requests (R19): its scene's next, neither playing nor queued as the slot ends. -/
theorem State.nextToRequest_eq_some (sc : SceneRec) (ended : State) (i : SceneId) :
    State.nextToRequest sc ended = some i ↔ sc.next = some i ∧ ended.isBusy i = false := by
  simp [State.nextToRequest, Option.filter_eq_some_iff]

/-- A slot has a completion exactly when the beat ends its last play (R9, R19). -/
theorem State.completion_eq_some (s : State) (k : SlotId) (c : Completion) :
    s.completion k = some c ↔ ∃ p sc, s.play k = some p ∧ s.scene p.scene = some sc ∧ p.position + 1 = sc.length ∧
      playsOn p sc = false ∧ c = { play := p, request := State.nextToRequest sc (s.slotAdvance k) } := by
  unfold State.completion
  constructor
  · intro h
    split at h
    · split at h
      · split at h
        · exact ⟨_, _, ‹_›, ‹_›, by simp_all, by simp_all, by simp_all⟩
        · cases h
      · cases h
    · cases h
  · rintro ⟨p, sc, hp, hs, hl, hr, rfl⟩
    simp [hp, hs, hl, hr]

end Sys2Proof.Machine
end

