-- ==== Sys2Proof/Tests/Slice0.lean ====
section
/-! SUPPORT. The package's own tests: ill-formed terms that the checks of WellFormed refuse, bytes written out from Chapter
11 that are read as the row they stand for, the worked cases of the spec, and for each statement of Obligations a state
and operands that meet its hypotheses. Expected values are the spec's; each docstring names where they stand. -/

-- One theorem after another: kernel evaluations waiting for each other would each hold a thread.
set_option Elab.async false

namespace Sys2Proof.Tests

open Sys2Proof Sys2Proof.Machine

/-! ### Small states and operands -/

/-- The reset state: address 0, show RUNNING, MU IDLE, CLOSED. -/
def base : State := State.reset

/-- A beat at which every pin is LOW but the show-stop line is inactive. -/
def beat : BeatIn :=
  { lines := 0, stopActive := false, sense := 0, order := allBlocks, flagsFirst := false, zoneFirst := false,
    stopFirst := false, showRaced := false }

/-- A command addressed to the unit. -/
def cmd (fields : List Byte) : Cmd := { addr := 0, seq := 9, reserved := 0, tag := 0x1234, fields }

/-- A downstream frame addressed to the unit. -/
def rx (body : List Byte) : Rx := { addr := 0, seq := 9, body }

/-- A frame of another unit. -/
def alien : Frame := { addr := 5, kind := 1, seq := 3, body := [] }

/-- What an outcome leaves, read through a function; `none` when it is no next state. -/
def after {α : Type} (o : Host.Outcome State Fault Refusal) (f : State → α) : Option α :=
  match o with
  | .next t => some (f t)
  | .fault _ => none
  | .refused _ => none

/-- A scene of one empty segment. -/
def scene (priority : Nat) (claims : Claims) (tests : List Test) : SceneRec :=
  { priority, home := 1, mayPreempt := true, yieldable := true, abandonOnClear := false, requireMotion := false,
    repeats := 1, maxWait := 300, length := 2, releaseFade := 0, next := none, claims, tests,
    segments := [{ start := 0, look := none, effect := none, cue := none, keys := none, flag := none },
      { start := 1, look := none, effect := none, cue := none, keys := none, flag := some (true, 5) }] }

/-- Claims of group 25 alone. -/
def group25 : Claims := { groups := single 25 }

/-- The scene record of index 20, with other fields as given. -/
def withScene (sc : SceneRec) (s : State) : State :=
  s.onMu fun x => { x with tables := { x.tables with scn := x.tables.scn.set 20 (some sc) } }

/-- The play record of scene 20. -/
def record20 : PlayRec :=
  { scene := 20, source := .server, priority := 2, position := 0, segment := 0, plays := 1, claims := {}, marks := 0 }

/-- Slot 3 plays scene 20. -/
def withPlay (p : PlayRec) (s : State) : State := s.onSeq fun x => { x with slots := x.slots.set 3 (.playing p) }

/-- A queued request for scene 20. -/
def request20 : Request := { scene := 20, source := .server, priority := 2, deadline := 5 }

/-- The request queue. -/
def withQueue (q : List Request) (s : State) : State := s.onArb fun x => { x with queue := q }

/-- The show is STOPPED in the ARB. -/
def stopped (s : State) : State := s.onArb fun x => { x with showStopped := true }

/-- The own-report queue. -/
def withReports (q : List Report) (s : State) : State := s.onSli fun x => { x with ownQueue := q }

/-- The port of zone 2, changed. -/
def port2 (f : Port → Port) : State := base.onPort 2 f

/-- The SCK, changed. -/
def clock (f : Sck → Sck) : State := base.onSck f

/-- The tables, changed. -/
def tables (f : Tables → Tables) : State := base.onMu fun x => { x with tables := f x.tables }

/-- A LINE record of a role in zone 1 with debounce 2. -/
def line (r : Role) : LineRec := { role := r, zone := 1, debounce := 2, lockout := 500 }

/-- Line 4 has a role and a runtime record. -/
def lineState (r : Role) (x : LineRt) : State :=
  (tables fun t => { t with line := t.line.set 4 (line r) }).onLine 4 fun _ => x

/-- A trigger entry for scene 20. -/
def trigger (b : Behaviour) : TrigRec :=
  { scene := 20, alternate := none, behaviour := b, hasIndicator := false, channel := 0, ready := 0, busy := 0, dark := 0 }

/-- Virtual trigger 7 has an entry. -/
def withTrigger (b : Behaviour) (s : State) : State :=
  s.onMu fun x => { x with tables := { x.tables with trig := x.tables.trig.set 23 (some (trigger b)) } }

/-- A channel with a layer. -/
def channel (l : Layer) : Channel := { base := 8000, stale := false, lastFresh := 8000, layer := l, present := true }

/-- The base state's own address. -/
theorem own_base : base.isOwn 0 := ⟨rfl, by decide⟩

/-- A state with the base's SLI address hears a command of this length. -/
theorem hears_of {s : State} {fields : List Byte} (a : s.sli.ownAddr = 0) (m : s.mu.st = .idle)
    (n : fields.length ≤ 8188) : s.hears (cmd fields) :=
  ⟨⟨by rw [a]; rfl, by rw [a]; decide⟩, m, n⟩

/-! ### WellFormed: ill-formed terms are refused -/

theorem test_wellFormed_beat_order : (Instr.trimmedIntervalEnd { beat with order := [.sli] }).wellFormed = false := by
  decide
theorem test_wellFormed_light_length : (Instr.lightFrame (rx [0])).wellFormed = false := by decide
theorem test_wellFormed_trigger_number : (Instr.triggerFrame (rx [1, 16])).wellFormed = false := by decide
theorem test_wellFormed_broadcast_load : (Instr.loadTable { cmd [] with addr := 15 }).wellFormed = false := by decide
theorem test_wellFormed_selector : (Instr.stopSceneByScene (cmd [1, 0])).wellFormed = false := by decide
theorem test_wellFormed_selector_slot : (Instr.stopSceneBySlot (cmd [0, 0])).wellFormed = false := by decide
theorem test_wellFormed_known_code : (Instr.unknownCommand 20 (cmd [])).wellFormed = false := by decide
theorem test_wellFormed_passed_on : (Instr.downstreamFramePassedOn { alien with addr := 15 }).wellFormed = false := by
  decide
theorem test_wellFormed_format : (Instr.formatFault alien).wellFormed = false := by decide
theorem test_wellFormed_bad : (Instr.badFrame .inSide (frameBytes alien)).wellFormed = false := by decide +kernel
theorem test_wellFormed_reply_type : (Instr.fixtureReply 0 [3]).wellFormed = false := by decide
theorem test_wellFormed_announcement_type : (Instr.announcement 0 [2]).wellFormed = false := by decide
theorem test_wellFormed_body : (Instr.thruFrame { alien with body := List.replicate 8193 0 }).wellFormed = false := by
  decide +kernel

/-! ### Bytes as they stand on the link (Chapter 11) -/

/-- R180, Note. -/
theorem test_crc16 : crc16 [0x31, 0x32, 0x33, 0x34, 0x35, 0x36, 0x37, 0x38, 0x39] = 0x29B1 := by decide +kernel
/-- The parameters of R164 are those of the CRC-32 whose check value over "123456789" is CBF43926 hex. -/
theorem test_crc32 : crc32 [0x31, 0x32, 0x33, 0x34, 0x35, 0x36, 0x37, 0x38, 0x39] = 0xCBF43926 := by decide +kernel
/-- A SYNC frame (kind 1, empty body) to address 0. -/
theorem test_decode_sync : decodeReceived 0 beat .inSide (frameBytes ⟨0, 1, 9, []⟩) = .syncFrame (rx []) beat := by
  decide +kernel
/-- A COMMAND frame: kind 6, code 13, reserved 0, tag 1234 hex low byte first. -/
theorem test_decode_stopShow :
    decodeReceived 0 beat .inSide (frameBytes ⟨0, 6, 9, [13, 0, 0x34, 0x12]⟩) = .stopShow (cmd []) := by decide +kernel
/-- STOP-SCENE with the selector of a slot. -/
theorem test_decode_stopSlot : decodeReceived 0 beat .inSide (frameBytes ⟨0, 6, 9, [12, 0, 0x34, 0x12, 1, 3]⟩) =
    .stopSceneBySlot (cmd [1, 3]) := by decide +kernel
/-- A TRIGGER frame for virtual trigger 7 at THRU is forwarded, whatever it is. -/
theorem test_decode_thru : decodeReceived 0 beat .thruSide (frameBytes ⟨0, 5, 9, [1, 7]⟩) = .thruFrame ⟨0, 5, 9, [1, 7]⟩ := by
  decide +kernel
/-- A frame for unit 5. -/
theorem test_decode_passedOn : decodeReceived 0 beat .inSide (frameBytes alien) = .downstreamFramePassedOn alien := by
  decide +kernel
/-- One byte too few. -/
theorem test_decode_short : decodeReceived 0 beat .inSide [0, 1, 9, 0, 0, 0, 0, 0, 0] =
    .badFrame .inSide [0, 1, 9, 0, 0, 0, 0, 0, 0] := by decide +kernel
/-- A LIGHT body of 1 byte disagrees with its layout. -/
theorem test_decode_format : decodeReceived 0 beat .inSide (frameBytes ⟨0, 2, 9, [0]⟩) = .formatFault ⟨0, 2, 9, [0]⟩ := by
  decide +kernel

/-! ### Worked cases of the spec -/

/-- Section 4.10: channel 410. -/
theorem test_channel_410 :
    let ch := channel { owner := some 0, phase := .fading, fromLevel := 10000, toLevel := 40000, len := 200, pos := 50 }
    fadeFactor 50 200 = 16384 ∧ preEffect ch = (17500, false) ∧ effectStage 17500 64 = 13125 ∧
    masterStage 13125 200 = 10254 ∧ clipStage 10254 60000 = 10254 := by decide

/-- Section 4.11: the release of channel 200, its stale mark at beat 3, and the capture. -/
theorem test_release_through_stale :
    let at_ (p : Nat) (stale : Bool) : Channel :=
      { channel { phase := .releasing, fromLevel := 30000, len := 4, pos := p } with stale }
    preEffect (at_ 1 false) = (24500, false) ∧ preEffect (at_ 2 false) = (19000, false) ∧
    preEffect (at_ 3 true) = (13500, true) ∧ capture (at_ 4 true) = 8000 ∧ blend 8000 40000 16384 = 16000 := by decide

/-- Section 4.4: pattern 3. -/
theorem test_effect_pattern :
    let r : FxRec := { period := 10, startLow := true, hush := false, evenCount := 2, even := [3, 7], oddCount := 1, odd := [5] }
    let low (count : Half) (phase : Nat) : Bool :=
      effectLow r { pattern := 3, targets := 0, depth := 0, phase, count, lastLow := none } false
    low 0 2 = true ∧ low 0 3 = false ∧ low 0 6 = false ∧ low 0 7 = true ∧ low 1 4 = true ∧ low 1 5 = false ∧
    low 2 0 = true := by decide

/-- Section 5.9: the duck gain's steps and one mixed sample. -/
theorem test_duck_and_mix :
    duckStep 4096 1024 256 64 = 3840 ∧ duckStep 1280 1024 256 64 = 1024 ∧ duckStep 1024 4096 256 64 = 1088 ∧
    outSample (1024 * 20000 + 3072 * 12000) = 14000 := by decide

/-- Section 5.10: a cancellation ramp. -/
theorem test_ramp :
    (3072 * (480 - 240) / 480 = 1536 ∧ 3072 * (480 - 479) / 480 = 6) ∧
    outSample 30720000 = 7500 ∧ outSample 15360000 = 3750 ∧ outSample 60000 = 15 := by decide

/-- Step and position after a beat of the limiter. -/
def move (t : Int) (q : Int × Int) : Int × Int :=
  let v := newStep { enable := true, min := -20000, max := 20000, vmax := 30, amax := 10 } 30 q.1 q.2 (.pos t)
  (q.1 + v, v)

/-- Section 6.12: a move from rest. -/
theorem test_move_from_rest :
    [move 100 (0, 0), move 100 (10, 10), move 100 (30, 20), move 100 (60, 30), move 100 (83, 23), move 100 (96, 13),
      move 100 (100, 4)] = [(10, 10), (30, 20), (60, 30), (83, 23), (96, 13), (100, 4), (100, 0)] := by
  decide +kernel

/-- Section 6.13: a target that jumps behind the axis. -/
theorem test_move_behind :
    [move 1015 (1000, 30), move 1015 (1020, 20), move 1015 (1030, 10), move 1015 (1030, 0), move 1015 (1020, -10),
      move 1015 (1015, -5)] = [(1020, 20), (1030, 10), (1030, 0), (1020, -10), (1015, -5), (1015, 0)] := by
  decide +kernel

/-- Section 8.1, R152: trim 25 gives the lengths 99 998 and 99 997 in turn. -/
theorem test_trim_25 :
    let x : Sck := { base.sck with trim := 25 }
    (x.newInterval.intervalLen, x.newInterval.acc) = (99998, 5) ∧
    (x.newInterval.newInterval.intervalLen, x.newInterval.newInterval.acc) = (99997, 0) := by decide

/-- Section 8.2, worked case: carries. -/
theorem test_calendar_carries :
    let c : Calendar := { running := true, year := 99, month := 12, day := 31, weekday := 3, hour := 23, minute := 59, second := 59, beat := 99 }
    c.takeBeat = ({ running := true, year := 0, month := 1, day := 1, weekday := 4 }, true) ∧
    ({ c with year := 24, month := 2, day := 28 } : Calendar).takeBeat.1.day = 29 ∧
    ({ c with year := 23, month := 2, day := 28 } : Calendar).takeBeat.1.month = 3 ∧
    (timeFields [23, 2, 29, 0, 0, 0, 0]).inRange = false ∧ (timeFields [0, 2, 29, 0, 0, 0, 0]).inRange = true := by decide

/-- Section 8.1, worked sequence: the first SYNC after the loss finds the spacing count held; the sixteenth well-spaced
one is a beat. -/
theorem test_recovery :
    let x : Sck := { base.sck with source := .holdover, miss := 8, spacing := some 110001, hit := 4 }
    (x.sync.1.hit, x.sync.2) = (0, false) ∧
    (let y : Sck := { x with spacing := some 100000, hit := 15 }
     y.sync.2 = true ∧ y.sync.1.source = .following ∧ y.sync.1.miss = 0) := by decide

/-! ### One command each, on a small state -/

theorem test_startScene_plays_in_slot_0 :
    after (exec (.startScene (cmd [20, 255])) (withScene (scene 2 group25 []) base))
      (fun t => (t.seq.slots[0] != .free none .reset, t.arb.owners[25], t.arb.queue.length)) = some (true, some 0, 0) := by
  decide +kernel

theorem test_startScene_empty_is_ineligible :
    after (exec (.startScene (cmd [20, 3])) base) (fun t => t.sli.ownQueue.getLast?) =
      some (some (.reply 11 .ineligible 0x1234 [])) := by decide +kernel

theorem test_startScene_bad_range :
    after (exec (.startScene (cmd [48, 255])) base) (fun t => t.sli.ownQueue.getLast?) =
      some (some (.reply 11 .badRange 0x1234 [])) := by decide +kernel

theorem test_setFlags_merges :
    after (exec (.setFlags (cmd [1, 0, 0, 0x80])) (base.setStoryFlags 2)) (fun t => t.seq.flags) = some 0x80000003 := by
  decide +kernel

theorem test_stopShow_stops :
    after (exec (.stopShow (cmd [])) (withQueue [request20] base)) (fun t => (t.arb.showStopped, t.arb.queue.length)) =
      some (true, 0) := by decide +kernel

theorem test_lightFrame_clips_to_65534 :
    after (exec (.lightFrame (rx ([1, 0, 0, 2] ++ List.replicate 384 255))) base)
      (fun t => ((t.lco.channels[192]).base, t.lco.masters[1], (t.lco.channels[191]).base)) = some (65534, 256, 0) := by
  decide +kernel

theorem test_thruFrame_fifth_is_dropped :
    after (exec (.thruFrame alien) (base.onSli fun x => { x with forward := [alien, alien, alien, alien] }))
      (fun t => (t.sli.forward.length, t.sli.thruOverrun)) = some (4, true) := by decide +kernel

theorem test_badFrame_counts_and_wraps :
    after (exec (.badFrame .thruSide []) (base.onSli fun x => { x with badFrames := 65535 }))
      (fun t => (t.sli.badFrames, t.sli.linkCauses, t.sli.linkSides)) = some (0, 1, 2) := by decide +kernel

theorem test_busy_while_reset_pending :
    after (exec (.readFlags (cmd [])) (base.onMu fun x => { x with st := .resetPending })) (fun t => t.sli.ownQueue.getLast?) =
      some (some (.reply 17 .busy 0x1234 [])) := by decide +kernel

theorem test_powerHoldoff_needs_its_last_beat :
    after (exec (.powerHoldoffExpiry 2) (port2 fun p => { p with powerOff := some 2 })) (fun t => t.ports[2].powerOff) =
      some (some 2) := by decide +kernel

/-- R8: scene 20 of slot 3 completes on a beat on which slot 5 is advanced, though the walk after that completion
preempts it. -/
theorem test_beat_advances_before_the_walk :
    let sc := { scene 2 group25 [] with length := 1 }
    let low := { scene 1 { groups := single 7 } [] with length := 9, home := 2 }
    let s := withPlay { record20 with claims := group25 } (withScene sc base)
    let s := s.onMu fun x => { x with tables := { x.tables with
      scn := (x.tables.scn.set 21 (some low)).set 22 (some (scene 7 { groups := single 7 ||| single 25 } [])) } }
    let s := s.onSeq fun x => { x with slots := x.slots.set 5 (.playing { record20 with
      scene := 21, priority := 1, claims := low.claims, position := 3 }) }
    let s := s.onArb fun x => { x with
      owners := (x.owners.set 25 (some 3)).set 7 (some 5)
      queue := [{ scene := 22, source := .server, priority := 7, deadline := 9 }] }
    ((forEach 8 State.slotAdvance s).play 5).map (·.position) = some 4 ∧
    (s.blockBeat beat .seq).seq.slots[5] = .free (some 21) .preempted ∧
    (s.blockBeat beat .seq).seq.slots[3] = .free (some 20) .complete := by decide +kernel

/-- R19: slot 2 plays scene 20 and slot 3 scene 21, and both end on this beat. Scene 21 is still playing as slot 2 ends,
so it is not requested; scene 20 has ended as slot 3 ends, so it is, and it starts. -/
theorem test_next_scene_is_looked_up_as_the_slot_ends :
    let sc (next : SceneId) : SceneRec := { scene 2 {} [] with length := 1, next := some next }
    let play (i : SceneId) (s : State) (k : SlotId) : State :=
      s.onSeq fun x => { x with slots := x.slots.set k (.playing { record20 with scene := i }) }
    let s := base.onMu fun x => { x with tables := { x.tables with
      scn := (x.tables.scn.set 20 (some (sc 21))).set 21 (some (sc 47)) } }
    let forward := (play 21 (play 20 s 2) 3).blockBeat beat .seq
    let back := (play 20 (play 21 (s.onMu fun x => { x with tables := { x.tables with
      scn := (x.tables.scn.set 20 (some (sc 21))).set 21 (some (sc 20)) } }) 3) 2).blockBeat beat .seq
    (forward.arb.log.map (fun e => (e.scene, e.kind)) = [(47, .refused .ineligible)]) ∧
    (back.arb.log.map (fun e => (e.scene, e.kind)) = [(20, .started 0)]) := by decide +kernel

/-- R125: the position 5 handed for axis 31 is taken on the next beat of the MGT, and on the one after it if the port has
not handed over in between, though the axis was announced at 9; once the port has had nothing to hand, P stays 9. -/
theorem test_reply_position_stands_until_the_next_hand_over :
    let s := base.onAxis 31 fun x => { x with present := true, pos := 3, reply := some 5 }
    let t := (s.blockBeat beat .mgt).onAxis 31 fun x => { x with pos := 9 }
    ((s.blockBeat beat .mgt).mgt.axes[31]).pos = 5 ∧ ((t.blockBeat beat .mgt).mgt.axes[31]).pos = 5 ∧
    (((t.blockBeat beat (.port 3)).blockBeat beat .mgt).mgt.axes[31]).pos = 9 := by decide +kernel

/-- R92: with a single block of S2 before a pair block of S2 and S3, the whole pair block is ignored. -/
theorem test_pair_after_its_half_is_ignored :
    let b (k : Nat) : StreamBlock := { stream := k, tag := 0, last := false, samples := [] }
    carriedBlocks [[b 2], [b 2, b 3], [b 4]] = [b 2, b 4] ∧ carriedBlocks [[b 2, b 3], [b 3]] = [b 2, b 3] := by decide

/-- R160: an ENQUEUE raced by a stop that the ARB has taken is refused STOPPED; one not raced is skipped. -/
theorem test_enqueue_raced_by_a_stop :
    let s := withScene (scene 2 {} []) (base.setShow true)
    ((s.alarmAction 6 false true (.enqueue 20)).arb.log.map (·.kind) = [.refused .stopped]) ∧
    (s.alarmAction 6 false false (.enqueue 20)).arb.log = [] := by decide +kernel

/-- R149, R187: motion power ON is 1 and OFF is 0. -/
theorem test_motion_power_byte :
    byteAt (portBytes false {}) 10 = 1 ∧ byteAt (portBytes false { powerOff := some 3 }) 10 = 0 := by decide +kernel

/-! ### Witnesses: for each statement with hypotheses, a state and operands that meet them, each clause at its boundary -/

theorem witness_StepRunsFrontCommand : ({ base with pending := [.statusInterval] } : State).pending = .statusInterval :: [] :=
  rfl

theorem witness_EmptyQueueIsOneTick :
    base.pending = [] ∧ base.sck.interval < base.sck.intervalLen ∧
    (clock fun x => { x with interval := 100000 }).pending = [] ∧
    (clock fun x => { x with source := .following, interval := 149999 }).pending = [] := by decide

/-- The law of the own-report queue at its bounds: 32 reports and none of them a STATUS, which is owed. -/
theorem witness_ReportLawKept :
    let x : Sli := { base.sli with
      ownQueue := List.replicate 32 (.reply 1 .done 0 []), owed := true, forward := List.replicate 4 alien }
    ReportLaw x ∧ ∃ t, step (base.onSli fun _ => x) = .next t :=
  ⟨⟨by decide, by decide, fun _ => by decide, by decide⟩, _, rfl⟩

theorem witness_ShowLawKept : ShowLaw base ∧ ∃ t, step base = .next t :=
  ⟨{ ownerPlays := by
       intro i k h
       have e : base.arb.owners[i] = none := by simp [base, State.reset, State.afterFullReset]
       rw [e] at h
       cases h
     claimsHeld := by
       intro k p i h
       have e : base.play k = none := by simp [base, State.reset, State.afterFullReset, State.play]
       rw [e] at h
       cases h
     playsOnce := by
       intro k j p q h
       have e : base.play k = none := by simp [base, State.reset, State.afterFullReset, State.play]
       rw [e] at h
       cases h
     queuedOnce := .nil
     notBoth := fun _ _ _ => rfl
     queue_le := by decide
     ordered := .nil
     admitted := fun _ h => nomatch h
     stopped := fun h => nomatch h }, _, rfl⟩

/-- The clock's law at its bounds. -/
theorem witness_ClockLawKept :
    let x : Sck := { base.sck with
      source := .holdover, trim := -100, acc := -9, interval := 100010, intervalLen := 100010, miss := 8, hit := 15
      spacing := some 110001 }
    ClockLaw x ∧ ∃ t, step (clock fun _ => x) = .next t :=
  ⟨{ trim_le := by decide, acc_le := by decide, length_in := by decide, interval_le := by decide
     trimmed_le := fun h => (nomatch h), miss_le := by decide, following_miss := fun h => (nomatch h), hit_le := by decide
     spacing_le := fun n h => by cases h; decide
     calendar := by unfold Calendar.valid; decide }, _, rfl⟩

theorem witness_SoftResetValues :
    (withReports [.reply 20 .done 7 []] (base.onMu fun x => { x with st := .resetPending })).resetLeaves = true := by
  decide

theorem witness_FrameRoundTrip : ({ alien with body := List.replicate 8192 0 } : Frame).body.length ≤ 8192 := by
  decide +kernel

theorem witness_CommandRoundTrip :
    (cmd (List.replicate 8188 0)).fields.length ≤ 8188 ∧
    (cmd []).addr = (0 : BitVec 4).zeroExtend 8 ∧ (0 : BitVec 4) ≠ 15 := by
  refine ⟨by decide +kernel, by decide, by decide⟩

/-- One record of each of the eleven tables. -/
theorem witness_RecordsReadBack :
    (parseRec 1 [184, 11, 32, 191, 2, 0, 44, 1, 5, 50, 0, 0, 0]).isSome ∧ (parseRec 3 [254, 255]).isSome ∧
    (parseRec 4 [1, 0, 2, 0, 3, 0, 2, 15]).isSome ∧
    (parseRec 5 [1, 1, 128, 255, 127, 0, 16, 0, 4, 15, 1, 0, 0, 0, 0, 0, 0]).isSome ∧
    (parseRec 9 [1, 3, 1, 1, 0, 0, 0]).isSome ∧
    (parseRec 10 [47, 255, 2, 1, 255, 2, 0, 0, 0, 0, 0, 0]).isSome ∧
    (parseRec 11 [59, 59, 23, 6, 31, 12, 63, 1, 3, 0]).isSome ∧
    (parseRec 2 (List.replicate 6 0 ++ [1, 1] ++ List.replicate 128 0 ++ (List.replicate 8 [0, 16]).flatten ++
      (List.replicate 8 [0, 1]).flatten ++ (List.replicate 8 [64, 0]).flatten)).isSome ∧
    (parseRec 6 [1, 0, 255, 2, 254, 255]).isSome ∧
    (parseRec 7 ([2, 0, 1, 0, 1, 1, 0] ++ List.replicate 23 0)).isSome ∧
    (parseRec 8 ([7, 3, 15, 255, 112, 23, 255, 255, 112, 23, 255] ++ List.replicate 12 0 ++ [0, 1, 0, 0, 0])).isSome := by
  decide +kernel

theorem witness_TrimmedIntervalIsBeat :
    orderOk beat.order = true ∧ base.sck.source ≠ .following ∧
    (clock fun x => { x with source := .holdover }).sck.source ≠ .following ∧
    (let x : Sck := { base.sck with trim := -100, acc := -9 }
     x.trim ≤ 100 ∧ -100 ≤ x.trim ∧ x.acc ≤ 9 ∧ -9 ≤ x.acc) := by decide

theorem witness_SelfMadeBeats :
    orderOk beat.order = true ∧
    (let x : Sck := { base.sck with source := .following, miss := 6 }
     x.source = .following ∧ x.miss < 7) ∧
    (let x : Sck := { base.sck with source := .following, miss := 7 }
     x.source = .following ∧ x.miss = 7) := by decide

theorem witness_SyncFrames :
    base.isOwn (rx []).addr ∧ (rx []).body = [] ∧ orderOk beat.order = true ∧ base.sck.source = .internal ∧
    (∀ n, some 90000 = some n → 90000 ≤ n ∧ n ≤ 110000) ∧ (∀ n, some 110000 = some n → 90000 ≤ n ∧ n ≤ 110000) ∧
    (∀ n, some 89999 = some n → n < 90000 ∨ 110000 < n) ∧ (∀ n, some 110001 = some n → n < 90000 ∨ 110000 < n) ∧
    (∀ n, (none : Option Nat) = some n → n < 90000 ∨ 110000 < n) :=
  ⟨own_base, rfl, by decide, rfl, fun _ h => by cases h; decide, fun _ h => by cases h; decide,
    fun _ h => by cases h; decide, fun _ h => by cases h; decide, fun _ h => nomatch h⟩

/-- The follow states of SyncFrames, with hit counts 14 and 15 in HOLDOVER. -/
theorem witness_SyncFrames_states :
    let s (b : BeatSource) (hit : Nat) : State := clock fun x => { x with source := b, spacing := some 90000, hit }
    ((s .following 0).isOwn 0 ∧ (s .following 0).sck.source = .following) ∧
    ((s .holdover 14).sck.source = .holdover ∧ (s .holdover 14).sck.spacing = some 90000 ∧
      (s .holdover 14).sck.hit < 15) ∧ (s .holdover 15).sck.hit = 15 :=
  ⟨⟨⟨rfl, by decide⟩, rfl⟩, ⟨rfl, rfl, by decide⟩, rfl⟩

theorem witness_AlarmsFireOncePerMatch :
    let r : AlrmRec := { second := 0, minute := 0, hour := 0, weekday := 0, day := 1, month := 1, enables := 63, once := true, action := .clearFlags }
    (evalAlarm (some r) {} {}).fired = true ∧ ({ spent := true } : AlarmRun).spent = true ∧ ({} : AlarmRun).spent = false := by
  decide

/-- A calendar at each carry, and at the last beat before one. -/
theorem witness_AlarmsFireOncePerMatch_calendar :
    let c : Calendar := { running := true, year := 99, month := 12, day := 31, weekday := 6, hour := 23, minute := 59, second := 59, beat := 99 }
    let ok (c : Calendar) : Prop := (clock fun x => { x with cal := c }).sck.cal.valid
    ok c ∧ ok { c with hour := 22 } ∧ ok { c with minute := 58 } ∧ ok { c with second := 58 } ∧ ok { c with beat := 98 } ∧
    ok { c with running := false } ∧ ok { c with year := 0, month := 2, day := 29 } := by
  simp only [Calendar.valid]
  decide

/-- An alarm that fires at each action, with an ENQUEUE under each state of the show. -/
theorem witness_AlarmsFireOncePerMatch_actions :
    let r (action : AlarmAction) : AlrmRec := { second := 0, minute := 0, hour := 0, weekday := 0, day := 1, month := 1, enables := 0, once := false, action }
    let s (action : AlarmAction) : State := tables fun t => { t with alrm := t.alrm.set 7 (some (r action)) }
    let stop (s : State) : State := s.setShow true
    (s (.enqueue 20)).mu.tables.alrm[7] = some (r (.enqueue 20)) ∧ (evalAlarm (some (r .clearFlags)) base.sck.cal base.sck.alarms[7]).fired = true ∧
    (s (.enqueue 20)).sck.mode ≠ .service ∧ (s (.enqueue 20)).sck.showStopped = false ∧
    ((stop (s (.enqueue 20))).sck.showNews = true ∧ (stop (s (.enqueue 20))).sck.showStopped = true ∧
      (stop (s (.enqueue 20))).arb.showStopped = true) ∧
    (s (.setMode .opened)).mu.tables.alrm[7] = some (r (.setMode .opened)) ∧
    (s (.setFlag 31)).mu.tables.alrm[7] = some (r (.setFlag 31)) := by
  refine ⟨rfl, by decide, by decide, rfl, ⟨rfl, rfl, rfl⟩, rfl, rfl⟩

theorem witness_LightFrameWritesZone :
    base.isOwn (rx (3 :: List.replicate 387 0)).addr ∧ (rx (3 :: List.replicate 387 0)).body.length = 388 ∧
    u8 (rx (3 :: List.replicate 387 0)).body 0 = (3 : ZoneId).val :=
  ⟨own_base, by decide +kernel, rfl⟩

/-- A frame of no block, and one whose single block carries the clip of a PENDING cue. -/
theorem witness_SoundFrameMovesCuesAndDucks :
    base.isOwn (rx [0]).addr ∧ soundBody (rx [0]).body = some [] ∧
    (soundBody ([1, 0, 3, 9, 0, 0, 0] ++ List.replicate 960 0)).isSome ∧
    (let b : StreamBlock := { stream := 3, tag := 9, last := false, samples := [] }
     let c : Cue := { number := 0, scene := 20, zone := 1, stream := 3, clip := 9, outputs := single 4, gain := 0, wait := 1, remaining := 1, state := .pending }
     liveInFrame [b] 4 (some c) ∧ ¬ liveInFrame [b] 5 (some c)) := by
  refine ⟨own_base, by decide, by decide +kernel, ⟨_, rfl, by decide, .inr ⟨rfl, by decide⟩⟩, ?_⟩
  rintro ⟨x, h, o, _⟩
  cases h
  revert o
  decide

theorem witness_MotionFrameWritesSetpoints :
    let f := rx [1, 0, 0, 128, 0, 128, 255, 127]
    base.isOwn f.addr ∧ agrees (Rx.frame f 4) = true ∧ (motionSet f.body).getLsbD 31 = true ∧
    (motionSet f.body).getLsbD 30 = false ∧ motionSetpoint f.body 0 = -32768 ∧ motionSetpoint f.body 31 = 32767 :=
  ⟨own_base, by decide +kernel, by decide +kernel, by decide +kernel, by decide +kernel, by decide +kernel⟩

/-- A cue that becomes LIVE, one that is DONE in its last block, and none; duck gains above, below and at a target. -/
theorem witness_SoundFrameMovesCuesAndDucks_live :
    let b : StreamBlock := { stream := 0, tag := 7, last := true, samples := List.replicate 480 0 }
    let c (st : CueState) : Cue := { number := 5, scene := 20, zone := 1, stream := 0, clip := 7, outputs := 1, gain := 1, wait := 1, remaining := 1, state := st }
    ((cueAfter [{ b with last := false }] (c .pending)).state = .live ∧ (cueAfter [b] (c .live)).state = .done ∧
      (cueAfter [b] (c .requested)).state = (c .requested).state) ∧
    (base.setCue 7 (some (c .live))).nmx.cues[7] = some (c .live) ∧ base.nmx.cues[7] = none ∧
    (duckStep 4096 0 4097 1 = 0 ∧ duckStep 0 4096 1 4097 = 4096 ∧ duckStep 4095 4096 1 1 = 4096 ∧ duckStep 7 7 1 1 = 7) := by
  decide +kernel

theorem witness_TriggerFrameFiresEachOnce :
    base.isOwn (rx [1, 15]).addr ∧ (rx [1, 15]).body = 1 :: [15] ∧
    1 ≤ (List.finRange 16).length ∧ (List.finRange 16).length ≤ 16 := ⟨own_base, rfl, by decide, by decide⟩

theorem witness_ForwardBuffer :
    let s (n : Nat) : State := base.onSli fun x => { x with forward := List.replicate n alien, ownQueue := [] }
    (s 3).sli.forward.length < 4 ∧ 4 ≤ (s 4).sli.forward.length ∧
    ((s 1).sli.forward = alien :: [] ∧ ((s 1).sli.ownQueue = [] ∨ (s 1).sli.servedOwn = true)) ∧
    (base.onSli fun x => { x with forward := [alien] }).sli.servedOwn = true := by decide

theorem witness_InTransmitterServesOwnReports :
    (base.sli.ownQueue = .status :: [] ∧ (base.sli.forward = [] ∨ base.sli.servedOwn = false) ∧
      base.isResetReply .status = false) ∧
    (let s := base.onSli fun x => { x with forward := [alien], servedOwn := false }
     s.sli.ownQueue = .status :: [] ∧ s.sli.servedOwn = false) ∧
    (withReports [] base).sli.ownQueue = [] ∧ (withReports [] base).sli.forward = [] := by decide

/-- A CUE START for a REQUESTED cue, and one whose cue has another number. -/
theorem witness_InTransmitterServesOwnReports_cue :
    let c : Cue := { number := 5, scene := 20, zone := 1, stream := 1, clip := 310, outputs := 0, gain := 0, wait := 200, remaining := 0, state := .requested }
    let s (n : Half) : State := withReports [.cueStart { cueInfo 3 c with number := n }] (base.setCue 3 (some c))
    (s 5).nmx.cues[3] = some c ∧ (s 5).sli.ownQueue = .cueStart (cueInfo 3 c) :: [] ∧ c.state = .requested ∧
    (s 6).sli.ownQueue = .cueStart { cueInfo 3 c with number := 6 } :: [] ∧ c.number ≠ 6 :=
  ⟨rfl, rfl, rfl, rfl, by decide⟩

/-- A queue that holds a STATUS, one of 31 reports without, and a full one without. -/
theorem witness_InTransmitterServesOwnReports_joining :
    let q (n : Nat) : State := withReports (List.replicate n (.reply 1 .done 0 [])) base
    .status ∈ base.sli.ownQueue ∧ base.sli.ownQueue.length < 32 ∧
    (.status ∉ (q 31).sli.ownQueue ∧ (q 31).sli.ownQueue.length < 32) ∧
    (.status ∉ (q 32).sli.ownQueue ∧ 32 ≤ (q 32).sli.ownQueue.length) := by decide +kernel

/-- An effect whose state the last composed beat left LOW. -/
theorem witness_StatusImage :
    let e : Effect := { pattern := 15, targets := 0, depth := 256, phase := 65535, count := 65535, lastLow := some true }
    let s := base.onLco fun x => { x with effects := x.effects.set 7 (some e) }
    s.lco.effects[7] = some e ∧ e.lastLow = some true := ⟨rfl, rfl⟩

theorem witness_StatusDeparture :
    base.sli.ownQueue = .status :: [] ∧ base.sli.forward = [] ∧ base.mu.tables.unit.autoClear = false ∧
    (tables fun t => { t with unit := { autoClear := true } }).mu.tables.unit.autoClear = true ∧
    (tables fun t => { t with unit := { autoClear := true } }).sli.ownQueue = .status :: [] := by decide

theorem witness_FramesPassedOnOrDropped :
    base.takes alien.addr = false ∧
    (base.onSli fun x => { x with thruQueue := [alien] }).sli.thruQueue = alien :: [] ∧
    judgeBytes [] = .error .length ∧ judgeBytes [0, 1, 9, 0, 0, 0, 0, 0, 0, 0] = .error .crc ∧
    base.isOwn (0 : Byte) ∧ agrees { addr := 0, kind := 9, seq := 0, body := [] } = false ∧
    agrees { addr := 15, kind := 2, seq := 0, body := [] } = false ∧ ({ rx [] with addr := 15 } : Rx).addr = 15 ∧
    base.sli.ownAddr ≠ 15 := by
  refine ⟨by decide, rfl, by decide +kernel, by decide +kernel, own_base, by decide, by decide, rfl, by decide⟩

theorem witness_StatusIntervalAndStaleSource :
    let s := base.onSli fun x => { x with statusCount := 49, sources := x.sources.set 3 { age := 4, fresh := true } }
    s.mu.tables.unit.statusInterval ≤ s.sli.statusCount + 1 ∧
    (s.sli.sources[sourceIndex (.light 3)]).fresh = true ∧
    s.mu.tables.unit.staleLimit ≤ min ((s.sli.sources[sourceIndex (.light 3)]).age + 1) 255 := by decide +kernel

/-- A beat on which the status interval is due and one on which it is not; and sources that stay FRESH, that become STALE,
and that are STALE at the age that is held. -/
theorem witness_StatusIntervalAndStaleSource_beat :
    let s (n age : Nat) (fresh : Bool) : State := base.onSli fun x =>
      { x with statusCount := n, sources := x.sources.set 3 { age, fresh } }
    ((s 49 3 true).mu.tables.unit.statusInterval = 50 ∧ (s 49 3 true).sli.statusCount + 1 = 50 ∧
      ¬(50 ≤ (s 48 3 true).sli.statusCount + 1)) ∧
    (sourceIndex (.light 3) = 3 ∧ ((s 0 4 true).blockBeat beat .sli).sli.sources[3] = { age := 5, fresh := false } ∧
      ((s 0 3 true).blockBeat beat .sli).sli.sources[3] = { age := 4, fresh := true } ∧
      ((s 0 255 false).blockBeat beat .sli).sli.sources[3] = { age := 255, fresh := false }) ∧
    (base.sli.sources[sourceIndex (.setpoint 31)]).fresh = false := by decide +kernel

/-- A stream with a LIVE cue of a PLAYING slot, at a queue of 31 and of 32 reports; a setpoint of an axis that nothing
owns and of one a slot owns. -/
theorem witness_StatusIntervalAndStaleSource_others :
    let c : Cue := { number := 5, scene := 20, zone := 1, stream := 7, clip := 310, outputs := 0, gain := 0, wait := 200, remaining := 1, state := .live }
    let s (n : Nat) : State := withPlay record20 ((withReports (List.replicate n (.reply 1 .done 0 []))
      (base.setCue 3 (some c))).onSli fun x => { x with sources := x.sources.set 11 { age := 4, fresh := true } })
    let t := (base.onSli fun x => { x with sources := x.sources.set 43 { age := 4, fresh := true } }).onAxis 31 fun x =>
      { x with present := true }
    let u := t.onMu fun x => { x with tables := { x.tables with env := x.tables.env.set 31 { enable := true } } }
    (((s 31).sli.sources[sourceIndex (.stream 7)]).fresh = true ∧
      (s 31).mu.tables.unit.staleLimit ≤ min (((s 31).sli.sources[sourceIndex (.stream 7)]).age + 1) 255) ∧
    ((s 31).nmx.cues[3] = some c ∧ (s 31).play 3 = some record20 ∧ (s 31).sli.ownQueue.length < 32 ∧
      32 ≤ (s 32).sli.ownQueue.length ∧ (s 31).nmx.cues[2] = none) ∧
    ((t.sli.sources[sourceIndex (.setpoint 31)]).fresh = true ∧ (u.modeOf 31).isSending = true ∧
      u.axisOwner 31 = none ∧ ((u.onArb fun x => { x with owners := x.owners.set 95 (some 7) }).axisOwner 31).isSome = true) := by
  refine ⟨⟨by decide +kernel, by decide +kernel⟩, ⟨rfl, rfl, by decide +kernel, by decide +kernel, rfl⟩,
    by decide +kernel, by decide +kernel, by decide +kernel, by decide +kernel⟩

/-- A waiting control frame with the sweep call of a position. -/
def sweepFrame (q : PosId) : CtrlFrame :=
  { number := 7, light := Vector.replicate 192 0, motion := Vector.replicate 8 0, call := some q, sweepCall := true, admitted := 0 }

theorem witness_ZoneBusTransmits :
    let a : AudioBlock := { second := true, samples := [] }
    (port2 fun p => { p with audio := [a] }).ports[2].audio = a :: [] ∧
    (let s := port2 fun p => { p with waiting := some (sweepFrame 11), sweep := some 11 }
     s.ports[2].audio = [] ∧ s.ports[2].waiting = some (sweepFrame 11) ∧ (sweepFrame 11).sweepCall = true ∧
     (sweepFrame 11).call = some 11 ∧ s.ports[2].sweep = some 11) ∧
    (port2 fun p => { p with waiting := some (sweepFrame 0) }).ports[2].sweep = some 0 ∧
    base.ports[2].audio = [] ∧ base.ports[2].waiting = none := by
  refine ⟨rfl, ⟨rfl, rfl, rfl, rfl, rfl⟩, rfl, rfl, rfl⟩

/-- Both parts fresh, with a sweep at its last position, a pending call, and no call; and a part missing. -/
theorem witness_ZoneBusTransmits_forming :
    let l : Vector Nat 192 := Vector.replicate 192 65534
    let m : Vector Int 8 := Vector.replicate 8 (-32768)
    let s (sweep : Option PosId) (calls : BitVec 12) (fresh : Bool) : State := port2 fun p => { p with
      light := some l, motion := some m, lightFresh := true, motionFresh := fresh, sweep, calls, awaiting := !fresh }
    ((s (some 11) 0 true).ports[2].window = none ∧ (s (some 11) 0 true).ports[2].powerOff = none ∧
      beat.sense.getLsbD 2 = false) ∧
    ((s (some 11) 0 true).ports[2].light = some l ∧ (s (some 11) 0 true).ports[2].motion = some m ∧
      (s (some 11) 0 true).ports[2].lightFresh = true ∧ (s (some 11) 0 true).ports[2].motionFresh = true) ∧
    ((s none 0x800 true).ports[2].sweep = none ∧ (s none 0x800 true).ports[2].calls.getLsbD 11 = true ∧
      ∀ p : PosId, p < 11 → (s none 0x800 true).ports[2].calls.getLsbD p = false) ∧
    (s none 0 true).ports[2].calls = 0 ∧
    ((s none 0 false).ports[2].motionFresh = false ∧ (s none 0 false).ports[2].awaiting = true) ∧
    base.ports[2].awaiting = false := by
  refine ⟨⟨rfl, rfl, by decide⟩, ⟨rfl, rfl, rfl, rfl⟩, ⟨rfl, by decide, by decide +kernel⟩, rfl, ⟨rfl, rfl⟩, rfl⟩

theorem witness_FixtureReplyIsHeld :
    let ps : List Int := [-32768, 32767, 0, 1]
    let w : Window := { number := 7, call := none, received := 0, replies := Vector.replicate 12 [] }
    (ps.length ≤ 4 ∧ ∀ p ∈ ps, -32768 ≤ p ∧ p ≤ 32767) ∧
    (port2 fun p => { p with window := some w }).ports[2].window = some w ∧ w.number = 7 ∧ w.number ≠ 8 ∧
    base.ports[2].window = none := by
  refine ⟨by decide, rfl, rfl, by decide, rfl⟩

/-- An announcement with every field at its end of range, and the record that R137 keeps under it. -/
def fixture : Announce :=
  { serial := 4294967295, maker := 65535, model := 65535, revision := 65535, cls := 1, start := 4, count := 4,
    positions := [32767, -32767, 0, 1] }

theorem witness_AnnouncementIsFiled :
    (fixture.serial < 2 ^ 32 ∧ fixture.maker < 65536 ∧ fixture.model < 65536 ∧ fixture.revision < 65536 ∧
      fixture.cls < 256 ∧ fixture.start < 256 ∧ fixture.count < 256 ∧ fixture.positions.length < 256 ∧
      ∀ p ∈ fixture.positions, -32768 ≤ p ∧ p ≤ 32767) ∧
    keeps base.ports[2].census[11] fixture = false ∧
    keeps (some { ann := fixture, state := .admitted, miss := 2 }) { fixture with maker := 0 } = true ∧
    keeps (some { ann := fixture, state := .lostMissed, miss := 3 }) fixture = false := by decide

/-- A record of the fixture at position 12 of zone 2, and nothing else. -/
def withFixture (st : CensusState) (miss : Nat) (f : Port → Port) : State :=
  port2 fun p => f { p with census := p.census.set 11 (some { ann := fixture, state := st, miss }) }

/-- The only record of `withFixture`. -/
theorem withFixture_census (st : CensusState) (miss : Nat) (w : Option Window) :
    ∀ (z : ZoneId) (q : PosId), (withFixture st miss fun p => { p with window := w }).ports[z].census[q] =
      if z = 2 ∧ q = 11 then some { ann := fixture, state := st, miss } else none := by
  intro z q
  revert q
  revert z
  simp only [withFixture, port2, base, State.reset, State.afterFullReset, State.onPort]
  intro z q
  fin_cases z <;> fin_cases q <;> rfl

/-- A motion record alone meets the census law. -/
theorem withFixture_law (w : Option Window) : CensusLaw (withFixture .admitted 2 fun p => { p with window := w }) where
  within := by
    intro z q r h _
    rw [withFixture_census] at h
    split at h
    · cases h
      exact ⟨.motion, rfl, by decide, by decide⟩
    · cases h
  apart := by
    intro z p q x y hp hq _ _ _ n
    rw [withFixture_census] at hp hq
    split at hp
    · split at hq
      · rename_i a b
        exact absurd (a.2.trans b.2.symm) n
      · cases hq
    · cases hp

/-- The window of a frame that no position, or the fixture alone, has answered, over a record at its second miss, at its
first, LOST, and ADMITTED with a position for its last axis. -/
theorem witness_FixtureReplyIsHeld_close :
    let w (received : BitVec 12) : Window := { number := 7, call := none, received, replies := (Vector.replicate 12 []).set 11 [5, 6, 7, 32767] }
    let s (st : CensusState) (miss : Nat) (received : BitVec 12) : State :=
      withFixture st miss fun p => { p with window := some (w received) }
    let r (st : CensusState) (miss : Nat) : CensusRec := { ann := fixture, state := st, miss }
    ((s .admitted 2 0).ports[2].powerOff = none ∧ beat.sense.getLsbD 2 = false ∧ base.ports[2].window = none) ∧
    (s .admitted 2 0).ports[2].window = some (w 0) ∧ (s .admitted 2 0).ports[2].census[11] = some (r .admitted 2) ∧
    (isLost (some (r .admitted 2)) = false ∧ (w 0).received.getLsbD 11 = false ∧ 2 ≤ (r .admitted 2).miss ∧
      (r .admitted 1).miss < 2 ∧ (w 0x800).received.getLsbD 11 = true ∧ isLost (some (r .lostMissed 3)) = true) ∧
    (CensusLaw (s .admitted 2 0x800) ∧ ((s .admitted 2 0x800).blockBeat beat (.port 2)).ports[2].census[11] = some (r .admitted 0) ∧
      fixture.spans (7 : Fin 8) = true ∧ ((w 0x800).replies[11])[(7 : Fin 8).val - fixture.start]? = some 32767) ∧
    ((s .admitted 2 0).ports[2].isPresent .motion 7 = true ∧
      ((s .admitted 2 0).blockBeat beat (.port 2)).ports[2].isPresent .motion 7 = false) := by
  refine ⟨⟨rfl, by decide, rfl⟩, rfl, rfl, by decide, ⟨withFixture_law _, by decide +kernel, by decide, rfl⟩,
    by decide +kernel, by decide +kernel⟩

/-- A DISABLED axis whose port handed the ends of its range, and a window in which no position reaches axis 0 of zone 2. -/
theorem witness_FixtureReplyIsHeld_positions :
    let x (p : Int) : Axis := { present := true, mode := .disabledOutOfRange, reply := some p }
    let s (p : Int) : State := base.onAxis 31 fun _ => x p
    ((s 32767).mgt.axes[31] = x 32767 ∧ (s (-32767)).mgt.axes[31] = x (-32767) ∧
      (x 32767).mode.isDisabled = true ∧ (32767 : Int) ≠ -32768 ∧ (-32767 : Int) ≠ -32768) ∧
    (let w : Window := { number := 7, call := none, received := 0, replies := Vector.replicate 12 [] }
     let t := port2 fun p => { p with window := some w }
     t.ports[2].window = some w ∧ t.ports[2].powerOff = none ∧ (∀ q : PosId, (t.blockBeat beat (.port 2)).ports[2].census[q] = none)) ∧
    (axisZone 31 = 3 ∧ axisZone 31 ≠ 2) := by
  refine ⟨by decide +kernel, ⟨rfl, rfl, by decide +kernel⟩, by decide⟩

theorem witness_CensusLawKept :
    CensusLaw (withFixture .admitted 2 fun p => { p with window := none }) ∧
    ∃ t, step (withFixture .admitted 2 fun p => { p with window := none }) = .next t :=
  ⟨withFixture_law none, _, rfl⟩

/-- One announcement for each judgement of R138, at the bounds of Section 7.1. -/
theorem witness_AnnouncementIsFiled_judgements :
    let none_ : Vector (Option AdmtRec) 40 := Vector.replicate 40 none
    let other : Vector (Option AdmtRec) 40 := none_.set 39 (some { maker := 0, model := 0, revision := 0, cls := .motion, matchSet := 1 })
    let census : Vector (Option CensusRec) 12 := (Vector.replicate 12 none).set 11 (some { ann := fixture, state := .admitted, miss := 0 })
    let a (start count : Nat) : Announce := { fixture with start, count, positions := List.replicate count 0 }
    (¬announceFormed (a 0 5) ∧ ¬announceFormed { a 0 1 with positions := [-32768] } ∧ announceFormed (a 4 4)) ∧
    (¬announceListed other fixture ∧ announceListed none_ fixture ∧ announceListed other { fixture with maker := 0 }) ∧
    (¬announceFits (a 5 4) ∧ announceFits (a 4 4)) ∧
    (announceMeets census 0 (a 3 2) 11 ∧ (∀ i : PosId, i < 11 → ¬announceMeets census 0 (a 3 2) i) ∧
      ∀ p : PosId, ¬announceMeets census 0 (a 3 1) p) ∧
    (base.ports[2].isPresent .motion 7 = false ∧ fixture.spans (7 : Fin 8) = true ∧
      fixture.positions[(7 : Fin 8).val - fixture.start]? = some 1) := by
  refine ⟨?_, ⟨?_, .inl fun i => ?_, .inr ⟨39, _, rfl, ?_⟩⟩, ?_, ⟨⟨by decide, _, rfl, ?_⟩, ?_, ?_⟩, ?_⟩
  · simp only [announceFormed]; decide
  · rintro (h | ⟨i, r, h, m, -⟩)
    · exact absurd (h 39) (by decide)
    · have e : i = 39 := by
        revert h
        fin_cases i <;> first | (intro h; cases h; done) | (intro _; rfl)
      subst e
      cases h
      exact absurd (m (by decide)) (by decide)
  · fin_cases i <;> rfl
  · decide
  · simp only [announceFits]; decide
  · decide
  · rintro i hi ⟨_, r, h, -⟩
    revert h
    have : (Vector.set (Vector.replicate 12 (none : Option CensusRec)) 11
        (some { ann := fixture, state := .admitted, miss := 0 }))[i] = none := by
      revert hi
      fin_cases i <;> first | (intro _; rfl) | (intro h; exact absurd h (by decide))
    simp [this]
  · rintro p ⟨_, r, h, -, -, _, l⟩
    revert h
    fin_cases p <;> first | (intro h; cases h; done) | (intro h; cases h; exact absurd l (by decide))
  · refine ⟨by decide +kernel, by decide, rfl⟩

/-- Windows of a frame that called position 12, of one that called position 1, and of one that called none. -/
theorem witness_AnnouncementIsFiled_window :
    let w (call : Option PosId) : Window := { number := 7, call, received := 0, replies := Vector.replicate 12 [] }
    let s (call : Option PosId) : State := port2 fun p => { p with window := some (w call) }
    ((s (some 11)).ports[2].window = some (w (some 11)) ∧ (w (some 11)).call = some 11) ∧
    ((s (some 0)).ports[2].window = some (w (some 0)) ∧ (w (some 0)).call ≠ some 11) ∧
    ((s none).ports[2].window = some (w none) ∧ (w none).call ≠ some 11) :=
  ⟨⟨rfl, rfl⟩, ⟨rfl, by decide⟩, rfl, by decide⟩

/-- ADMITTED announcements that newly cover the last channel and the last output of a zone; one that keeps a record with
an axis at its end; and one, malformed, that uncovers that axis. -/
theorem witness_AnnouncementIsFiled_presence :
    let a (cls start count : Nat) : Announce := { fixture with cls, start, count, positions := [] }
    let p := base.ports[2]
    let s := withFixture .admitted 2 id
    (judgeAnnounce base.mu.tables.admt p.census 0 (a 0 144 48) = .admitted ∧ keeps p.census[0] (a 0 144 48) = false ∧
      (a 0 144 48).spans (191 : Fin 192) = true ∧ p.isPresent .light 191 = false) ∧
    (judgeAnnounce base.mu.tables.admt p.census 0 (a 2 1 1) = .admitted ∧ keeps p.census[0] (a 2 1 1) = false ∧
      (a 2 1 1).spans (1 : Fin 2) = true ∧ p.isPresent .sound 1 = false) ∧
    (s.ports[2].census[11] = some { ann := fixture, state := .admitted, miss := 2 } ∧
      keeps s.ports[2].census[11] { fixture with model := 0 } = true ∧ fixture.spans (7 : Fin 8) = true ∧
      fixture.positions[(7 : Fin 8).val - fixture.start]? = some 1) ∧
    (keeps s.ports[2].census[11] (a 1 4 5) = false ∧ s.ports[2].isPresent .motion 7 = true ∧
      (s.announce 2 11 (a 1 4 5)).ports[2].isPresent .motion 7 = false) := by
  refine ⟨by decide +kernel, by decide +kernel, ⟨rfl, by decide +kernel, by decide, rfl⟩, by decide +kernel⟩

/-- A loss and a REFUSED announcement in an ARMED zone, and the loss of an axis that slot 3 owns and that was tracking. -/
theorem witness_CensusEvents :
    let w : Window := { number := 7, call := none, received := 0, replies := Vector.replicate 12 [] }
    let s := withFixture .admitted 2 fun p => { p with window := some w, armed := true }
    let s := (withPlay record20 (s.onArb fun x => { x with owners := x.owners.set 87 (some 3) })).onMu fun x =>
      { x with tables := { x.tables with env := x.tables.env.set 23 { enable := true } } }
    let s := s.onAxis 23 fun x => { x with present := true, mode := .tracking }
    let t := s.blockBeat beat (.port 2)
    let u := s.announce 2 0 { fixture with cls := 3 }
    (newlyLost s t 2 ∧ s.ports[2].armed = true ∧ s.ports[2].changeFlag = false ∧ t.ports[2].changeFlag = true) ∧
    (globalAxis 2 7 = 23 ∧ s.ports[2].isPresent .motion 7 = true ∧ t.ports[2].isPresent .motion 7 = false ∧
      (s.mu.tables.env[23]).enable = true ∧ (s.mgt.axes[23]).mode = .tracking ∧ s.axisOwner 23 = some 3 ∧
      s.play 3 = some record20) ∧
    (unlistedSet u.ports[2] ∧ ¬unlistedSet s.ports[2] ∧ keeps s.ports[2].census[0] { fixture with cls := 3 } = false) ∧
    (base.ports[2].armed = false ∧ ¬newlyLost base base 2) := by
  refine ⟨⟨⟨11, by decide +kernel⟩, by decide +kernel, by decide +kernel, by decide +kernel⟩,
    ⟨rfl, by decide +kernel, by decide +kernel, rfl, by decide +kernel, by decide +kernel, by decide +kernel⟩,
    ⟨⟨0, { ann := { fixture with cls := 3 }, state := .refusedMalformed, miss := 0 }, by decide +kernel, .inl rfl⟩, ?_,
      by decide +kernel⟩, rfl, ?_⟩
  · rintro ⟨q, r, h, st⟩
    revert h
    fin_cases q <;> intro h <;> cases h
    exact absurd st (by decide)
  · rintro ⟨q, h, n⟩
    exact absurd (h.symm.trans n) (by decide)

/-- A fault while the power is OFF; a fault that is not new; axes of the zone that are out of range, in range and absent. -/
theorem witness_MotionPower_axes :
    let s := (port2 fun p => { p with powerOff := some 100 })
    let e : EnvRec := { enable := true, min := -5, max := 5 }
    let x (p : Int) : State := ((tables fun t => { t with env := t.env.set 23 e }).onAxis 23 fun x => { x with present := true, pos := p }).onArb
      fun y => { y with owners := y.owners.set 87 (some 3) }
    (s.ports[2].senseFault = false ∧ s.ports[2].powerOff ≠ none ∧ (port2 fun p => { p with senseFault := true }).ports[2].senseFault = true) ∧
    (globalAxis 2 7 = 23 ∧ ((x 6).mu.tables.env[23]).enable = true ∧ ¬(e.min ≤ 6 ∧ (6 : Int) ≤ e.max) ∧ (e.min ≤ 5 ∧ (5 : Int) ≤ e.max) ∧
      (base.mu.tables.env[23]).enable = false ∧ (base.mgt.axes[23]).present = false) ∧
    ((x 5).axisOwner 23 = some 3 ∧ (withPlay record20 (x 5)).play 3 = some record20) ∧
    (let r : CensusRec := { ann := fixture, state := .lostMissed, miss := 3 }
     isLost (some r) = true ∧ ({ fixture with cls := 0 } : Announce).cls ≠ 1) := by
  refine ⟨⟨rfl, by decide, rfl⟩, ⟨rfl, rfl, by decide, by decide, rfl, rfl⟩, ⟨by decide +kernel, rfl⟩, by decide⟩

/-- A record that carries its last position, one that carries too few, and none. -/
theorem witness_CensusCommands_records :
    let r (ps : List Int) : CensusRec := { ann := { fixture with positions := ps }, state := .refusedMalformed, miss := 0 }
    let s (ps : List Int) : State := port2 fun p => { p with census := p.census.set 11 (some (r ps)) }
    (s fixture.positions).ports[2].census[11] = some (r fixture.positions) ∧ base.ports[2].census[11] = none ∧
    ((r fixture.positions).ann.cls = 1 ∧ (3 : Fin 4).val < (r fixture.positions).ann.count ∧
      (r fixture.positions).ann.positions[(3 : Fin 4).val]? = some 1 ∧ (r []).ann.positions[(0 : Fin 4).val]? = none) ∧
    (({ fixture with count := 3 } : Announce).count ≤ (3 : Fin 4).val ∧ ({ fixture with cls := 2 } : Announce).cls ≠ 1) := by
  refine ⟨rfl, rfl, ⟨rfl, by decide, rfl, rfl⟩, by decide⟩

/-- A sample of FAULT after OK and after FAULT, one of OK, and hold-offs that end on the beat and that do not. -/
theorem witness_MotionPower_beat :
    let b := { beat with sense := single 2 }
    let s (n : Nat) (fault : Bool) : State := port2 fun p => { p with powerOff := some n, senseFault := fault }
    (b.sense.getLsbD (2 : ZoneId) = true ∧ beat.sense.getLsbD (2 : ZoneId) = false) ∧
    ((s 1 true).ports[2].powerOff = some 1 ∧ (s 100 true).ports[2].powerOff = some 100 ∧ (s 1 true).ports[2].senseFault = true ∧
      (s 1 true).ports[2].window = none) ∧
    (base.ports[2].powerOff = none ∧ base.ports[2].senseFault = false ∧
      after (exec (.motionPowerFault 2) (base.onMgt (Mgt.dropReplies 2))) (fun _ => ()) = some ()) := by
  refine ⟨by decide, ⟨rfl, rfl, rfl, rfl⟩, rfl, rfl, rfl⟩

theorem witness_MotionPower :
    (base.ports[2].senseFault = false ∧ base.ports[2].powerOff = none) ∧
    (let s := port2 fun p => { p with powerOff := some 1 }
     s.ports[2].powerOff = some 1 ∧ 1 ≤ 1) ∧
    (let r : CensusRec := { ann := fixture, state := .admitted, miss := 0 }
     let s := port2 fun p => { p with census := p.census.set 11 (some r) }
     s.ports[2].census[11] = some r ∧ isLost (some r) = false ∧ r.ann.cls = 1) := by
  refine ⟨⟨rfl, rfl⟩, ⟨rfl, by decide⟩, rfl, rfl, rfl⟩

theorem witness_CensusCommands : base.hears (cmd [3]) ∧ (cmd [3]).fields = [BitVec.ofNat 8 (3 : ZoneId).val] :=
  ⟨hears_of rfl rfl (by decide), rfl⟩

theorem witness_ShowStopLine :
    (let s := base.onIou fun x => { x with stopDebounce := 1 }
     1 ≤ s.iou.stopDebounce ∧ s.iou.stopAccepted = false ∧ s.arb.showStopped = false) ∧
    (let s := base.onIou fun x => { x with stopDebounce := 1, stopAccepted := true }
     1 ≤ s.iou.stopDebounce ∧ s.iou.stopAccepted = true) := by decide

/-- Slot 3 plays scene 20 with group 25 and axis 31 as 16 requests wait; a claimed axis that tracks, one that is GUARDED,
one that no slot claims, and one without an envelope. -/
theorem witness_StoppedShow :
    let cl : Claims := { groups := single 25, axes := single 31 }
    let p := { record20 with claims := cl }
    let on : EnvRec := { enable := true }
    let s := withQueue (List.replicate 16 { request20 with scene := 47 }) (withPlay p (withScene (scene 2 cl []) base))
    let s := s.onArb fun x => { x with owners := (x.owners.set 25 (some 3)).set 95 (some 3) }
    let s := s.onMu fun x => { x with tables := { x.tables with env := (x.tables.env.set 31 on).set 0 on } }
    let s := (s.onAxis 31 fun x => { x with present := true }).onAxis 0 fun x => { x with present := true, guarded := true }
    (s.arb.showStopped = false ∧ s.arb.queue.length = 16 ∧ s.play 3 = some p) ∧
    (s.arb.owners[25] = some 3 ∧ p.claims.mask.getLsbD 25 = true ∧ s.arb.owners[0] = none) ∧
    (s.modeOf 31 = .tracking ∧ s.modeOf 0 = .guarded ∧ s.modeOf 30 = .disabledNoEnvelope ∧ p.claims.axes.getLsbD 31 = true) ∧
    (∀ (k : SlotId), (s.play k).isSome = true → k = 3) ∧ p.claims.axes.getLsbD 0 = false := by
  refine ⟨⟨rfl, rfl, rfl⟩, by decide +kernel, by decide +kernel, by decide +kernel, by decide +kernel⟩

/-- A LIVE cue, alone on its stream, in a queue with room for the reports of a show stop. -/
theorem witness_ShowStopCancels :
    let c : Cue := { number := 5, scene := 20, zone := 1, stream := 7, clip := 1, outputs := 255, gain := 4096, wait := 1, remaining := 0, state := .live }
    let s := (withReports (List.replicate 23 (.reply 1 .done 0 [])) base).setCue 7 (some c)
    s.nmx.cues[7] = some c ∧ c.state = .live ∧ s.sli.ownQueue.length ≤ 23 ∧ (∀ j : SlotId, j ≠ 7 → s.nmx.cues[j] = none) ∧
    s.arb.showStopped = false := by
  refine ⟨rfl, rfl, by decide, by decide +kernel, rfl⟩

/-- A release, a press inside the lockout, one in CLOSED, and a press that is acted on. -/
theorem witness_LineLevelAccepted :
    let ok (s : State) (high : Bool) : Bool :=
      (s.mu.tables.line[4]).role != .unused && decide ((s.mu.tables.line[4]).debounce ≤ (s.iou.lines[4]).debounce + 1) &&
        sampledActive s.mu.tables.line[4] high != (s.iou.lines[4]).accepted
    let open_ (s : State) : State := (s.onIou fun x => { x with mode := .opened }).onMu fun x =>
      { x with tables := { x.tables with trig := x.tables.trig.set 4 (some (trigger .ignore)) } }
    ok (lineState .beam { accepted := true, debounce := 1 }) false = true ∧
    ok (lineState .button { debounce := 1, lockout := 1 }) true = true ∧
    (ok (lineState .button { debounce := 1 }) true = true ∧ (lineState .button { debounce := 1 }).iou.mode ≠ .opened) ∧
    (let s := open_ (lineState .button { debounce := 1 })
     ok s true = true ∧ (s.iou.lines[4]).lockout = 0 ∧ s.iou.mode = .opened ∧ s.iou.showStopped = false ∧
     (s.mu.tables.trig[lineEntry 4]).isSome = true) := by decide +kernel

/-- A PRESENCE line and a BEAM line of zone 1, at each occupancy, with linger times 300 and 0. -/
theorem witness_LineLevelAccepted_zones :
    let s (r : Role) (accepted : Bool) (k : OccKind) : State :=
      (lineState r { accepted, debounce := 1 }).onIou fun x => { x with zones := x.zones.set 1 { kind := k, count := 0 } }
    let l := line .presence
    let two := ((s .presence true .occupied).onMu fun x => { x with tables := { x.tables with line := x.tables.line.set 15 l } }).onLine 15
      fun x => { x with accepted := true }
    (lineZone l = 1 ∧ l.zone = (1 : ZoneId).val ∧ sampledActive l true ≠ false ∧ sampledActive l false ≠ true) ∧
    ((s .presence false .clear).iou.zones[1]).kind ≠ .occupied ∧ ((s .presence true .occupied).iou.zones[1]).kind = .occupied ∧
    ((two.mu.tables.line[15]).role = .presence ∧ (two.mu.tables.line[15]).zone = 1 ∧ (two.iou.lines[15]).accepted = true ∧ (15 : LineId) ≠ 4) ∧
    (∀ m : LineId, m ≠ 4 → ((s .presence true .occupied).iou.lines[m]).accepted = false) ∧
    ((s .beam false .linger).iou.zones[1]).kind = .linger ∧ (0 < (s .beam false .clear).mu.tables.unit.linger) ∧
    (line .beam).trigOnBreak ≠ 1 ∧ ({ line .beam with trigOnBreak := 1 } : LineRec).trigOnBreak = 1 ∧
    ({ base.mu.tables.unit with linger := 0 } : UnitRec).linger = 0 := by
  refine ⟨by decide, by decide +kernel, by decide +kernel, by decide +kernel, by decide +kernel, by decide +kernel,
    by decide +kernel, by decide, rfl, rfl⟩

/-- Firings that are barred: a line in CLOSED, a virtual trigger in SERVICE, any under a stopped show, and an EMPTY entry;
and one that is not, with its scene free, playing, queued, and INELIGIBLE with an alternate. -/
theorem witness_LineLevelAccepted_firing :
    let s := withTrigger .stop (withScene (scene 2 {} []) base)
    let no := { scene 2 {} [] with tests := [{ kind := .flagSet 31, orComb := false }] }
    (fireBarred base 15 ∧ ¬fireBarred base 16) ∧ fireBarred (base.onIou fun x => { x with mode := .service }) 31 ∧
    fireBarred (base.onIou fun x => { x with mode := .opened, showStopped := true }) 0 ∧ base.mu.tables.trig[(23 : EntryId)] = none ∧
    (¬fireBarred s 23 ∧ s.mu.tables.trig[(23 : EntryId)] = some (trigger .stop) ∧ s.playingSlot 20 = none ∧ s.isQueued 20 = false) ∧
    (withPlay record20 s).playingSlot 20 = some 3 ∧ (withQueue [request20] s).isQueued 20 = true ∧
    ((withScene no base).request 20 (.virtual 15) none none).1 = .refused .ineligible := by
  simp only [fireBarred]
  refine ⟨by decide, by decide, by decide, rfl, ⟨by decide, rfl, by decide +kernel, by decide +kernel⟩, by decide +kernel,
    by decide +kernel, by decide +kernel⟩

/-- Axis 31, guarded by zone 1, as a PRESENCE line makes the zone OCCUPIED; and as a linger count that runs out makes it
CLEAR, with re-arm times 6000 and 0. A scene with abandon-on-clear ends with it. -/
theorem witness_GuardsJudged :
    let guard (rearm : Nat) (s : State) : State := s.onMu fun x =>
      { x with tables := { x.tables with env := x.tables.env.set 31 { guardZones := 2, rearm } } }
    let s := guard 0 (lineState .presence { debounce := 1 })
    let l (rearm : Nat) : State := ((guard rearm base).onIou fun x => { x with zones := x.zones.set 1 { kind := .linger, count := 1 } }).onMgt
      fun x => { x with occ := x.occ.set 1 .linger }
    let sc := { scene 2 group25 [] with abandonOnClear := true }
    let p := { record20 with claims := group25 }
    (s.mgt.occ[1] = .clear ∧ (s.mu.tables.env[31]).guardZones.getLsbD 1 = true ∧
      after (exec (.lineAcceptedChange 4 true false) s) (fun t => t.mgt.occ[1]) = some .occupied) ∧
    (∀ z : ZoneId, ((l 0).mu.tables.env[31]).guardZones.getLsbD z = true → z = 1) ∧
    ((l 6000).mgt.occ[1] ≠ .clear ∧ after (exec (.lingerExpiry 1) (l 6000)) (fun t => t.mgt.occ[1]) = some .clear ∧
      after (exec (.lingerExpiry 1) (l 0)) (fun t => t.mgt.occ[1]) = some .clear) ∧
    ((withPlay p (withScene sc (l 0))).play 3 = some p ∧ (withScene sc (l 0)).scene 20 = some sc ∧ sc.home = 1 ∧
      (l 0).arb.queue = [] ∧ p.claims.mask.getLsbD 25 = true) := by
  refine ⟨⟨by decide, by decide, by decide +kernel⟩, by decide +kernel, ⟨by decide, by decide +kernel, by decide +kernel⟩, rfl,
    rfl, rfl, rfl, by decide +kernel⟩

/-- Line 4 on a beat that accepts a press, a release, or nothing, and as it becomes stuck; a zone in each kind; and the
show-stop line on the beat that accepts its level, and on the one before. -/
theorem witness_LockoutStuckAndLinger_beat :
    let down := { beat with lines := single 4 }
    let t (b : BeatIn) (x : LineRt) : LineRt := ((lineState .button x).blockBeat b .iou).iou.lines[4]
    let zone (z : ZoneOcc) : State := base.onIou fun x => { x with zones := x.zones.set 3 z }
    let stop (n : Nat) : State := base.onIou fun x => { x with stopDebounce := n }
    (t down { debounce := 1, lockout := 1, held := 7 } = { accepted := true } ∧
      t beat { accepted := true, debounce := 1, held := 7, stuck := true } = { held := 7 } ∧
      t down { lockout := 65535 } = { debounce := 1, lockout := 65534 } ∧
      t down { accepted := true, held := 2999 } = { accepted := true, held := 3000, stuck := true }) ∧
    ((zone { kind := .linger, count := 2 }).iou.zones[3].kind = .linger ∧ ¬(2 ≤ 1) ∧ (base.iou.zones[3]).kind = .clear ∧
      (zone { kind := .occupied }).iou.zones[3].kind = .occupied ∧ ∀ n : LineId, (base.mu.tables.line[n]).role = .unused) ∧
    ((stop 1).iou.stopAccepted = false ∧ 2 ≤ (stop 1).iou.stopDebounce + 1 ∧ ¬(2 ≤ (stop 0).iou.stopDebounce + 1)) := by
  decide +kernel

theorem witness_LockoutStuckAndLinger :
    ((lineState .button { lockout := 1 }).iou.lines[4]).lockout = 1 ∧
    (let s := lineState .button { accepted := true, held := 2999 }
     (s.iou.lines[4]).accepted = true ∧ (s.iou.lines[4]).stuck = false ∧ (s.mu.tables.line[4]).role = .button ∧
     s.mu.tables.unit.buttonStuck ≤ (s.iou.lines[4]).held + 1) ∧
    (let s := lineState .presence { accepted := true, held := 179999 }
     (s.mu.tables.line[4]).role = .presence ∧ s.mu.tables.unit.presenceStuck ≤ (s.iou.lines[4]).held + 1) ∧
    (let s := base.onIou fun x => { x with zones := x.zones.set 2 { kind := .linger, count := 1 } }
     (s.iou.zones[2]).kind = .linger ∧ (s.iou.zones[2]).count = 1) ∧
    (let ch : Channel := { channel {} with indicator := some 65535 }
     ch.present = true ∧ ch.indicator = some 65535) := by decide +kernel

/-- No scene; a scene that claims the AMBIENT stream S6; a scene with tests in either order of combiners. -/
theorem witness_EligibilityFold :
    let t (orComb : Bool) : Test := { kind := .flagSet 0, orComb }
    base.scene 20 = none ∧
    (let sc := scene 2 { streams := single 6 } []
     (withScene sc base).scene 20 = some sc ∧ sc.claims.streams.getLsbD 6 = true ∧
     (withScene sc base).mu.tables.route.ambient.getLsbD 6 = true) ∧
    (let sc := scene 2 {} [t false, t true, t false]
     (withScene sc base).scene 20 = some sc ∧ sc.tests = [t false, t true, t false]) := by
  refine ⟨by decide +kernel, ⟨rfl, by decide, by decide⟩, rfl, rfl⟩

/-- A request for scene 21. -/
def request21 : Request := { request20 with scene := 21 }

/-- Scene 20 as given and scene 21, a yieldable one of claims `other`; slot 3 plays scene 20 with priority 2 and owns the
resources of a set. -/
def holding (sc : SceneRec) (other : Claims) (owned : BitVec 96) : State :=
  let s := (withScene sc base).onMu fun x => { x with tables := { x.tables with scn := x.tables.scn.set 21 (some (scene 7 other [])) } }
  (withPlay record20 s).onArb fun x => { x with owners := Vector.ofFn fun i => if owned.getLsbD i then some 3 else none }

/-- The owners of `holding`, whatever is queued. -/
theorem holding_owner (q : List Request) (sc : SceneRec) (other : Claims) (owned : BitVec 96) (x : ResourceId) :
    (withQueue q (holding sc other owned)).arb.owners[x] = if owned.getLsbD x then some 3 else none := by
  simp [withQueue, holding, State.onArb]

/-- The three ways to wait, each at its edge: a blocked resource, an owner of equal priority, and no slot; and a request
that does not wait, one priority above. -/
theorem witness_EligibilityFold_walk :
    let sc := scene 2 { groups := single 25 } []
    let s := holding sc {} (single 25)
    let full := base.onSeq fun x => { x with slots := Vector.replicate 8 (.playing record20) }
    (s.scene 20 = some sc ∧ s.eligible 20 = true ∧ sc.claims.mask.getLsbD 25 = true) ∧
    (waits s sc 3 (single 25) ∧ waits s sc 2 0 ∧ waits full (scene 2 {} []) 7 0) ∧
    (mayTake s sc 3 25 ∧ mayUse s sc.claims 3 ∧ ¬waits s sc 3 0) := by
  refine ⟨⟨rfl, by decide +kernel, by decide +kernel⟩, ⟨.inl ⟨25, by decide +kernel, by decide +kernel⟩, ?_, ?_⟩, ?_⟩
  · refine .inr (.inl ⟨25, by decide +kernel, fun h => ?_⟩)
    obtain ⟨-, p, d, hp, -, -, lt⟩ := h 3 (by decide +kernel)
    cases hp
    exact absurd lt (by decide)
  · refine .inr (.inr fun k h => ?_)
    rcases h with ⟨x, m, -⟩ | ⟨h, -⟩
    · exact absurd m (by simp [scene, Claims.mask])
    · revert h
      fin_cases k <;> exact fun h => by cases h
  · have owner : ∀ (x : ResourceId) (k : SlotId), (holding (scene 2 { groups := single 25 } []) {} (single 25)).arb.owners[x] = some k →
        k = 3 := by decide +kernel
    have take : ∀ x, mayTake (holding (scene 2 { groups := single 25 } []) {} (single 25)) (scene 2 { groups := single 25 } []) 3 x :=
      fun x k h => by
        cases owner x k h
        exact ⟨rfl, record20, _, rfl, rfl, rfl, by decide⟩
    have use : mayUse (holding (scene 2 { groups := single 25 } []) {} (single 25)) { groups := single 25 } 3 :=
      .inl ⟨25, by decide +kernel, by decide +kernel⟩
    refine ⟨take 25, use, ?_⟩
    rintro (⟨x, -, h⟩ | ⟨x, -, h⟩ | h)
    · exact absurd h (by simp)
    · exact h (take x)
    · exact h 3 use

/-- Two queued requests: the later one claims resource 25, which the earlier one wants, or resource 95 alone; and an
earlier one that claims nothing, where only the preemption of slot 3 gives a slot. -/
theorem witness_EligibilityFold_two :
    let sc := scene 2 group25 []
    let s (other : Claims) : State := withQueue [request20, request21] (holding sc other (single 25))
    let axis : Claims := { axes := single 31 }
    let full := withQueue [request20, { request21 with priority := 3 }] ((holding (scene 2 {} []) group25 (single 25)).onSeq fun x =>
      { x with slots := Vector.replicate 8 (.playing record20) })
    (∀ other : Claims, (s other).arb.queue = [request20, request21] ∧ waits (s other) sc 2 0) ∧
    (group25.mask.getLsbD 25 = true ∧ sc.claims.mask.getLsbD 25 = true ∧ (s group25).eligible 20 = true ∧
      (s group25).eligible 21 = true) ∧
    ((∀ x : ResourceId, sc.claims.mask.getLsbD x = true → axis.mask.getLsbD x = false) ∧ (s axis).eligible 20 = true ∧
      (s axis).eligible 21 = true ∧ (∀ x : ResourceId, axis.mask.getLsbD x = true → mayTake (s axis) (scene 7 axis []) 2 x) ∧
      mayUse (s axis) axis 0 ∧ request20 ≠ request21) ∧
    (waits full (scene 2 {} []) 2 0 ∧ (∀ x : ResourceId, ({} : Claims).mask.getLsbD x = false) ∧ full.eligible 20 = true ∧
      full.eligible 21 = true ∧ (∀ x : ResourceId, mayTake full (scene 7 group25 []) 3 x) ∧ mayUse full group25 3 ∧
      ∀ j : SlotId, j < 3 → ¬mayUse full group25 j) := by
  refine ⟨fun other => ⟨rfl, .inr (.inl ⟨25, by decide +kernel, fun h => ?_⟩)⟩, by decide +kernel,
    ⟨by decide +kernel, by decide +kernel, by decide +kernel, fun x m k h => ?_, .inr ⟨by decide +kernel, by decide +kernel⟩, by decide⟩,
    .inr (.inr fun k h => ?_), by decide +kernel, by decide +kernel, by decide +kernel, fun x k h => ?_,
    .inl ⟨25, by decide +kernel, by decide +kernel⟩, fun j l h => ?_⟩
  · obtain ⟨-, p, d, hp, -, -, lt⟩ := h 3 (by rw [holding_owner]; decide +kernel)
    cases hp
    exact absurd lt (by decide)
  · have e : ∀ x : ResourceId, ({ axes := single 31 } : Claims).mask.getLsbD x = true → x = 95 := by decide +kernel
    cases e x m
    rw [holding_owner, if_neg (by decide +kernel)] at h
    cases h
  · rcases h with ⟨x, m, -⟩ | ⟨h, -⟩
    · exact absurd m (by simp [scene, Claims.mask])
    · revert h
      fin_cases k <;> exact fun h => by cases h
  · have e : k = 3 := by revert h; revert k; revert x; decide +kernel
    subst e
    exact ⟨rfl, record20, scene 2 {} [], by decide +kernel, by decide +kernel, rfl, by decide⟩
  · rcases h with ⟨x, -, h⟩ | ⟨h, -⟩
    · have e : j = 3 := by revert h; clear l; revert j; revert x; decide +kernel
      exact absurd l (by rw [e]; decide)
    · clear l
      revert h
      fin_cases j <;> exact fun h => by cases h

theorem witness_QueueOrderKept : [{ request20 with priority := 7 }, request20].Pairwise (fun x y => y.priority ≤ x.priority) := by
  decide

/-- A queue of which one request is due, on the row and on the beat, and of which none is; and one that is left and waits
for a group that no slot is left to hand over. -/
theorem witness_DeadlinesExpire :
    let late := { request20 with scene := 47, deadline := 2 }
    let due := { request20 with deadline := 1 }
    let s := withQueue [due, late] base
    let sc := { scene 2 group25 [] with mayPreempt := false }
    let u := (withQueue [late] base).onMu fun x => { x with tables := { x.tables with scn := x.tables.scn.set 47 (some sc) } }
    let u := u.onArb fun x => { x with owners := x.owners.set 25 (some 0) }
    (s.arb.queue.filter (fun r => decide (r.deadline ≤ 1)) = [due] ∧
      (s.arb.queue.map fun r => { r with deadline := r.deadline - 1 }).filter (fun r => decide (r.deadline ≤ 0)) =
        [{ due with deadline := 0 }]) ∧
    (withQueue [late] base).arb.queue.filter (fun r => decide (r.deadline ≤ 1)) = [] ∧
    (u.eligible 47 = true ∧ u.scene 47 = some sc ∧ sc.claims.mask.getLsbD 25 = true ∧ u.arb.owners[25] = some 0 ∧
      sc.mayPreempt = false) := by
  refine ⟨⟨rfl, rfl⟩, rfl, by decide +kernel, rfl, by decide +kernel, rfl, rfl⟩

theorem witness_StartSceneStarts :
    let sc := scene 2 group25 []
    let s := withScene sc base
    s.hears (cmd [20, 255]) ∧ (cmd [20, 255]).fields = [BitVec.ofNat 8 (20 : SceneId).val, 255] ∧
    s.scene 20 = some sc ∧ s.arb.showStopped = false ∧ s.arb.queue = [] ∧ s.isPlaying 20 = false ∧
    s.eligible 20 = true ∧ s.motionBlocked 20 = false ∧ (∀ x : ResourceId, s.arb.owners[x] = none) ∧ s.play 0 = none :=
  ⟨hears_of rfl rfl (by decide), rfl, rfl, rfl, rfl, by decide +kernel, by decide +kernel, by decide +kernel,
    by decide +kernel, by decide +kernel⟩

/-- Scene 20 with priority 7 by its override preempts scene 21, of priority 6, in slot 0, the lowest slot. -/
theorem witness_StartSceneStarts_preempting :
    let sc := scene 2 { groups := single 25, axes := single 31 } []
    let low := { scene 1 { groups := single 25 ||| single 26, axes := single 31 } [] with releaseFade := 1 }
    let p : PlayRec := { record20 with scene := 21, priority := 6, claims := low.claims }
    let s := (withScene sc base).onMu fun x => { x with tables := { x.tables with scn := x.tables.scn.set 21 (some low) } }
    let s := s.onSeq fun x => { x with slots := x.slots.set 0 (.playing p) }
    let s := s.onArb fun x => { x with owners := ((x.owners.set 25 (some 0)).set 26 (some 0)).set 95 (some 0) }
    let s := s.onLco fun x => { x with channels := (modifyAt x.channels 400 fun _ => channel { owner := some 0, phase := .settled, fromLevel := 1, toLevel := 65534, len := 0, pos := 0 }).set 416 (channel { owner := some 0, phase := .settled, fromLevel := 1, toLevel := 65534, len := 0, pos := 0 }) }
    (s.hears (cmd [20, 7]) ∧ (cmd [20, 7]).fields = [BitVec.ofNat 8 (20 : SceneId).val, BitVec.ofNat 8 7]) ∧
    (s.scene 20 = some sc ∧ s.isPlaying 20 = false ∧ s.eligible 20 = true ∧ s.motionBlocked 20 = false) ∧
    (sc.mayPreempt = true ∧ sc.claims.mask.getLsbD 25 = true ∧ s.arb.owners[25] = some 0) ∧
    (∀ (x : ResourceId) (j : SlotId), s.arb.owners[x] = some j → j = 0) ∧
    (s.play 0 = some p ∧ s.scene p.scene = some low ∧ p.priority < 7 ∧ low.yieldable = true) ∧
    (sc.segments[0]?.map (·.look) = some none ∧ channelGroup 400 = 25 ∧ channelGroup 416 = 26 ∧
      sc.claims.axes.getLsbD 31 = true ∧ 0 < low.releaseFade) :=
  ⟨⟨hears_of rfl rfl (by decide), rfl⟩, ⟨rfl, by decide +kernel, by decide +kernel, by decide +kernel⟩,
    ⟨rfl, by decide +kernel, by decide +kernel⟩, by decide +kernel, ⟨by decide +kernel, by decide +kernel, by decide, rfl⟩,
    by decide +kernel⟩

/-- Slot 3 plays scene 20, of zone 1 and with abandon-on-clear, with a LIVE cue, a layer and an axis, when zone 1 becomes
CLEAR; and scene 21 with priority 7, which claims its group and not its axis, preempts it. -/
theorem witness_CuesCancelled :
    let cl : Claims := { groups := single 25, axes := single 31 }
    let sc := { scene 2 cl [] with abandonOnClear := true }
    let p := { record20 with claims := cl }
    let c : Cue := { number := 5, scene := 20, zone := 1, stream := 7, clip := 1, outputs := 255, gain := 4096, wait := 1, remaining := 0, state := .live }
    let s := ((withPlay p (withScene sc (withReports (List.replicate 23 (.reply 1 .done 0 [])) base))).setCue 3 (some c)).onIou fun x =>
      { x with zones := x.zones.set 1 { kind := .linger, count := 1 } }
    let s := s.onLco fun x => { x with channels := modifyAt x.channels 400 fun _ => channel { owner := some 3, phase := .settled } }
    let s := s.onArb fun x => { x with owners := (x.owners.set 25 (some 3)).set 95 (some 3) }
    let new := scene 2 group25 []
    let t := s.onMu fun x => { x with tables := { x.tables with scn := x.tables.scn.set 21 (some new) } }
    (s.play 3 = some p ∧ s.scene p.scene = some sc ∧ sc.abandonOnClear = true ∧ sc.home = 1 ∧ s.arb.queue = []) ∧
    (s.nmx.cues[3] = some c ∧ c.state = .live ∧ s.sli.ownQueue.length ≤ 23 ∧ (∀ j : SlotId, j ≠ 3 → s.nmx.cues[j] = none)) ∧
    (p.claims.axes.getLsbD 31 = true ∧ p.claims.groups.getLsbD (channelGroup 400) = true ∧ (s.lco.channels[400]).layer.owner = some 3) ∧
    (after (exec (.lingerExpiry 1) s) fun t => t.nmx.ramps[7]) = some (some { outputs := 255, gain := 4096 }) ∧
    (t.hears (cmd [21, 7]) ∧ t.scene 21 = some new ∧ t.eligible 21 = true ∧ new.mayPreempt = true ∧ sc.yieldable = true ∧ p.priority < 7) ∧
    (new.claims.mask.getLsbD 25 = true ∧ t.arb.owners[25] = some 3 ∧ new.claims.axes.getLsbD 31 = false ∧
      new.segments[0]?.bind (·.keys) = none) := by
  refine ⟨⟨rfl, rfl, rfl, rfl, rfl⟩, ⟨rfl, rfl, by decide, by decide +kernel⟩, ⟨by decide +kernel, by decide +kernel, by decide +kernel⟩,
    by decide +kernel, ⟨hears_of rfl rfl (by decide), rfl, by decide +kernel, rfl, rfl, by decide⟩, by decide +kernel⟩

/-- Scene 20 wants what scene 21 of its own priority holds in slot 0: with a maximum wait it waits, without it does not. -/
theorem witness_StartSceneStarts_waiting :
    let sc (maxWait : Nat) : SceneRec := { scene 2 group25 [] with maxWait }
    let p : PlayRec := { record20 with scene := 21 }
    let s (maxWait : Nat) : State := ((withScene (sc maxWait) base).onSeq fun x => { x with slots := x.slots.set 0 (.playing p) }).onArb fun x =>
      { x with owners := x.owners.set 25 (some 0) }
    let u (maxWait : Nat) : State := ((((s maxWait).record 9).onArb fun x => { x with queue := insertRequest { request20 with deadline := maxWait, tag := some 0x1234 } x.queue }).askStatus).walk
    (∀ w : Nat, (s w).hears (cmd [20, 255]) ∧ (s w).scene 20 = some (sc w) ∧ (s w).arb.queue = [] ∧ waits (s w) (sc w) 2 0) ∧
    ((s 1).isBusy 20 = false ∧ (s 1).eligible 20 = true ∧ (s 1).motionBlocked 20 = false ∧ (u 1).playingSlot 20 = none ∧
      (u 1).isQueued 20 = true) ∧
    ((s 0).isBusy 20 = false ∧ (s 0).eligible 20 = true ∧ (s 0).motionBlocked 20 = false ∧ (u 0).playingSlot 20 = none ∧
      (u 0).isQueued 20 = true) := by
  refine ⟨fun w => ⟨hears_of rfl rfl (by decide), rfl, rfl, .inr (.inl ⟨25, show group25.mask.getLsbD 25 = true by decide +kernel, fun h => ?_⟩)⟩,
    by decide +kernel, by decide +kernel⟩
  obtain ⟨-, p, d, hp, -, -, lt⟩ := h 0 (by simp [State.onArb])
  cases hp
  exact absurd lt (by decide)

/-- One state for each of the five refusal codes. -/
theorem witness_StartSceneRefused :
    let sc := scene 2 group25 []
    let s := withScene sc base
    let bad := withScene (scene 2 {} [{ kind := .flagSet 0, orComb := false }]) base
    let motion := withScene { scene 2 { axes := single 31 } [] with requireMotion := true } base
    let full := withQueue (List.replicate 16 { request20 with scene := 1 }) s
    (s.hears (cmd [20, 255]) ∧ s.hears (cmd [20, 7]) ∧ (7 : Byte).toNat ≤ 7) ∧ (stopped s).arb.showStopped = true ∧
    (withQueue [request20] s).isBusy 20 = true ∧
    (bad.isBusy 20 = false ∧ bad.eligible 20 = false) ∧
    (motion.isBusy 20 = false ∧ motion.eligible 20 = true ∧ motion.motionBlocked 20 = true) ∧
    (full.isBusy 20 = false ∧ full.eligible 20 = true ∧ full.motionBlocked 20 = false ∧ 16 ≤ full.arb.queue.length) :=
  ⟨⟨hears_of rfl rfl (by decide), hears_of rfl rfl (by decide), by decide⟩, rfl, by decide +kernel, by decide +kernel,
    by decide +kernel, by decide +kernel⟩

theorem witness_StopScene :
    let s := withPlay record20 (withScene (scene 2 {} []) base)
    s.hears (cmd [0, 20]) ∧ s.playingSlot 20 = some 3 ∧ s.arb.queue = [] ∧
    ((withQueue [request20] base).playingSlot 20 = none ∧ (withQueue [request20] base).arb.queue = [request20]) ∧
    (base.playingSlot 47 = none ∧ base.isQueued 47 = false) ∧
    s.hears (cmd [1, 3]) ∧ s.play 3 = some record20 ∧ s.play 7 = none :=
  ⟨hears_of rfl rfl (by decide), by decide +kernel, rfl, by decide +kernel, by decide +kernel,
    hears_of rfl rfl (by decide), by decide +kernel, by decide +kernel⟩

/-- The scene stands in the queue among others, and its log entry pushes the oldest of 16 out. -/
theorem witness_StopScene_queued :
    let r (i : SceneId) : Request := { request20 with scene := i }
    let s := (withQueue [r 47, r 20, r 0] base).onArb fun x =>
      { x with log := List.replicate 16 { number := 0, scene := 1, source := .server, priority := 0, kind := .started 2, tag := none } }
    s.hears (cmd [0, 20]) ∧ s.playingSlot 20 = none ∧ s.isQueued 20 = true ∧
    (s.arb.queue.filter fun q => decide (q.scene = 20)) = [r 20] ∧
    (s.arb.queue.filter fun q => !decide (q.scene = 20)) = [r 47, r 0] ∧
    ((departuresLogged .stopped [r 20] s.arb).length = 16 ∧
      (departuresLogged .stopped [r 20] s.arb).getLast?.map (·.kind) = some (.departed .stopped)) :=
  ⟨hears_of rfl rfl (by decide), by decide +kernel, by decide +kernel, by decide +kernel, by decide +kernel,
    by decide +kernel, by decide +kernel⟩

/-- Slot 3 plays scene 20 with a LIVE cue, a layer and an axis of its own, release fades 0 and 65535, with the own-report
queue one short of full and full; and cues that a cancellation reports and that it does not. -/
theorem witness_SlotEnded :
    let cl : Claims := { groups := single 47, axes := single 31 }
    let sc (releaseFade : Nat) : SceneRec := { scene 2 cl [] with releaseFade }
    let p := { record20 with claims := cl }
    let c (st : CueState) : Cue := { number := 5, scene := 20, zone := 1, stream := 7, clip := 1, outputs := 255, gain := 4096, wait := 1, remaining := 0, state := st }
    let s (fade n : Nat) : State := ((withPlay p (withScene (sc fade) (withReports (List.replicate n (.reply 1 .done 0 [])) base))).setCue 3
      (some (c .live))).onLco fun x => { x with channels := modifyAt x.channels 767 fun _ => channel { owner := some 3, phase := .settled } }
    ((s 0 31).playingSlot 20 = some 3 ∧ (s 0 31).play 3 = some p ∧ (s 0 31).arb.queue = []) ∧
    ((s 0 31).scene 20 = some (sc 0) ∧ (sc 0).releaseFade = 0 ∧ (s 65535 31).scene 20 = some (sc 65535) ∧ (sc 65535).releaseFade ≠ 0) ∧
    (cl.groups.getLsbD (channelGroup 767) = true ∧ ((s 0 31).lco.channels[767]).layer.owner = some 3 ∧ cl.axes.getLsbD 31 = true) ∧
    ((s 0 31).nmx.cues[3] = some (c .live) ∧ (c .live).state = .live ∧ (s 0 31).sli.ownQueue.length < 32 ∧
      32 ≤ (s 0 32).sli.ownQueue.length) ∧
    ((c .requested).state ≠ .live ∧ (c .done).state = .done ∧ base.nmx.cues[3] = none) ∧
    ((s 0 31).hears (cmd [1, 3]) ∧ (cmd [1, 3]).fields = [1, BitVec.ofNat 8 (3 : SlotId).val]) := by
  refine ⟨⟨by decide +kernel, rfl, rfl⟩, ⟨rfl, rfl, rfl, by decide⟩, ⟨by decide +kernel, by decide +kernel, by decide +kernel⟩,
    ⟨by decide +kernel, rfl, by decide +kernel, by decide +kernel⟩, ⟨by decide, rfl, rfl⟩, hears_of rfl rfl (by decide), rfl⟩

theorem witness_ShowCommands :
    base.hears (cmd []) ∧ base.arb.showStopped = false ∧
    ((stopped base).hears (cmd []) ∧ (stopped base).arb.showStopped = true ∧ (stopped base).iou.stopAccepted = false) ∧
    (let s := (stopped base).onIou fun x => { x with stopAccepted := true }
     s.arb.showStopped = true ∧ s.iou.stopAccepted = true) :=
  ⟨hears_of rfl rfl (by decide), rfl, ⟨hears_of rfl rfl (by decide), rfl, rfl⟩, rfl, rfl⟩

theorem witness_PlayEnds :
    let p : PlayRec := { record20 with position := 1, segment := 1 }
    let s (sc : SceneRec) (p : PlayRec) : State := withPlay p (withScene sc base)
    let sc := scene 2 {} []
    ((s sc p).play 3 = some p ∧ (s sc p).scene p.scene = some sc ∧ p.position + 1 = sc.length ∧ p.plays ≤ 1 ∧
      sc.repeats ≠ 0 ∧ sc.next = none ∧ (s sc p).arb.queue = []) ∧
    ((s sc { p with plays := 2 }).play 3 = some { p with plays := 2 }) ∧
    ((s { sc with repeats := 0 } { p with plays := 0 }).scene 20 = some { sc with repeats := 0 }) := by
  refine ⟨⟨rfl, rfl, rfl, by decide, by decide, rfl, rfl⟩, rfl, rfl⟩

/-- Slot 3 ends scene 20, whose next scene is scene 20 itself, with its claims; and a next scene that another slot plays. -/
theorem witness_PlayEnds_next :
    let p : PlayRec := { record20 with position := 1, segment := 1, claims := group25 }
    let sc := { scene 2 group25 [] with next := some 20 }
    let s := (withPlay p (withScene sc base)).onArb fun x => { x with owners := x.owners.set 25 (some 3) }
    let u := (s.slotAdvance 3).releaseClaims 3 p
    (s.play 3 = some p ∧ s.scene 20 = some sc ∧ p.position + 1 = sc.length ∧ p.plays ≤ 1 ∧ sc.repeats ≠ 0) ∧
    (s.arb.queue = [] ∧ s.arb.showStopped = false ∧ admits s.arb.mode p.source = true) ∧
    (u.isPlaying 20 = false ∧ u.eligible 20 = true ∧ u.motionBlocked 20 = false) ∧
    ((∀ x : ResourceId, u.arb.owners[x] = none) ∧ u.play 0 = none) ∧
    (let other := { record20 with scene := 47 }
     (s.onSeq fun x => { x with slots := x.slots.set 7 (.playing other) }).play 7 = some other ∧ (7 : SlotId) ≠ 3) := by
  refine ⟨⟨rfl, rfl, rfl, by decide, by decide⟩, ⟨rfl, rfl, rfl⟩,
    ⟨by decide +kernel, by decide +kernel, by decide +kernel⟩, ⟨by decide +kernel, by decide +kernel⟩, rfl, by decide⟩

/-- Slot 3 ends scene 20, whose next scene 47 waits in the queue for a group that slot 0 owns. -/
theorem witness_PlayEnds_queued :
    let p : PlayRec := { record20 with position := 1, segment := 1 }
    let sn := { scene 2 group25 [] with mayPreempt := false }
    let r : Request := { request20 with scene := 47 }
    let s := withQueue [r] (withPlay p (withScene { scene 2 {} [] with next := some 47 } base))
    let s := s.onMu fun x => { x with tables := { x.tables with scn := x.tables.scn.set 47 (some sn) } }
    let s := s.onArb fun x => { x with owners := x.owners.set 25 (some 0) }
    let u := (s.slotAdvance 3).releaseClaims 3 p
    (s.play 3 = some p ∧ (s.scene 20).map (·.next) = some (some r.scene) ∧ p.plays ≤ 1 ∧ s.isQueued 47 = true) ∧
    (s.arb.queue = [r] ∧ s.scene r.scene = some sn ∧ sn.mayPreempt = false) ∧
    (u.eligible r.scene = true ∧ sn.claims.mask.getLsbD 25 = true ∧ u.arb.owners[25] ≠ none) := by
  refine ⟨⟨rfl, by decide +kernel, by decide, by decide +kernel⟩, ⟨rfl, rfl, rfl⟩, by decide +kernel, by decide +kernel,
    by decide +kernel⟩

theorem witness_SegmentBegins :
    let sc := { scene 2 {} [] with length := 3 }
    let s := withPlay record20 (withScene sc base)
    s.play 3 = some record20 ∧ s.scene 20 = some sc ∧ sc.segments[record20.segment + 1]? = sc.segments[1]? ∧
    sc.segments[1]? ≠ none ∧ (∀ g, sc.segments[1]? = some g → g.start = record20.position + 1) ∧
    record20.position + 1 ≠ sc.length :=
  ⟨rfl, rfl, rfl, by decide, fun g h => by cases h; rfl, by decide⟩

/-- A beat on which slot 3's scene has a next scene that slot 7 plays, and slot 7's scene none. -/
theorem witness_SegmentBegins_beat :
    let other : PlayRec := { record20 with scene := 47 }
    let s := withPlay record20 (withScene { scene 2 {} [] with next := some 47 } base)
    let s := s.onMu fun x => { x with tables := { x.tables with scn := x.tables.scn.set 47 (some (scene 1 {} [])) } }
    let s := s.onSeq fun x => { x with slots := x.slots.set 7 (.playing other) }
    s.arb.queue = [] ∧ (s.play 3 = some record20 ∧ (s.scene 20).map (·.next) = some (some 47)) ∧
    ((3 : SlotId) < 7 ∧ s.play 7 = some other ∧ other.scene = 47 ∧ (s.scene 47).map (·.next) = some none) ∧
    ∀ j : SlotId, j ≠ 3 → j ≠ 7 → s.play j = none := by
  refine ⟨rfl, ⟨rfl, rfl⟩, ⟨by decide, rfl, rfl, rfl⟩, by decide +kernel⟩

/-- A segment with every part, on a slot whose cue is LIVE, at an empty, a nearly full and a full own-report queue; and
the wraps and the end that a beat may bring. -/
theorem witness_SegmentBegins_parts :
    let x : CuePart := { stream := 7, clip := 65535, outputs := 1, gain := 4096, wait := 1 }
    let e : KeyEntry := { axis := 31, target := -32767, travel := 65535 }
    let g : Segment := { start := 1, look := some (63, 6000), effect := some { pattern := 15, depth := 256, targets := 0 }, cue := some x, keys := some [e], flag := none }
    let sc := { scene 2 group25 [] with length := 3, segments := (scene 2 {} []).segments.set 1 g }
    let r : FxRec := { period := 2, startLow := true, hush := false, evenCount := 0, even := [], oddCount := 0, odd := [] }
    let s := withPlay { record20 with claims := group25 } (withScene sc base)
    let t := s.onMu fun y => { y with tables := { y.tables with look := y.tables.look.set 63 (some { pairs := [(400, 65534)] }), fx := y.tables.fx.set 15 (some r) } }
    (sc.segments[1]? = some g ∧ s.mu.tables.look[63] = none ∧ s.mu.tables.fx[15] = none ∧ t.mu.tables.look[63] = some { pairs := [] ++ (400, 65534) :: [] } ∧
      (t.mu.tables.fx[15]).isSome = true ∧ group25.groups.getLsbD (channelGroup 400) = true) ∧
    (s.nmx.cues[3] = none ∧ s.sli.ownQueue.length < 31 ∧
      32 ≤ (withReports (List.replicate 32 (.reply 1 .done 0 [])) s).sli.ownQueue.length) ∧
    ((s.onAxis 31 fun y => { y with mode := .offlinePower }).mgt.axes[31]).mode.isOffline = true ∧
    ([e] = [] ++ e :: [] ∧ s.arb.queue = [] ∧ sc.next = none ∧ record20.position + 1 ≠ sc.length) := by
  refine ⟨⟨rfl, by decide +kernel, by decide +kernel, rfl, by decide +kernel, by decide +kernel⟩,
    ⟨by decide +kernel, by decide +kernel, by decide +kernel⟩, by decide +kernel, rfl, rfl, rfl, by decide⟩

/-- A segment with a cue on a slot whose cue is LIVE, and on one whose cue is REQUESTED. -/
theorem witness_SegmentBegins_ramp :
    let c (st : CueState) : Cue := { number := 5, scene := 20, zone := 1, stream := 7, clip := 1, outputs := 255, gain := 4096, wait := 1, remaining := 0, state := st }
    let x : CuePart := { stream := 7, clip := 65535, outputs := 1, gain := 4096, wait := 1 }
    let g : Segment := { start := 1, look := none, effect := none, cue := some x, keys := none, flag := none }
    let sc := { scene 2 {} [] with length := 3, segments := (scene 2 {} []).segments.set 1 g }
    let s (st : CueState) : State := (withPlay record20 (withScene sc base)).setCue 3 (some (c st))
    ((s .live).nmx.cues[3] = some (c .live) ∧ (c .live).state = .live ∧ sc.segments[1]? = some g ∧ g.cue = some x) ∧
    ((s .requested).nmx.cues[3] = some (c .requested) ∧ (c .requested).state ≠ .live) := by
  refine ⟨⟨rfl, rfl, rfl, rfl⟩, rfl, by decide⟩

/-- An absent channel, one with an indicator, one that is stale, and one that is none of them; an effect that is LOW on a
channel of its owner's, a hush pattern with a LIVE cue, and an EMPTY pattern; and a fade before its end and at it. -/
theorem witness_MasterStage_output :
    let e : Effect := { pattern := 15, targets := single 47, depth := 256, phase := 1, count := 65535, lastLow := none }
    let r (hush : Bool) : FxRec := { period := 2, startLow := false, hush, evenCount := 0, even := [], oddCount := 1, odd := [1, 9] }
    let s (hush : Bool) : State := (tables fun t => { t with fx := t.fx.set 15 (some (r hush)) }).onLco fun x => { x with
      effects := x.effects.set 7 (some e), cueLive := 0x80 }
    let stale : Channel := { channel {} with stale := true }
    let l (pos : Nat) : Layer := { owner := some 7, phase := .fading, fromLevel := 0, toLevel := 65534, len := 6000, pos }
    ({ channel {} with present := false }.present = false ∧ { channel {} with indicator := some 65534 }.indicator = some 65534 ∧
      stale.present = true ∧ stale.indicator = none ∧ (preEffect stale).2 = true ∧ (preEffect (channel (l 1))).2 = false) ∧
    ((s false).lco.effects[7] = some e ∧ (s false).mu.tables.fx[e.pattern] = some (r false) ∧ (s false).slotLow 7 = true ∧
      e.targets.getLsbD (channelGroup 767) = true ∧ (l 1).owner = some 7) ∧
    ((r true).hush = true ∧ (s true).lco.cueLive.getLsbD 7 = true ∧ (s true).slotLow 7 = false) ∧
    ((s true).lco.effects[0] = none ∧ base.mu.tables.fx[e.pattern] = none) ∧
    ((l 5999).pos < (l 5999).len ∧ ¬((l 6000).pos < (l 6000).len)) := by
  refine ⟨by decide, ⟨rfl, rfl, by decide +kernel, by decide +kernel, rfl⟩, ⟨rfl, by decide, by decide +kernel⟩, ⟨rfl, rfl⟩,
    by decide +kernel⟩

theorem witness_MasterStage :
    (256 ≤ 256) ∧ (let ch := channel {}
      ch.present = true ∧ ch.indicator = none ∧ (preEffect ch).2 = false) := by decide

theorem witness_PreEffectLevel :
    let l (ph : Phase) (pos : Nat) : Layer := { owner := none, phase := ph, fromLevel := 1, toLevel := 65534, len := 6000, pos }
    (l .idle 0).phase = .idle ∧ (l .settled 0).phase = .settled ∧ (l .fading 6000).phase = .fading ∧
    fadeFactor 6000 6000 ≤ 65536 ∧ fadeFactor 0 0 ≤ 65536 ∧ (l .releasing 1).phase = .releasing ∧
    (l .releasing 1).pos ≤ (l .releasing 1).len := by decide

/-- Effects before the end of their period and at it, and a slot without one. -/
theorem witness_FadesAndEffectsComplete_beat :
    let e (phase : Nat) : Effect := { pattern := 15, targets := 0, depth := 0, phase, count := 65535, lastLow := none }
    let r : FxRec := { period := 3, startLow := false, hush := false, evenCount := 0, even := [], oddCount := 0, odd := [] }
    let fx (phase : Nat) : State := (tables fun t => { t with fx := t.fx.set 15 (some r) }).onLco fun x =>
      { x with effects := x.effects.set 7 (some (e phase)) }
    (fx 1).lco.effects[7] = some (e 1) ∧ (fx 1).mu.tables.fx[(e 1).pattern] = some r ∧ (e 1).phase + 1 < r.period ∧
      r.period ≤ (e 2).phase + 1 ∧ base.lco.effects[7] = none := by
  refine ⟨rfl, rfl, by decide, by decide, rfl⟩

theorem witness_FadesAndEffectsComplete :
    let s (ph : Phase) : State := base.onLco fun x => { x with
      channels := modifyAt x.channels 410 fun ch => { ch with layer := { phase := ph, len := 1, pos := 0 } } }
    let e : Effect := { pattern := 15, targets := 0, depth := 0, phase := 0, count := 65535, lastLow := none }
    let r : FxRec := { period := 1, startLow := false, hush := false, evenCount := 0, even := [], oddCount := 0, odd := [] }
    let t := (tables fun t => { t with fx := t.fx.set 15 (some r) }).onLco fun x => { x with effects := x.effects.set 7 (some e) }
    (((s .fading).lco.channels[410]).layer.phase = .fading ∧ ((s .fading).lco.channels[410]).layer.pos + 1 =
      ((s .fading).lco.channels[410]).layer.len) ∧ ((s .releasing).lco.channels[410]).layer.phase = .releasing ∧
    (t.lco.effects[7] = some e ∧ t.mu.tables.fx[e.pattern] = some r ∧ e.phase + 1 = r.period) := by
  refine ⟨⟨rfl, rfl⟩, rfl, rfl, rfl, rfl⟩

/-- A PENDING cue whose wait runs out on the beat, one whose wait does not, and one that is LIVE. -/
theorem witness_CueWaitAndRearmExpire_beat :
    let c (remaining : Nat) (state : CueState) : Cue := { number := 5, scene := 20, zone := 1, stream := 1, clip := 310, outputs := 0, gain := 0, wait := 200, remaining, state }
    let t (x : Cue) : Option Cue := (((withPlay record20 (base.setCue 3 (some x))).blockBeat beat .nmx).nmx.cues[3])
    ((base.setCue 3 (some (c 1 .pending))).nmx.cues[3] = some (c 1 .pending) ∧ (withPlay record20 base).play 3 = some record20) ∧
    t (c 1 .pending) = some (c 0 .failed) ∧ t (c 6000 .pending) = some (c 5999 .pending) ∧ t (c 1 .live) = some (c 1 .live) := by
  decide +kernel

theorem witness_CueWaitAndRearmExpire :
    let c : Cue := { number := 5, scene := 20, zone := 1, stream := 1, clip := 310, outputs := 0, gain := 0, wait := 200, remaining := 1, state := .pending }
    let s := withPlay record20 (base.setCue 3 (some c))
    (s.nmx.cues[3] = some c ∧ c.state = .pending ∧ c.remaining = 1 ∧ s.play 3 = some record20) ∧
    ((base.onAxis 31 fun x => { x with rearm := 1, guarded := true }).mgt.axes[31]).rearm = 1 := by
  refine ⟨⟨rfl, rfl, rfl, rfl⟩, rfl⟩

theorem witness_StoppingDistance : 1 ≤ 1 ∧ 0 < 1 ∧ 4095 < 4096 ∧ stopDistance 1 1 ≤ 1 := by decide

/-- At the range's end at rest, and moving toward it from the last place that still stops. -/
theorem witness_LimiterKeepsRange :
    let e : EnvRec := { enable := true, min := -32767, max := 32767, vmax := 30, amax := 10 }
    (1 ≤ e.amax ∧ inRange e 32767 = true ∧ inRange e (-32767) = true) ∧
    (0 < (30 : Int) → (32737 : Int) + (stopDistance e.amax ((30 : Int).natAbs - e.amax) : Nat) ≤ e.max) ∧
    ((-30 : Int) < 0 → e.min ≤ (-32737 : Int) - (stopDistance e.amax ((-30 : Int).natAbs - e.amax) : Nat)) := by
  decide

/-- One axis for each mode of R112, in the order of its table, and its targets. -/
theorem witness_LimiterKeepsRange_modes :
    let e : EnvRec := { enable := true, min := -5, max := 5, park := true, parkPos := 5 }
    let s (f : Axis → Axis) : State := ((tables fun t => { t with env := t.env.set 31 e }).onAxis 31 fun x => f { x with present := true, setpoint := 6 }).onSli
      fun x => { x with sources := x.sources.set 43 { age := 0, fresh := true } }
    let own (s : State) : State := s.onArb fun x => { x with owners := x.owners.set 95 (some 3) }
    let f (elapsed : Nat) : Keyframe := { start := 5, target := -6, travel := 6000, elapsed }
    base.modeOf 31 = .disabledNoEnvelope ∧ (s fun x => { x with pos := 6 }).modeOf 31 = .disabledOutOfRange ∧
    ((s id).onMgt fun x => { x with powerFault := 8 }).modeOf 31 = .offlinePower ∧
    (s fun x => { x with present := false }).modeOf 31 = .offlineCensus ∧ (s fun x => { x with guarded := true }).modeOf 31 = .guarded ∧
    (s fun x => { x with resetHold := true }).modeOf 31 = .holding ∧ (s fun x => { x with setpoint := -32768 }).modeOf 31 = .holding ∧
    (s id).modeOf 31 = .tracking ∧ (own (s fun x => { x with setpoint := -32768 })).modeOf 31 = .tracking ∧
    ((s fun x => { x with mode := .guarded }).targetOf 31 = .pos 5 ∧ (s fun x => { x with mode := .holding }).targetOf 31 = .stop ∧
      (s fun x => { x with mode := .tracking }).targetOf 31 = .pos 5 ∧
      (own (s fun x => { x with mode := .tracking, keyframe := some (f 6000) })).targetOf 31 = .pos (-5) ∧
      (own (s fun x => { x with mode := .tracking, sceneTarget := some (-5) })).targetOf 31 = .pos (-5)) ∧
    ((f 6000).travel ≤ (f 6000).elapsed ∧ (f 5999).elapsed < (f 5999).travel ∧ keyTarget (f 5999) = -5 ∧ keyTarget (f 6000) = -6) := by
  decide +kernel

/-- A target ahead, one behind, the axis's own place at rest and while it moves; and a guard that parks and one that stops
an axis which moves faster than vguard. -/
theorem witness_LimiterKeepsRange_guard :
    let e (park : Bool) : EnvRec := { enable := true, min := -32767, max := 32767, vmax := 30, amax := 10, park, parkPos := 32767, vguard := 1 }
    let s (park : Bool) : State := (tables fun t => { t with env := t.env.set 31 (e park) }).onAxis 31 fun x =>
      { x with present := true, guarded := true, rearm := 2, step := 30, mode := .tracking }
    let y (park : Bool) : Axis := ((s park).blockBeat beat .mgt).mgt.axes[31]
    (((0 : Int) < 30 ∧ (0 : Int) < 1) ∧ ¬(((0 : Int) < 30 ∧ (0 : Int) < 0) ∨ ((30 : Int) < 0 ∧ (0 : Int) < 0)) ∧ ((-30 : Int) < 0 ∧ (-1 : Int) < 0)) ∧
    ((y true).mode = .guarded ∧ (y false).mode = .guarded ∧ (y true).step = 20 ∧ (y false).step = 20 ∧ (y true).rearm = 1) := by
  decide +kernel

/-- An axis that tracks a setpoint, and the same axis absent. -/
theorem witness_LimiterKeepsRange_beat :
    let e : EnvRec := { enable := true, min := -32767, max := 32767, vmax := 30, amax := 10 }
    let s := ((tables fun t => { t with env := t.env.set 31 e }).onAxis 31 fun x => { x with present := true, setpoint := 500, mode := .tracking }).onSli
      fun x => { x with sources := x.sources.set 43 { age := 0, fresh := true } }
    let t := base.onMu fun _ => s.mu
    (1 ≤ e.amax ∧ e.min ≤ e.max ∧ s.mu.tables.env[31] = e ∧ (s.mgt.axes[31]).reply = none) ∧
    (((s.blockBeat beat .mgt).mgt.axes[31]).mode.isSending = true ∧ inRange e (s.mgt.axes[31]).pos = true ∧ (s.mgt.axes[31]).step = 0) ∧
    ((t.blockBeat beat .mgt).mgt.axes[31]).mode.isSending = false := by
  refine ⟨⟨by decide, by decide, rfl, rfl⟩, ⟨by decide +kernel, by decide, rfl⟩, by decide +kernel⟩

theorem witness_BusyUnlessIdle :
    (let s := base.onMu fun x => { x with st := .resetPending }
     s.isOwn (cmd []).addr ∧ s.mu.st ≠ .idle) ∧
    (let c : Cmd := { cmd [] with addr := 15 }
     c.addr = 15 ∧ c.fields = []) ∧
    (timeFields [99, 12, 31, 6, 23, 59, 59]).inRange = true ∧ (modeByte .service) = 2 :=
  ⟨⟨⟨rfl, by decide⟩, by decide⟩, ⟨rfl, rfl⟩, by decide, rfl⟩

/-- Form, and one body for each check: signature, table, count, range, check value, record, and a load that passes. -/
theorem witness_LoadTableChecks :
    let body (sig table first count : Nat) (data : List Byte) (crc : Nat) : List Byte :=
      put8 sig ++ put8 table ++ put16 first ++ put16 count ++ put16 data.length ++ put16 crc ++ data ++
        List.replicate (paddedLength data.length - data.length) 0
    base.hears (cmd (body 0xC5 3 0 1 [2, 0, 254, 255] 0)) ∧
    loadForm (body 0xC4 3 0 1 [2, 0, 254, 255] 0) = true ∧ tableCapacity 12 = none ∧ tableCapacity 3 = some 768 ∧
    (767 + 1 ≤ 768 ∧ 768 < 768 + 1) ∧
    (crc16 [2, 0, 254, 255]).toNat ≠ 0 ∧
    (match checkLoad 3 base.mu.tables 767 1 [2, 0, 255, 255] with | .error i => i == 767 | .ok _ => false) = true ∧
    (match checkLoad 3 base.mu.tables 767 1 [2, 0, 254, 255] with | .error _ => false | .ok rs => rs == [.ceil 65534]) = true :=
  ⟨hears_of rfl rfl (by decide +kernel), by decide +kernel, rfl, rfl, by decide, by decide +kernel, by decide +kernel,
    by decide +kernel⟩

/-- A load with two writes to come, one with its last, and an idle MU. -/
theorem witness_LoadCompletes_beat :
    let l (writes : Nat) : Load := { tag := 7, table := 3, first := 767, recs := [.ceil 5], writes }
    let s (writes : Nat) : State := base.onMu fun x => { x with st := .loading (l writes) }
    ((s 2).mu.st = .loading (l 2) ∧ 1 < (l 2).writes) ∧ ((s 1).mu.st = .loading (l 1) ∧ (l 1).writes ≤ 1) ∧
    base.mu.st = .idle := by
  refine ⟨⟨rfl, by decide⟩, ⟨rfl, by decide⟩, rfl⟩

/-- A load of scene 20 while it plays; a load of looks beyond the pool; and a load that completes. -/
theorem witness_LoadCompletes :
    let l (table first : Nat) (recs : List TableRec) : Load := { tag := 7, table, first, recs, writes := 1 }
    let s := withPlay record20 (withScene (scene 2 {} []) base)
    s.firstInUse 20 [.scn none] = some 20 ∧
    (let recs := List.replicate 17 (TableRec.look (some { pairs := List.replicate 256 (0, 0) }))
     base.firstInUse 0 recs = none ∧ 4096 < pairsInUse (writeRecs base.mu.tables 0 recs)) ∧
    (let t := base.onMu fun x => { x with st := .loading (l 3 767 [.ceil 5]) }
     t.mu.st = .loading (l 3 767 [.ceil 5]) ∧ (l 3 767 [.ceil 5]).writes ≤ 1 ∧ t.firstInUse 767 [.ceil 5] = none) :=
  ⟨by decide +kernel, by decide +kernel, rfl, by decide, by decide +kernel⟩

/-- A load of each table whose blocks act on it, at the table's last index, at its completion. -/
theorem witness_LoadCompletes_blocks :
    let ready (table first : Nat) (r : TableRec) (s : State) : Prop :=
      let l : Load := { tag := 7, table, first, recs := [r], writes := 1 }
      let t := s.onMu fun x => { x with st := .loading l }
      t.mu.st = .loading l ∧ l.writes ≤ 1 ∧ t.firstInUse l.first l.recs = none ∧ l.writesIndex first
    let alarm : AlrmRec := {
      second := 0, minute := 0, hour := 0, weekday := 0, day := 1, month := 1, enables := 1, once := true, action := .clearFlags }
    (ready 2 0 (.route { base.mu.tables.route with depth := Vector.replicate 8 1000 }) base) ∧
    (ready 5 31 (.env { enable := true, guardZones := 15, rearm := 6000 }) base) ∧
    (ready 9 15 (.line (line .button))
      (tables fun t => { t with line := t.line.set 15 (line .presence) })) ∧
    (ready 10 31 (.trig (some (trigger .stop))) base) ∧ (ready 11 7 (.alrm (some alarm)) base) := by
  refine ⟨⟨rfl, by decide, by decide +kernel, by decide, by decide⟩, ⟨rfl, by decide, by decide +kernel, by decide, by decide⟩,
    ⟨rfl, by decide, by decide +kernel, by decide, by decide⟩, ⟨rfl, by decide, by decide +kernel, by decide, by decide⟩,
    ⟨rfl, by decide, by decide +kernel, by decide, by decide⟩⟩

/-- The table ids at the ends of their list; the counts at the bounds of the 768 records of CEIL; and the last two records
of LOOK, of which the second does not fit behind the first, and then just does. -/
theorem witness_ReadTableReturnsRecords :
    let c (table first count : Nat) := cmd (put8 table ++ put16 first ++ put16 count)
    let look (n : Nat) : TableRec := .look (some ⟨List.replicate n (1, 2)⟩)
    let size (n : Nat) : Nat := (recBytes (look n)).length
    (base.hears (c 0 0 1) ∧ base.hears (c 12 0 1) ∧ base.hears (c 255 65535 65535)) ∧
    (base.hears (c 3 767 0) ∧ base.hears (c 3 767 2) ∧ 768 < 767 + 2) ∧
    (base.hears (c 3 767 1) ∧ 767 + 1 ≤ 768 ∧ readRec base.mu.tables 3 767 = some (.ceil 65534) ∧
      (recBytes (.ceil 65534)).length ≤ 8183) ∧
    (let t (n : Nat) : Tables := { base.mu.tables with
      look := (base.mu.tables.look.set 62 (some ⟨List.replicate 1000 (1, 2)⟩)).set 63 (some ⟨List.replicate n (1, 2)⟩) }
     (∀ n, readRec (t n) 6 62 = some (look 1000) ∧ readRec (t n) 6 63 = some (look n)) ∧
     base.hears (c 6 62 2) ∧ size 1000 ≤ 8183 ∧ 8183 < size 1000 + size 1044 ∧ size 1000 + size 1043 ≤ 8183) :=
  ⟨⟨hears_of rfl rfl (by decide), hears_of rfl rfl (by decide), hears_of rfl rfl (by decide)⟩,
    ⟨hears_of rfl rfl (by decide), hears_of rfl rfl (by decide), by decide⟩,
    ⟨hears_of rfl rfl (by decide), by decide, by decide +kernel, by decide⟩,
    fun _ => ⟨rfl, rfl⟩, hears_of rfl rfl (by decide), by decide +kernel, by decide +kernel, by decide +kernel⟩

theorem witness_AnswersThatChangeNothing : base.hears (cmd []) ∧ (cmd []).fields = [] :=
  ⟨hears_of rfl rfl (by decide), rfl⟩

/-- Fields one byte short and one too long, a code beyond the last, values at the bounds of their ranges and one beyond,
and a broadcast command of each refusal. -/
theorem witness_AnswersThatChangeNothing_refused :
    (base.hears (cmd [1]) ∧ ¬commandForm 11 [1] ∧ ¬commandForm 11 [1, 2, 3] ∧ commandForm 11 [47, 7] ∧
      ¬commandForm 21 [] ∧ ¬commandForm 0 [] ∧ ¬commandForm 1 [3, 0, 0, 1, 0, 0, 1, 0, 0, 0] ∧ commandForm 20 []) ∧
    (commandInRange 11 [47, 7] ∧ commandInRange 11 [47, 255] ∧ ¬commandInRange 11 [48, 7] ∧ ¬commandInRange 11 [47, 8]) ∧
    (commandInRange 8 [100] ∧ commandInRange 8 [0x9C] ∧ ¬commandInRange 8 [101] ∧ ¬commandInRange 8 [0x9B]) ∧
    (commandInRange 6 [0, 2, 29, 6, 23, 59, 59] ∧ ¬commandInRange 6 [1, 2, 29, 6, 23, 59, 59]) ∧
    (commandInRange 12 [1, 7] ∧ ¬commandInRange 12 [1, 8] ∧ ¬commandInRange 12 [2, 0]) ∧
    (commandInRange 19 [127, 15] ∧ ¬commandInRange 19 [128, 0] ∧ ¬commandInRange 18 [16]) ∧
    (let c : Cmd := { cmd [3] with addr := 15 }
     c.addr = 15 ∧ (10 : Byte).toNat = 10 ∧ commandForm 10 c.fields ∧ ¬commandInRange 10 c.fields ∧ ¬commandForm 13 c.fields) := by
  refine ⟨⟨hears_of rfl rfl (by decide), ?_⟩, ?_⟩ <;> simp [commandForm, commandInRange, u8, u16, i8, byteAt, cmd]

theorem witness_SetTime :
    base.hears (cmd [0, 2, 29, 6, 23, 59, 59]) ∧ (cmd [0, 2, 29, 6, 23, 59, 59]).fields.length = 7 ∧
    (timeFields [0, 2, 29, 6, 23, 59, 59]).inRange = true ∧ (timeFields [1, 2, 29, 6, 23, 59, 59]).inRange = false :=
  ⟨hears_of rfl rfl (by decide), rfl, by decide, by decide⟩

/-- Trims of −100 and 100; each change of the beat source. -/
theorem witness_TrimAndBeatSource :
    base.hears (cmd [0x9C]) ∧ ((0x9C : Byte).toInt = -100 ∧ (100 : Byte).toInt = 100) ∧ base.sck.source = .internal ∧
    (let s := clock fun x => { x with source := .following, interval := 99999 }
     s.sck.source ≠ .internal ∧ (s.sck.interval : Int) < 100000 - (s.sck.acc + s.sck.trim).tdiv 10) ∧
    (let s := clock fun x => { x with source := .holdover, interval := 100000 }
     s.sck.source ≠ .internal ∧ orderOk beat.order = true ∧
      100000 - (s.sck.acc + s.sck.trim).tdiv 10 ≤ (s.sck.interval : Int)) :=
  ⟨hears_of rfl rfl (by decide), by decide, rfl, ⟨by decide, by decide⟩, by decide, by decide, by decide⟩

theorem witness_SetHouseMode :
    base.hears (cmd [0]) ∧ (cmd [0]).fields = [BitVec.ofNat 8 (modeByte .opened)] ∧ base.sck.mode ≠ .opened ∧
    base.sck.mode = .closed ∧ base.arb.queue = [] ∧
    (tables fun t => { t with unit := { openClears := true } }).mu.tables.unit.openClears = true ∧
    base.mu.tables.unit.openClears = false ∧ HouseMode.service ≠ .opened :=
  ⟨hears_of rfl rfl (by decide), rfl, by decide, rfl, rfl, rfl, rfl, by decide⟩

theorem witness_FlagCommands : base.hears (cmd [1, 0, 0, 128]) ∧ (cmd [1, 0, 0, 128]).fields.length = 4 :=
  ⟨hears_of rfl rfl (by decide), rfl⟩

theorem witness_FireTrigger :
    let s (b : Behaviour) : State := withTrigger b (withScene (scene 2 {} []) base)
    let e := trigger .ignore
    base.hears (cmd [7]) ∧ (cmd [7]).fields = [BitVec.ofNat 8 (7 : LineId).val] ∧
    (base.onIou fun x => { x with showStopped := true }).iou.showStopped = true ∧
    (base.iou.showStopped = false ∧ base.mu.tables.trig[virtualEntry 7] = none) ∧
    ((s .ignore).iou.mode ≠ .service ∧ (s .ignore).mu.tables.trig[virtualEntry 7] = some e) ∧
    (withPlay record20 (s .restart)).playingSlot 20 = some 3 ∧
    (withQueue [request20] (s .stop)).isQueued 20 = true ∧
    ((s .ignore).playingSlot 20 = none ∧ (s .ignore).isQueued 20 = false ∧
      (match ((s .ignore).request 20 (.virtual 7) none none).1 with
        | .started k => k == 0
        | .queued => false
        | .timedOut => false
        | .refused _ => false) = true) :=
  ⟨hears_of rfl rfl (by decide), rfl, rfl, ⟨rfl, by decide +kernel⟩, ⟨by decide, rfl⟩, by decide +kernel,
    by decide +kernel, by decide +kernel, by decide +kernel, by decide +kernel⟩

/-- A restart of slot 3 at the last beat of its last play, with a segment 0 of every part, over a cue that is DONE. -/
theorem witness_FireTrigger_restart :
    let x : CuePart := { stream := 7, clip := 65535, outputs := 1, gain := 4096, wait := 1 }
    let e : KeyEntry := { axis := 31, target := -32767, travel := 65535 }
    let g : Segment := { start := 0, look := some (63, 6000), effect := some { pattern := 15, depth := 256, targets := 0 }, cue := some x, keys := some [e], flag := some (true, 31) }
    let sc := { scene 2 group25 [] with repeats := 255, segments := (scene 2 {} []).segments.set 0 g }
    let p := { record20 with position := 1, segment := 1, claims := group25, marks := 15 }
    let c : Cue := { number := 65535, scene := 20, zone := 1, stream := 7, clip := 1, outputs := 1, gain := 1, wait := 1, remaining := 0, state := .done }
    let s := (withTrigger .restart (withPlay p (withScene sc base))).setCue 3 (some c)
    s.hears (cmd [7]) ∧ s.iou.showStopped = false ∧ s.iou.mode ≠ .service ∧
    s.mu.tables.trig[virtualEntry 7] = some (trigger .restart) ∧ (trigger .restart).behaviour = .restart ∧
    s.playingSlot 20 = some 3 ∧ s.scene 20 = some sc ∧ sc.segments[0]? = some g ∧ s.nmx.cues[3] = some c ∧
    s.sli.ownQueue.length < 32 :=
  ⟨hears_of rfl rfl (by decide), rfl, by decide, rfl, rfl, by decide +kernel, rfl, rfl, rfl, by decide⟩

/-- Scene 20 is INELIGIBLE; its alternate is scene 21, which is startable, and scene 21 while it plays. -/
theorem witness_FireTrigger_alternate :
    let sc := scene 2 {} [{ kind := .flagSet 0, orComb := false }]
    let e := { trigger .ignore with alternate := some 21 }
    let s := (withScene sc base).onMu fun x => { x with tables := { x.tables with
      scn := x.tables.scn.set 21 (some (scene 1 {} [])), trig := x.tables.trig.set 23 (some e) } }
    let r := s.request 20 (.virtual 7) none none
    let p := s.onSeq fun x => { x with slots := x.slots.set 5 (.playing { record20 with scene := 21 }) }
    (s.hears (cmd [7]) ∧ s.mu.tables.trig[virtualEntry 7] = some e ∧ s.playingSlot 20 = none ∧ s.isQueued 20 = false) ∧
    (r.1 = .refused .ineligible ∧ e.alternate = some 21 ∧ r.2.isBusy 21 = false) ∧
    ((p.request 20 (.virtual 7) none none).1 = .refused .ineligible ∧ (p.request 20 (.virtual 7) none none).2.isBusy 21 = true) ∧
    (trigger .ignore).alternate = none :=
  ⟨⟨hears_of rfl rfl (by decide), rfl, by decide +kernel, by decide +kernel⟩,
    ⟨by decide +kernel, rfl, by decide +kernel⟩, ⟨by decide +kernel, by decide +kernel⟩, rfl⟩

theorem witness_ClearNotices :
    base.hears (cmd [127, 15]) ∧ (cmd [127, 15]).fields = [127, 15] ∧ (127 : Byte).toNat < 128 ∧ (15 : Byte).toNat < 16 :=
  ⟨hears_of rfl rfl (by decide), rfl, by decide, by decide⟩

theorem witness_ResetCommand :
    base.hears (cmd []) ∧ (withReports (List.replicate 31 (.reply 1 .done 0 [])) base).sli.ownQueue.length < 32 ∧
    32 ≤ (withReports (List.replicate 32 (.reply 1 .done 0 [])) base).sli.ownQueue.length :=
  ⟨hears_of rfl rfl (by decide), by decide, by decide⟩

end Sys2Proof.Tests
end

section
/-! SUPPORT. Doing something once for each index, and taking requests out of a queue one by one: what the whole does, from
what one turn does. -/

namespace Sys2Proof.Machine

/-! ### Doing something once for each index -/

/-- A part of an index that its own turn alone writes, from what no other turn changes, is as that turn leaves it. -/
theorem foldl_at {α β γ : Type} [DecidableEq γ] {f : γ → α → α} {i : γ} {view g : α → β}
    (other : ∀ j a, j ≠ i → view (f j a) = view a) (same : ∀ a, view (f i a) = g a)
    (stable : ∀ j a, j ≠ i → g (f j a) = g a) (l : List γ) (nodup : l.Nodup) (a : α) :
    view (l.foldl (fun a j => f j a) a) = if i ∈ l then g a else view a := by
  induction l generalizing a with
  | nil => simp
  | cons j js ih =>
    obtain ⟨notIn, rest⟩ := List.nodup_cons.mp nodup
    rw [List.foldl_cons, ih rest]
    by_cases e : i = j
    · subst e
      simp [notIn, same]
    · simp [e, other j a (Ne.symm e), stable j a (Ne.symm e)]

/-- A part of an index that its own turn alone writes, from what no other turn changes, is as that turn leaves it. -/
theorem forEach_at {α β : Type} {n : Nat} {f : Fin n → α → α} {i : Fin n} {view g : α → β}
    (other : ∀ j a, j ≠ i → view (f j a) = view a) (same : ∀ a, view (f i a) = g a)
    (stable : ∀ j a, j ≠ i → g (f j a) = g a) (a : α) : view (forEach n f a) = g a := by
  rw [forEach, foldl_at other same stable _ (List.nodup_finRange n)]
  simp

/-- What each index's turn brings about and every other turn keeps holds of every index at the end. -/
theorem forEach_all {α : Type} {n : Nat} {f : Fin n → α → α} {P : Fin n → α → Prop} (own : ∀ i a, P i (f i a))
    (keep : ∀ i j a, P i a → P i (f j a)) (i : Fin n) (a : α) : P i (forEach n f a) := by
  suffices h : ∀ (l : List (Fin n)) (a : α), i ∈ l ∨ P i a → P i (l.foldl (fun a j => f j a) a) from
    h _ a (.inl (List.mem_finRange i))
  intro l
  induction l with
  | nil => intro a h; simpa using h
  | cons j js ih =>
    intro a h
    refine ih (f j a) ?_
    rcases h with m | p
    · rcases List.mem_cons.mp m with rfl | m
      · exact .inr (own i a)
      · exact .inl m
    · exact .inr (keep i j a p)

/-- Two ways of doing something for each index that agree on every state agree as a whole. -/
theorem forEach_congr {α : Type} {n : Nat} {f g : Fin n → α → α} (h : ∀ i a, f i a = g i a) (a : α) :
    forEach n f a = forEach n g a := by
  rw [show f = g from funext fun i => funext (h i)]

/-- What each turn leaves as it was while something holds that each turn keeps, all of them do. -/
theorem forEach_same_of {α β : Type} {n : Nat} {f : Fin n → α → α} {g : α → β} {P : α → Prop}
    (keep : ∀ i a, P a → P (f i a)) (h : ∀ i a, P a → g (f i a) = g a) (a : α) (ha : P a) :
    g (forEach n f a) = g a := by
  unfold forEach
  induction List.finRange n generalizing a with
  | nil => rfl
  | cons i is ih => exact (ih (f i a) (keep i a ha)).trans (h i a ha)

/-! ### Taking requests out of a queue -/

/-- Taking out, one by one, all that meet a test leaves the others in their order. -/
theorem foldl_erase_filter {α : Type} [DecidableEq α] (test : α → Bool) (l : List α) :
    (l.filter test).foldl List.erase l = l.filter (fun x => !test x) := by
  have keeps (y : α) : ∀ (fs xs : List α), y ∉ fs → fs.foldl List.erase (y :: xs) = y :: fs.foldl List.erase xs := by
    intro fs
    induction fs with
    | nil => intros; rfl
    | cons z zs ih =>
      intro xs h
      simp only [List.mem_cons, not_or] at h
      rw [List.foldl_cons, List.erase_cons_tail (by simpa using h.1), ih _ h.2, List.foldl_cons]
  induction l with
  | nil => rfl
  | cons x xs ih =>
    cases t : test x with
    | true => simpa [t] using ih
    | false => rw [List.filter_cons_of_neg (by simp [t]), keeps x _ _ (by simp [t]), ih]; simp [t]

end Sys2Proof.Machine
end

section
/-! SUPPORT. The slots beside their degraded marks: an operation that hands parts out or judges axes may add a mark to a
slot (R16) and leaves everything else of it as it was. -/

namespace Sys2Proof.Machine

/-- A slot with its degraded marks left aside. -/
def Slot.bare : Slot → Slot
  | .free l r => .free l r
  | .playing p => .playing { p with marks := 0 }

/-- The slots with their degraded marks left aside. -/
def Seq.bare (x : Seq) (k : SlotId) : Slot := (x.slots[k]).bare

/-- A slot that plays, as its play record and its bare form say it. -/
theorem Slot.bare_eq_playing {x : Slot} {p : PlayRec} :
    x.bare = .playing { p with marks := 0 } ↔ ∃ q, x = .playing q ∧ q = { p with marks := q.marks } := by
  cases x with
  | free l r => simp [Slot.bare]
  | playing q =>
    cases p; cases q
    simp [Slot.bare]

/-- A FREE slot is its own bare form. -/
theorem Slot.bare_eq_free {x : Slot} {l : Option SceneId} {r : EndReason} : x.bare = .free l r ↔ x = .free l r := by
  cases x <;> simp [Slot.bare]

variable {s t : State} {k j : SlotId} {p : PlayRec}

/-- A play record stands for a PLAYING slot. -/
theorem State.play_eq_some : s.play k = some p ↔ s.seq.slots[k] = .playing p := by
  unfold State.play
  split <;> simp_all

/-- No play record stands for a FREE slot. -/
theorem State.play_eq_none : s.play k = none ↔ ∃ l r, s.seq.slots[k] = .free l r := by
  unfold State.play
  split <;> simp_all

/-- The bare form of a PLAYING slot. -/
theorem State.bare_of_play (h : s.play k = some p) : s.seq.bare k = .playing { p with marks := 0 } := by
  rw [Seq.bare, State.play_eq_some.mp h, Slot.bare]

/-- The play record behind a bare slot, but for its marks. -/
theorem State.play_of_bare (h : t.seq.bare k = .playing { p with marks := 0 }) :
    ∃ q, t.play k = some q ∧ q = { p with marks := q.marks } := by
  obtain ⟨q, hq, e⟩ := Slot.bare_eq_playing.mp h
  exact ⟨q, State.play_eq_some.mpr hq, e⟩

/-- A slot whose bare form is FREE. -/
theorem State.slot_of_bare {l : Option SceneId} {r : EndReason} (h : t.seq.bare k = .free l r) :
    t.seq.slots[k] = .free l r := Slot.bare_eq_free.mp h

/-- Slots that agree but for marks play the same but for marks. -/
theorem State.play_bare_congr (e : t.seq.bare k = s.seq.bare k) (h : s.play k = some p) :
    ∃ q, t.play k = some q ∧ q = { p with marks := q.marks } :=
  State.play_of_bare (e.trans (State.bare_of_play h))

/-- Slots that agree but for marks are FREE together. -/
theorem State.play_none_congr (e : t.seq.bare k = s.seq.bare k) (h : s.play k = none) : t.play k = none := by
  obtain ⟨l, r, hs⟩ := State.play_eq_none.mp h
  exact State.play_eq_none.mpr ⟨l, r, State.slot_of_bare (by rw [e, Seq.bare, hs, Slot.bare])⟩

/-- Slots that agree but for marks are PLAYING together. -/
theorem State.play_isSome_congr (e : t.seq.bare k = s.seq.bare k) : (t.play k).isSome = (s.play k).isSome := by
  cases h : s.play k with
  | none => simp [State.play_none_congr e h]
  | some p =>
    obtain ⟨q, hq, -⟩ := State.play_bare_congr e h
    simp [hq]

/-- Slots that agree but for marks play each scene in the same slot. -/
theorem State.playingSlot_congr (e : t.seq.bare = s.seq.bare) (i : SceneId) : t.playingSlot i = s.playingSlot i := by
  unfold State.playingSlot
  congr 1
  funext k
  have ek := congrFun e k
  cases h : s.play k with
  | none => simp [State.play_none_congr ek h]
  | some p =>
    obtain ⟨q, hq, eq⟩ := State.play_bare_congr ek h
    rw [hq, eq]

/-- Slots that agree but for marks play the same scenes. -/
theorem State.isPlaying_congr (e : t.seq.bare = s.seq.bare) (i : SceneId) : t.isPlaying i = s.isPlaying i := by
  rw [State.isPlaying, State.isPlaying, State.playingSlot_congr e]

/-! ### Writing slots -/

/-- The bare slots after one slot was written. -/
theorem Seq.bare_set (x : Seq) (k : SlotId) (v : Slot) (j : SlotId) :
    Seq.bare { x with slots := x.slots.set k v } j = if j = k then v.bare else x.bare j := by
  split
  · next e => subst e; simp [Seq.bare]
  · next e =>
    simp only [Seq.bare, Fin.getElem_fin]
    rw [Vector.getElem_set_ne _ _ (fun h => e (Fin.ext h.symm))]

/-- Changing a play record in its marks alone leaves the slots as they were but for marks. -/
theorem State.onPlay_bare {f : PlayRec → PlayRec} (h : ∀ p, { f p with marks := 0 } = { p with marks := (0 : BitVec 4) }) :
    (s.onPlay k f).seq.bare = s.seq.bare := by
  cases e : s.play k with
  | none => rw [State.onPlay_none e]
  | some p =>
    funext j
    rw [State.onPlay_some e, State.onSeq_seq, Seq.bare_set]
    split
    · next ej => subst ej; rw [State.bare_of_play e, Slot.bare, h]
    · rfl

/-- The bare slots after a play record was changed. -/
theorem State.onPlay_bare_at (h : s.play k = some p) (f : PlayRec → PlayRec) (j : SlotId) :
    (s.onPlay k f).seq.bare j = if j = k then .playing { f p with marks := 0 } else s.seq.bare j := by
  rw [State.onPlay_some h, State.onSeq_seq, Seq.bare_set]
  rfl

/-! ### Operations that leave the slots as they were but for marks -/

variable (s) {γ : Type} {n : Nat}

@[simp] theorem forEach_bare {f : Fin n → State → State} (h : ∀ i a, (f i a).seq.bare = a.seq.bare) (s : State) :
    (forEach n f s).seq.bare = s.seq.bare := forEach_same (g := fun s => s.seq.bare) h s
@[simp] theorem foldl_bare {f : State → γ → State} (h : ∀ a x, (f a x).seq.bare = a.seq.bare) (l : List γ) (s : State) :
    (l.foldl f s).seq.bare = s.seq.bare := foldl_same (g := fun s => s.seq.bare) h l s

@[simp] theorem State.mark_bare (k : SlotId) (m : Mark) : (s.mark k m).seq.bare = s.seq.bare :=
  State.onPlay_bare fun _ => rfl

@[simp] theorem State.setStoryFlags_bare (m : BitVec 32) : (s.setStoryFlags m).seq.bare = s.seq.bare := rfl

@[simp] theorem State.clearStoryFlags_bare (m : BitVec 32) : (s.clearStoryFlags m).seq.bare = s.seq.bare := rfl

@[simp] theorem State.cueBeat_bare (k : SlotId) :
    (s.cueBeat k).seq.bare = s.seq.bare := by
  unfold State.cueBeat
  (repeat' split) <;> simp

@[simp] theorem State.nmxBeat_bare :
    s.nmxBeat.seq.bare = s.seq.bare := by
  unfold State.nmxBeat
  simp

@[simp] theorem State.newCue_bare (k : SlotId) (scene : SceneId) (home : ZoneId) (p : CuePart) :
    (s.newCue k scene home p).seq.bare = s.seq.bare := by
  unfold State.newCue
  dsimp only
  (repeat' split) <;> simp

@[simp] theorem State.loseCue_bare (t : StreamId) (k : SlotId) :
    (s.loseCue t k).seq.bare = s.seq.bare := by
  unfold State.loseCue
  (repeat' split) <;> simp

@[simp] theorem State.streamStale_bare (t : StreamId) :
    (s.streamStale t).seq.bare = s.seq.bare := by
  unfold State.streamStale
  simp

@[simp] theorem State.judgeAxis_bare (a : AxisId) :
    (s.judgeAxis a).seq.bare = s.seq.bare := by
  unfold State.judgeAxis
  dsimp only
  (repeat' split) <;> simp

@[simp] theorem State.judgeAxes_bare :
    s.judgeAxes.seq.bare = s.seq.bare := by
  unfold State.judgeAxes
  simp

@[simp] theorem State.axisPresent_bare (a : AxisId) (p : Int) :
    (s.axisPresent a p).seq.bare = s.seq.bare := by
  unfold State.axisPresent
  simp

@[simp] theorem State.axisAbsent_bare (a : AxisId) :
    (s.axisAbsent a).seq.bare = s.seq.bare := by
  unfold State.axisAbsent
  simp

@[simp] theorem State.axisAnnounced_bare (a : AxisId) (p : Int) :
    (s.axisAnnounced a p).seq.bare = s.seq.bare := by
  unfold State.axisAnnounced
  (repeat' split) <;> simp

@[simp] theorem State.markOwner_bare (z : ZoneId) (a : AxisId) :
    (s.markOwner z a).seq.bare = s.seq.bare := by
  unfold State.markOwner
  (repeat' split) <;> simp

@[simp] theorem State.powerFaultStart_bare (z : ZoneId) :
    (s.powerFaultStart z).seq.bare = s.seq.bare := by
  unfold State.powerFaultStart
  simp

@[simp] theorem State.powerFaultEnd_bare (z : ZoneId) :
    (s.powerFaultEnd z).seq.bare = s.seq.bare := by
  unfold State.powerFaultEnd
  simp

@[simp] theorem State.takeSetpoint_bare (body : List Byte) (a : AxisId) :
    (s.takeSetpoint body a).seq.bare = s.seq.bare := by
  unfold State.takeSetpoint
  (repeat' split) <;> simp

@[simp] theorem State.motionArrival_bare (body : List Byte) :
    (s.motionArrival body).seq.bare = s.seq.bare := by
  unfold State.motionArrival
  simp

@[simp] theorem State.giveKey_bare (k : SlotId) (e : KeyEntry) :
    (s.giveKey k e).seq.bare = s.seq.bare := by
  unfold State.giveKey
  dsimp only
  (repeat' split) <;> simp

@[simp] theorem State.mgtOccupancy_bare (z : ZoneId) (o : OccKind) :
    (s.mgtOccupancy z o).seq.bare = s.seq.bare := by
  unfold State.mgtOccupancy
  simp

@[simp] theorem State.envLoaded_bare (a : AxisId) (old : EnvRec) :
    (s.envLoaded a old).seq.bare = s.seq.bare := by
  unfold State.envLoaded
  dsimp only
  (repeat' split) <;> simp

@[simp] theorem State.axisBeat_bare (a : AxisId) :
    (s.axisBeat a).seq.bare = s.seq.bare := by
  unfold State.axisBeat
  simp

@[simp] theorem State.mgtBeat_bare :
    s.mgtBeat.seq.bare = s.seq.bare := by
  unfold State.mgtBeat
  simp

@[simp] theorem State.handAxis_bare (z : ZoneId) (old new : Port) (an : Option Announce) (i : Fin 8) :
    (s.handAxis z old new an i).seq.bare = s.seq.bare := by
  unfold State.handAxis
  dsimp only
  (repeat' split) <;> simp

@[simp] theorem State.handPresence_bare (z : ZoneId) (old new : Port) (ann : Option Announce) :
    (s.handPresence z old new ann).seq.bare = s.seq.bare := by
  unfold State.handPresence
  simp

@[simp] theorem State.censusEvent_bare (z : ZoneId) (census : Vector (Option CensusRec) 12) (ann : Option Announce) (c : Bool) :
    (s.censusEvent z census ann c).seq.bare = s.seq.bare := by
  unfold State.censusEvent
  dsimp only
  (repeat' split) <;> simp

@[simp] theorem State.announce_bare (z : ZoneId) (q : PosId) (a : Announce) :
    (s.announce z q a).seq.bare = s.seq.bare := by
  unfold State.announce
  dsimp only
  (repeat' split) <;> simp

@[simp] theorem State.closeWindow_bare (z : ZoneId) :
    (s.closeWindow z).seq.bare = s.seq.bare := by
  unfold State.closeWindow
  dsimp only
  (repeat' split) <;> simp

@[simp] theorem State.powerFaultEvent_bare (z : ZoneId) :
    (s.powerFaultEvent z).seq.bare = s.seq.bare := by
  unfold State.powerFaultEvent
  dsimp only
  (repeat' split) <;> simp

@[simp] theorem State.powerOn_bare (z : ZoneId) :
    (s.powerOn z).seq.bare = s.seq.bare := by
  unfold State.powerOn
  simp

@[simp] theorem State.holdOffBeat_bare (z : ZoneId) :
    (s.holdOffBeat z).seq.bare = s.seq.bare := by
  unfold State.holdOffBeat
  (repeat' split) <;> simp

@[simp] theorem State.senseBeat_bare (z : ZoneId) (fault : Bool) :
    (s.senseBeat z fault).seq.bare = s.seq.bare := by
  unfold State.senseBeat
  (repeat' split) <;> simp

@[simp] theorem State.portBeat_bare (z : ZoneId) (fault : Bool) :
    (s.portBeat z fault).seq.bare = s.seq.bare := by
  unfold State.portBeat
  simp

@[simp] theorem State.lookPart_bare (k : SlotId) (g : BitVec 48) (l : Option (Fin 64 × Nat)) :
    (s.lookPart k g l).seq.bare = s.seq.bare := by
  unfold State.lookPart
  (repeat' split) <;> simp

@[simp] theorem State.cuePart_bare (k : SlotId) (i : SceneId) (z : ZoneId) (c : Option CuePart) :
    (s.cuePart k i z c).seq.bare = s.seq.bare := by
  unfold State.cuePart
  (repeat' split) <;> simp

@[simp] theorem State.keyPart_bare (k : SlotId) (ks : Option (List KeyEntry)) :
    (s.keyPart k ks).seq.bare = s.seq.bare := by
  unfold State.keyPart
  (repeat' split) <;> simp

@[simp] theorem State.flagPart_bare (f : Option (Bool × Fin 32)) :
    (s.flagPart f).seq.bare = s.seq.bare := by
  unfold State.flagPart
  (repeat' split) <;> simp

@[simp] theorem State.segmentParts_bare (k : SlotId) (p : PlayRec) (sc : SceneRec) (g : Segment) :
    (s.segmentParts k p sc g).seq.bare = s.seq.bare := by
  unfold State.segmentParts
  simp

@[simp] theorem State.releaseClaims_bare (k : SlotId) (p : PlayRec) :
    (s.releaseClaims k p).seq.bare = s.seq.bare := by
  unfold State.releaseClaims
  simp

@[simp] theorem State.handStale_bare (src : SourceId) :
    (s.handStale src).seq.bare = s.seq.bare := by
  unfold State.handStale
  (repeat' split) <;> simp

@[simp] theorem State.sourceBeat_bare (src : SourceId) :
    (s.sourceBeat src).seq.bare = s.seq.bare := by
  unfold State.sourceBeat
  dsimp only
  (repeat' split) <;> simp

@[simp] theorem State.sliBeat_bare :
    s.sliBeat.seq.bare = s.seq.bare := by
  unfold State.sliBeat
  simp

end Sys2Proof.Machine
end

section
/-! SUPPORT. What a segment's beginning, a slot's end, a departure and a start do to the slots, the request queue and the
claim table. -/

namespace Sys2Proof.Machine

variable {s : State} {k new j : SlotId} {p : PlayRec} {sc : SceneRec} {r : Request}

/-! ### The queue and the owners -/

@[simp] theorem State.enter_queue (r : Request) (o : OutcomeKind) :
    (s.enter r o).arb.queue = s.arb.queue ∧ (s.enter r o).arb.owners = s.arb.owners := by
  simp [State.enter]

@[simp] theorem State.enterPreempted_queue (k new : SlotId) (p : PlayRec) :
    (s.enterPreempted k new p).arb.queue = s.arb.queue ∧ (s.enterPreempted k new p).arb.owners = s.arb.owners := by
  simp [State.enterPreempted]

/-- A departure takes one request out of the queue and leaves the claim table. -/
@[simp] theorem State.depart_queue (r : Request) (d : Departure) :
    (s.depart r d).arb.queue = s.arb.queue.erase r ∧ (s.depart r d).arb.owners = s.arb.owners := by
  simp [State.depart]

/-- The departure of all requests of which a test holds leaves the others in their order. -/
@[simp] theorem State.departAll_queue (test : Request → Bool) (d : Departure) :
    (s.departAll test d).arb.queue = s.arb.queue.filter (fun r => !test r) ∧
    (s.departAll test d).arb.owners = s.arb.owners := by
  have fold : ∀ (l : List Request) (s : State),
      (l.foldl (fun s r => s.depart r d) s).arb.queue = l.foldl List.erase s.arb.queue ∧
      (l.foldl (fun s r => s.depart r d) s).arb.owners = s.arb.owners := by
    intro l
    induction l with
    | nil => intro s; exact ⟨rfl, rfl⟩
    | cons r rs ih => intro s; simpa using ih (s.depart r d)
  exact ⟨(fold _ s).1.trans (foldl_erase_filter test _), (fold _ s).2⟩

@[simp] theorem State.releaseClaims_queue (k : SlotId) (p : PlayRec) :
    (s.releaseClaims k p).arb.queue = s.arb.queue := by
  simp [State.releaseClaims]

/-- The owners after the release of an ended slot's claims. -/
theorem State.releaseClaims_owners (k : SlotId) (p : PlayRec) (i : ResourceId) :
    (s.releaseClaims k p).arb.owners[i] =
      if p.claims.mask.getLsbD i && s.arb.owners[i] == some k then none else s.arb.owners[i] := by
  simp only [State.releaseClaims, State.judgeAxes_frame, State.onArb_arb]
  exact Arb.release_owners ..

/-! ### The beginning of a segment -/

/-- A segment that begins for a slot that plays a scene which has it. -/
theorem State.beginSegment_eq {i : Nat} {g : Segment} (hp : s.play k = some p) (hs : s.scene p.scene = some sc)
    (hg : sc.segments[i]? = some g) :
    s.beginSegment k i = (s.onPlay k fun p => { p with segment := i }).segmentParts k p sc g := by
  simp [State.beginSegment, hp, hs, hg]

/-- The beginning of a segment: the segment index moves, or, where the slot's scene has no such segment, nothing does. -/
theorem State.beginSegment_cases (k : SlotId) (i : Nat) (s : State) :
    s.beginSegment k i = s ∨ ∃ p sc g, s.play k = some p ∧ s.scene p.scene = some sc ∧ sc.segments[i]? = some g ∧
      s.beginSegment k i = (s.onPlay k fun p => { p with segment := i }).segmentParts k p sc g := by
  cases hp : s.play k with
  | none => exact .inl (by simp [State.beginSegment, hp])
  | some p =>
    cases hs : s.scene p.scene with
    | none => exact .inl (by simp [State.beginSegment, hp, hs])
    | some sc =>
      cases hg : sc.segments[i]? with
      | none => exact .inl (by simp [State.beginSegment, hp, hs, hg])
      | some g => exact .inr ⟨p, sc, g, rfl, hs, hg, State.beginSegment_eq hp hs hg⟩

/-- The beginning of a segment leaves the other slots as they were but for marks. -/
theorem State.beginSegment_bare_other (i : Nat) (h : j ≠ k) : (s.beginSegment k i).seq.bare j = s.seq.bare j := by
  rcases State.beginSegment_cases k i s with e | ⟨p, sc, g, hp, -, -, e⟩
  · rw [e]
  · rw [e, State.segmentParts_bare, State.onPlay_bare_at hp, if_neg h]

/-- The segment that a slot is in begins anew: the slot is as it was but for marks. -/
theorem State.beginSegment_bare_same (hp : s.play k = some p) :
    (s.beginSegment k p.segment).seq.bare = s.seq.bare := by
  rcases State.beginSegment_cases k p.segment s with e | ⟨q, sc, g, hq, -, -, e⟩
  · rw [e]
  · obtain rfl : p = q := by simpa [hp] using hq
    rw [e, State.segmentParts_bare]
    funext j
    rw [State.onPlay_bare_at hp]
    split
    · next ej => rw [ej, State.bare_of_play hp]
    · rfl

/-! ### The end of a slot -/

/-- The slots after a PLAYING slot has ended. -/
theorem State.endSlot_seq (hp : s.play k = some p) (reason : EndReason) (kept : Claims) :
    (s.endSlot k reason kept).seq = { s.seq with slots := s.seq.slots.set k (.free (some p.scene) reason) } := by
  simp [State.endSlot, hp]

/-- The bare slots after a PLAYING slot has ended. -/
theorem State.endSlot_bare (hp : s.play k = some p) (reason : EndReason) (kept : Claims) (j : SlotId) :
    (s.endSlot k reason kept).seq.bare j = if j = k then .free (some p.scene) reason else s.seq.bare j := by
  rw [State.endSlot_seq hp, Seq.bare_set]
  rfl

/-- Ending a FREE slot changes nothing. -/
theorem State.endSlot_none (h : s.play k = none) (reason : EndReason) (kept : Claims) : s.endSlot k reason kept = s := by
  simp [State.endSlot, h]

/-- The end of a slot leaves the play records of the others. -/
theorem State.endSlot_play_other (h : j ≠ k) (reason : EndReason) (kept : Claims) :
    (s.endSlot k reason kept).play j = s.play j := by
  cases hp : s.play k with
  | none => rw [State.endSlot_none hp]
  | some p =>
    rw [State.play_congr (t := s.endSlot k reason kept)
      (s := s.onSeq fun x => { x with slots := x.slots.set k (.free (some p.scene) reason) })
      (by rw [State.endSlot_seq hp]; rfl)]
    exact State.play_set_other h _

/-- A slot that has ended is FREE. -/
theorem State.endSlot_play_same (reason : EndReason) (kept : Claims) : (s.endSlot k reason kept).play k = none := by
  cases hp : s.play k with
  | none => rw [State.endSlot_none hp, hp]
  | some p =>
    exact State.play_eq_none.mpr ⟨_, _, State.slot_of_bare (by rw [State.endSlot_bare hp, if_pos rfl])⟩

/-- A slot ends and the ARB takes its release. -/
theorem State.freeSlot_some (hp : s.play k = some p) (reason : EndReason) :
    s.freeSlot k reason = (s.endSlot k reason {}).releaseClaims k p := by
  simp [State.freeSlot, hp]

/-! ### A start -/

/-- A slot is in the preemption set of a claim set when it owns a resource of it. -/
theorem State.mem_preemptSet {c : Claims} :
    k ∈ s.preemptSet c ↔ ∃ i : ResourceId, c.mask.getLsbD i = true ∧ s.arb.owners[i] = some k := by
  simp [State.preemptSet, State.ownsSome]

/-- The preemption set names a slot once. -/
theorem State.preemptSet_nodup (c : Claims) : (s.preemptSet c).Nodup :=
  (List.nodup_finRange 8).sublist List.filter_sublist

/-- A FREE slot, as the ARB sees it. -/
theorem State.isFree_iff : s.isFree k = true ↔ s.play k = none ∧ ∀ i : ResourceId, s.arb.owners[i] ≠ some k := by
  simp [State.isFree, State.ownsSome, -BitVec.reduceAllOnes]

/-- The slot that a start takes is FREE or in the preemption set. -/
theorem State.startSlot_some {c : Claims} (h : s.startSlot c = some new) :
    (s.play new = none ∧ ∀ i : ResourceId, s.arb.owners[i] ≠ some new) ∨ new ∈ s.preemptSet c := by
  have := List.find?_some h
  simpa [State.isFree_iff] using this

/-- Every owner of a resource that passes the resource test plays a yieldable scene of lower priority. -/
theorem State.resourceTest_iff : s.resourceTest r sc = true ↔ ∀ i : ResourceId, sc.claims.mask.getLsbD i = true →
    ∀ k, s.arb.owners[i] = some k → sc.mayPreempt = true ∧
      ∃ p d, s.play k = some p ∧ s.scene p.scene = some d ∧ d.yieldable = true ∧ p.priority < r.priority := by
  unfold State.resourceTest
  rw [List.all_eq_true]
  refine ⟨fun h i hi k hk => ?_, fun h i _ => ?_⟩
  · have hi' := h i (List.mem_finRange i)
    simp only [hi, Bool.not_true, Bool.false_or, State.resourcePasses, hk] at hi'
    cases hp : s.play k with
    | none => simp [hp] at hi'
    | some p =>
      cases hd : s.scene p.scene with
      | none => simp [hp, hd] at hi'
      | some d =>
        simp only [hp, hd, Bool.and_eq_true, decide_eq_true_eq] at hi'
        exact ⟨hi'.1.2, p, d, rfl, hd, hi'.2, hi'.1.1⟩
  · cases hi : sc.claims.mask.getLsbD i with
    | false => simp
    | true =>
      simp only [Bool.not_true, Bool.false_or, State.resourcePasses]
      cases hk : s.arb.owners[i] with
      | none => rfl
      | some k =>
        obtain ⟨hm, p, d, hp, hd, hy, hlt⟩ := h i hi k hk
        simp [hp, hd, hy, hlt, hm]

/-- What lets a request start in a slot. -/
theorem State.canStart_some {blocked : BitVec 96} (h : s.canStart blocked r sc = some k) :
    s.resourceTest r sc = true ∧ s.startSlot sc.claims = some k := by
  unfold State.canStart at h
  split at h
  · next c => exact ⟨c.2, h⟩
  · cases h

/-- What the end of one slot of the preemption set leaves of the slots. -/
theorem State.preemptOne_bare (kept : Claims) (s : State) (k j : SlotId) :
    (State.preemptOne new kept s k).seq.bare j =
      if j = k then (match s.play k with
        | some p => .free (some p.scene) .preempted
        | none => s.seq.bare k) else s.seq.bare j := by
  unfold State.preemptOne
  cases hp : s.play k with
  | none => simp only; split <;> simp_all
  | some p => simp [State.endSlot_bare hp]

/-- The end of one slot of the preemption set leaves the play records of the other slots. -/
theorem State.preemptOne_play_other (kept : Claims) (h : j ≠ k) :
    (State.preemptOne new kept s k).play j = s.play j := by
  unfold State.preemptOne
  cases hp : s.play k with
  | none => rfl
  | some p =>
    rw [← State.endSlot_play_other (s := s) h .preempted kept]
    exact State.play_congr (by simp) j

/-- The end of one slot of the preemption set leaves the queue and the claim table. -/
@[simp] theorem State.preemptOne_queue (kept : Claims) (s : State) (k : SlotId) :
    (State.preemptOne new kept s k).arb.queue = s.arb.queue ∧
    (State.preemptOne new kept s k).arb.owners = s.arb.owners := by
  unfold State.preemptOne
  split <;> simp

/-- The ends of the slots of a preemption set leave the queue and the claim table. -/
@[simp] theorem State.preemptAll_queue (kept : Claims) (l : List SlotId) (s : State) :
    (l.foldl (State.preemptOne new kept) s).arb.queue = s.arb.queue ∧
    (l.foldl (State.preemptOne new kept) s).arb.owners = s.arb.owners :=
  ⟨foldl_same (g := fun s : State => s.arb.queue) (fun a x => (State.preemptOne_queue kept a x).1) l s,
    foldl_same (g := fun s : State => s.arb.owners) (fun a x => (State.preemptOne_queue kept a x).2) l s⟩

/-- What the ends of the slots of a preemption set leave of the slots. -/
theorem State.preemptAll_bare (kept : Claims) (l : List SlotId) (nodup : l.Nodup) (s : State) (j : SlotId) :
    (l.foldl (State.preemptOne new kept) s).seq.bare j =
      if j ∈ l then (match s.play j with
        | some p => .free (some p.scene) .preempted
        | none => s.seq.bare j) else s.seq.bare j := by
  refine foldl_at (f := fun k s => State.preemptOne new kept s k) (view := fun s : State => s.seq.bare j)
    (g := fun s : State => match s.play j with
      | some p => .free (some p.scene) .preempted
      | none => s.seq.bare j) (fun i a h => ?_) (fun a => ?_) (fun i a h => ?_) l nodup s
  · rw [State.preemptOne_bare, if_neg (Ne.symm h)]
  · rw [State.preemptOne_bare, if_pos rfl]
  · simp only [State.preemptOne_play_other kept (Ne.symm h), State.preemptOne_bare, if_neg (Ne.symm h)]

/-- The play record of a start that beginning segment 0 has left, but for marks. -/
def startedRec (r : Request) (sc : SceneRec) : PlayRec :=
  { scene := r.scene, source := r.source, priority := r.priority, position := 0, segment := 0, plays := sc.repeats,
    claims := sc.claims, marks := 0 }

/-- The bare slots after a slot was occupied. -/
theorem State.occupySlot_bare (k : SlotId) (r : Request) (sc : SceneRec) (s : State) (j : SlotId) :
    (s.occupySlot k r sc).seq.bare j = if j = k then .playing (startedRec r sc) else s.seq.bare j := by
  simp only [State.occupySlot, State.setCue, State.onNmx_seq, State.onLco_seq, State.onSeq_seq, Seq.bare_set]
  rfl

/-- The state in which segment 0 of a starting request begins. -/
def State.readied (new : SlotId) (r : Request) (sc : SceneRec) (s : State) : State :=
  let preempted := s.preemptSet sc.claims
  let taken := s.takenGroups sc.claims
  let s := preempted.foldl (State.preemptOne new sc.claims) s
  let s := s.onLco (Lco.holdGroups new taken)
  let s := s.onArb fun x => (x.takeClaims new sc.claims.mask preempted)
  let s := (s.onArb fun x => { x with queue := x.queue.erase r }).enter r (.started new)
  let s := s.onMgt (Mgt.mapAxes sc.claims.axes Axis.take)
  (s.occupySlot new r sc).judgeAxes.askStatus

/-- A start readies its slot and begins segment 0. -/
theorem State.start_eq (new : SlotId) (r : Request) (sc : SceneRec) (s : State) :
    s.start new r sc = (s.readied new r sc).beginSegment new 0 := rfl

/-- The bare slots of a readied start. -/
theorem State.readied_bare (new : SlotId) (r : Request) (sc : SceneRec) (s : State) (j : SlotId) :
    (s.readied new r sc).seq.bare j = if j = new then .playing (startedRec r sc)
      else if j ∈ s.preemptSet sc.claims then (match s.play j with
        | some p => .free (some p.scene) .preempted
        | none => s.seq.bare j) else s.seq.bare j := by
  simp only [State.readied, State.askStatus_frame, State.judgeAxes_bare, State.occupySlot_bare]
  simp [State.preemptAll_bare _ _ (State.preemptSet_nodup _)]

/-- The slot of a readied start plays the request. -/
theorem State.readied_play (new : SlotId) (r : Request) (sc : SceneRec) (s : State) :
    ∃ q, (s.readied new r sc).play new = some q ∧ q = { startedRec r sc with marks := q.marks } :=
  State.play_of_bare (by rw [State.readied_bare, if_pos rfl]; rfl)

/-- The bare slots after a start (R55, orders 1 and 4). -/
theorem State.start_bare (new : SlotId) (r : Request) (sc : SceneRec) (s : State) (j : SlotId) :
    (s.start new r sc).seq.bare j = if j = new then .playing (startedRec r sc)
      else if j ∈ s.preemptSet sc.claims then (match s.play j with
        | some p => .free (some p.scene) .preempted
        | none => s.seq.bare j) else s.seq.bare j := by
  obtain ⟨q, hq, e⟩ := State.readied_play new r sc s
  have same := State.beginSegment_bare_same hq
  rw [show q.segment = 0 by rw [e]; rfl] at same
  rw [State.start_eq, same, State.readied_bare]

/-- The queue after a start. -/
theorem State.start_queue (new : SlotId) (r : Request) (sc : SceneRec) (s : State) :
    (s.start new r sc).arb.queue = s.arb.queue.erase r := by
  simp [State.start]

/-- The owners after a start (R55, order 3). -/
theorem State.start_owners (new : SlotId) (r : Request) (sc : SceneRec) (s : State) (i : ResourceId) :
    (s.start new r sc).arb.owners[i] = if sc.claims.mask.getLsbD i then some new
      else match s.arb.owners[i] with
        | some j => if (s.preemptSet sc.claims).contains j then none else some j
        | none => none := by
  rw [State.start_eq, (State.beginSegment_frame _ _ _).2.2.2.1]
  simp only [State.readied, State.askStatus_frame, State.judgeAxes_frame, State.occupySlot_frame, State.onMgt_arb,
    State.enter_queue, State.onArb_arb]
  rw [Arb.takeClaims_owners]
  simp only [State.onLco_arb, State.preemptAll_queue] <;> rfl

end Sys2Proof.Machine
end

section
/-! SUPPORT. The law of the claim table, the slots and the request queue while the ARB has not taken every release: the
invariant that the operations of the ARB and the SEQ keep between the end of a slot and the release of its claims. -/

namespace Sys2Proof.Machine

/-- What a slot that is PLAYING holds in the law of R47 and R49: its scene and its claims. -/
def Slot.held : Slot → Option (SceneId × Claims)
  | .free _ _ => none
  | .playing p => some (p.scene, p.claims)

/-- The scenes and claims of the PLAYING slots. -/
def State.held (s : State) (k : SlotId) : Option (SceneId × Claims) := (s.seq.bare k).held

/-- What the law says of a queued request: its scene, its priority and its source. -/
def Request.key (r : Request) : SceneId × Nat × Source := (r.scene, r.priority, r.source)

/-- The law of the claim table, the slots and the request queue, where `pend` names the claims of slots that have ended and
whose release the ARB has still to take (R18, step 5; R50). A slot that claims nothing may play again before its release
is taken (log entry 21). -/
structure ShowLawBut (pend : SlotId → Option Claims) (s : State) : Prop where
  ownerHolds : ∀ (i : ResourceId) (k : SlotId), s.arb.owners[i] = some k →
    ∃ c : Claims, c.mask.getLsbD i = true ∧
      ((∃ m, s.held k = some (m, c)) ∨ (s.held k = none ∧ pend k = some c))
  claimsHeld : ∀ (k : SlotId) (m : SceneId) (c : Claims) (i : ResourceId), s.held k = some (m, c) →
    c.mask.getLsbD i = true → s.arb.owners[i] = some k
  pendHeld : ∀ (k : SlotId) (c : Claims) (i : ResourceId), pend k = some c → c.mask.getLsbD i = true →
    s.held k = none ∧ s.arb.owners[i] = some k
  playsOnce : ∀ (k j : SlotId) (m : SceneId) (c d : Claims), s.held k = some (m, c) → s.held j = some (m, d) → k = j
  queuedOnce : ((s.arb.queue.map Request.key).map (·.1)).Nodup
  notBoth : ∀ (k : SlotId) (m : SceneId) (c : Claims), s.held k = some (m, c) →
    m ∉ (s.arb.queue.map Request.key).map (·.1)
  queue_le : (s.arb.queue.map Request.key).length ≤ 16
  ordered : (s.arb.queue.map Request.key).Pairwise fun x y => y.2.1 ≤ x.2.1
  admitted : ∀ x ∈ s.arb.queue.map Request.key, admits s.arb.mode x.2.2 = true
  stopped : s.arb.showStopped = true → s.arb.queue.map Request.key = [] ∧ ∀ k : SlotId, s.held k = none

variable {s t : State} {k j new : SlotId} {p : PlayRec} {sc : SceneRec} {r : Request} {pend : SlotId → Option Claims}

/-! ### Reading the law -/

theorem State.held_of_bare (e : t.seq.bare = s.seq.bare) : t.held = s.held := by
  funext k
  rw [State.held, State.held, e]

theorem State.held_of_play (h : s.play k = some p) : s.held k = some (p.scene, p.claims) := by
  rw [State.held, State.bare_of_play h, Slot.held]

theorem State.held_eq_some {m : SceneId} {c : Claims} :
    s.held k = some (m, c) ↔ ∃ p, s.play k = some p ∧ p.scene = m ∧ p.claims = c := by
  cases h : s.play k with
  | none =>
    obtain ⟨l, r, hs⟩ := State.play_eq_none.mp h
    simp [State.held, Seq.bare, hs, Slot.bare, Slot.held]
  | some p => simp [State.held_of_play h]

theorem State.held_eq_none : s.held k = none ↔ s.play k = none := by
  cases h : s.play k with
  | none =>
    obtain ⟨l, r, hs⟩ := State.play_eq_none.mp h
    simp [State.held, Seq.bare, hs, Slot.bare, Slot.held]
  | some p => simp [State.held_of_play h]

theorem queueScenes_eq (q : List Request) : (q.map Request.key).map (·.1) = q.map (·.scene) := by
  simp [Request.key]

/-- With no release outstanding the law is the law of the state. -/
theorem showLawBut_none_iff : ShowLawBut (fun _ => none) s ↔ ShowLaw s := by
  constructor
  · intro h
    refine ⟨fun i k hi => ?_, fun k p i hp hi => h.claimsHeld k _ _ i (State.held_of_play hp) hi,
      fun k j p q hp hq e => h.playsOnce k j p.scene _ _ (State.held_of_play hp) (e ▸ State.held_of_play hq),
      queueScenes_eq _ ▸ h.queuedOnce, fun k p hp => ?_, by simpa using h.queue_le,
      (List.pairwise_map.mp h.ordered), fun r hr => h.admitted _ (List.mem_map_of_mem hr), fun e => ?_⟩
    · obtain ⟨c, hc, ⟨m, hm⟩ | ⟨-, e⟩⟩ := h.ownerHolds i k hi
      · obtain ⟨p, hp, -, rfl⟩ := State.held_eq_some.mp hm
        exact ⟨p, hp, hc⟩
      · cases e
    · have := h.notBoth k _ _ (State.held_of_play hp)
      rw [queueScenes_eq] at this
      rw [Bool.eq_false_iff, ne_eq, State.isQueued_iff]
      rintro ⟨r, hr, e⟩
      exact this (e ▸ List.mem_map_of_mem hr)
    · exact ⟨by simpa using (h.stopped e).1, fun k => State.held_eq_none.mp ((h.stopped e).2 k)⟩
  · intro h
    refine ⟨fun i k hi => ?_, fun k m c i hk hi => ?_, fun k c i e => (by cases e), fun k j m c d hk hj => ?_,
      (queueScenes_eq _).symm ▸ h.queuedOnce, fun k m c hk hm => ?_, by simpa using h.queue_le,
      (List.pairwise_map.mpr h.ordered), fun x hx => ?_, fun e => ?_⟩
    · obtain ⟨p, hp, hc⟩ := h.ownerPlays i k hi
      exact ⟨p.claims, hc, .inl ⟨_, State.held_of_play hp⟩⟩
    · obtain ⟨p, hp, -, rfl⟩ := State.held_eq_some.mp hk
      exact h.claimsHeld k p i hp hi
    · obtain ⟨p, hp, rfl, -⟩ := State.held_eq_some.mp hk
      obtain ⟨q, hq, e, -⟩ := State.held_eq_some.mp hj
      exact h.playsOnce k j p q hp hq e.symm
    · obtain ⟨p, hp, rfl, -⟩ := State.held_eq_some.mp hk
      have := h.notBoth k p hp
      rw [queueScenes_eq, List.mem_map] at hm
      rw [State.isQueued_iff.mpr hm] at this
      cases this
    · obtain ⟨r, hr, rfl⟩ := List.mem_map.mp hx
      exact h.admitted r hr
    · exact ⟨by simp [(h.stopped e).1], fun k => State.held_eq_none.mpr ((h.stopped e).2 k)⟩

/-- The law is kept when requests leave the queue, the slots and claims stay, the house mode admits what stays, and no
show stop begins. -/
theorem ShowLawBut.of_part (h : ShowLawBut pend s)
    (queue : (t.arb.queue.map Request.key).Sublist (s.arb.queue.map Request.key))
    (owners : t.arb.owners = s.arb.owners) (mode : ∀ r ∈ t.arb.queue, admits t.arb.mode r.source = true)
    (show_ : t.arb.showStopped = true → s.arb.showStopped = true) (slots : t.held = s.held) : ShowLawBut pend t where
  ownerHolds i k := by rw [owners, slots]; exact h.ownerHolds i k
  claimsHeld k m c i := by rw [owners, slots]; exact h.claimsHeld k m c i
  pendHeld k c i := by rw [owners, slots]; exact h.pendHeld k c i
  playsOnce k j m c d := by rw [slots]; exact h.playsOnce k j m c d
  queuedOnce := h.queuedOnce.sublist (queue.map _)
  notBoth k m c hk hm := h.notBoth k m c (slots ▸ hk) ((queue.map _).subset hm)
  queue_le := queue.length_le.trans h.queue_le
  ordered := h.ordered.sublist queue
  admitted x hx := by
    obtain ⟨r, hr, rfl⟩ := List.mem_map.mp hx
    exact mode r hr
  stopped e := by
    obtain ⟨hq, hk⟩ := h.stopped (show_ e)
    exact ⟨List.sublist_nil.mp (hq ▸ queue), slots ▸ hk⟩

/-- The law is kept when requests leave the queue and all else stays. -/
theorem ShowLawBut.of_sublist (h : ShowLawBut pend s)
    (queue : (t.arb.queue.map Request.key).Sublist (s.arb.queue.map Request.key))
    (owners : t.arb.owners = s.arb.owners) (mode : t.arb.mode = s.arb.mode)
    (show_ : t.arb.showStopped = s.arb.showStopped) (slots : t.held = s.held) : ShowLawBut pend t :=
  h.of_part queue owners (fun _ hr => mode ▸ h.admitted _ (queue.subset (List.mem_map_of_mem hr))) (show_ ▸ id) slots

/-- The law is read from the ARB's part and the slots but for marks. -/
theorem ShowLawBut.of_same (h : ShowLawBut pend s) (queue : t.arb.queue = s.arb.queue)
    (owners : t.arb.owners = s.arb.owners) (mode : t.arb.mode = s.arb.mode)
    (show_ : t.arb.showStopped = s.arb.showStopped) (slots : t.held = s.held) : ShowLawBut pend t :=
  h.of_sublist (by rw [queue]) owners mode show_ slots

/-! ### Departures and arrivals -/

/-- A departure keeps the law. -/
theorem ShowLawBut.depart (h : ShowLawBut pend s) (r : Request) (d : Departure) : ShowLawBut pend (s.depart r d) :=
  h.of_sublist (by simpa using (List.erase_sublist (a := r)).map _) (by simp) (by simp) (by simp)
    (State.held_of_bare (by simp))

/-- A request inserted into a queue stands beside the requests that were there. -/
theorem insertRequest_perm (r : Request) (q : List Request) : (insertRequest r q).Perm (r :: q) := by
  refine List.perm_middle.trans (.cons _ ?_)
  rw [List.takeWhile_append_dropWhile]

/-- In an ordered queue the requests that the inserted one stands before have lower priority. -/
theorem insertRequest_ordered {q : List Request} (r : Request)
    (h : q.Pairwise fun x y => y.priority ≤ x.priority) :
    (insertRequest r q).Pairwise fun x y => y.priority ≤ x.priority := by
  induction q with
  | nil => simp [insertRequest]
  | cons x xs ih =>
    obtain ⟨hx, hxs⟩ := List.pairwise_cons.mp h
    by_cases c : r.priority ≤ x.priority
    · rw [insertRequest, List.takeWhile_cons_of_pos (by simpa), List.dropWhile_cons_of_pos (by simpa), List.cons_append]
      refine List.pairwise_cons.mpr ⟨fun y hy => ?_, ih hxs⟩
      rcases List.mem_cons.mp ((insertRequest_perm r xs).subset hy) with rfl | hy
      · exact c
      · exact hx y hy
    · rw [insertRequest, List.takeWhile_cons_of_neg (by simpa using c), List.dropWhile_cons_of_neg (by simpa using c), List.nil_append]
      refine List.pairwise_cons.mpr ⟨fun y hy => ?_, h⟩
      rcases List.mem_cons.mp hy with rfl | hy
      · omega
      · have := hx y hy
        omega

/-- What a request that no check of R42 refuses meets. -/
theorem State.refusal_none (h : s.refusal r = none) :
    s.arb.showStopped = false ∧ admits s.arb.mode r.source = true ∧ s.isBusy r.scene = false ∧
    s.eligible r.scene = true ∧ s.motionBlocked r.scene = false ∧ s.arb.queue.length < 16 := by
  unfold State.refusal at h
  split_ifs at h
  simp_all [Config.requestCap]

/-- A request that arrives, is judged and is inserted or refused keeps the law. -/
theorem ShowLawBut.judgeInsert (h : ShowLawBut pend s) (r : Request) : ShowLawBut pend (s.judgeInsert r).2 := by
  cases e : s.refusal r with
  | some c =>
    rw [State.judgeInsert_refused e]
    split <;> exact h.of_same (by simp) (by simp) (by simp) (by simp) (State.held_of_bare (by simp))
  | none =>
    obtain ⟨run, adm, busy, -, -, room⟩ := State.refusal_none e
    rw [State.judgeInsert_accepted e]
    have perm := (insertRequest_perm r s.arb.queue).map Request.key
    have slots : (s.onArb fun x => { x with queue := insertRequest r x.queue }).askStatus.held = s.held :=
      State.held_of_bare (by simp)
    have queue : (s.onArb fun x => { x with queue := insertRequest r x.queue }).askStatus.arb.queue =
      insertRequest r s.arb.queue := by simp
    obtain ⟨notPlaying, notQueued⟩ : s.isPlaying r.scene = false ∧ s.isQueued r.scene = false := by
      simpa [State.isBusy] using busy
    have fresh : r.scene ∉ (s.arb.queue.map Request.key).map (·.1) := by
      rw [queueScenes_eq, List.mem_map, ← State.isQueued_iff, notQueued]
      simp
    refine ⟨?_, ?_, ?_, ?_, ?_, ?_, ?_, ?_, ?_, ?_⟩
    · simpa [slots] using h.ownerHolds
    · simpa [slots] using h.claimsHeld
    · simpa [slots] using h.pendHeld
    · simpa [slots] using h.playsOnce
    · rw [queue]
      exact (perm.map _).nodup_iff.mpr (List.nodup_cons.mpr ⟨fresh, h.queuedOnce⟩)
    · intro k m c hk hm
      rw [queue] at hm
      rw [slots] at hk
      rcases List.mem_cons.mp ((perm.map _).subset hm) with rfl | hm
      · obtain ⟨p, hp, e, -⟩ := State.held_eq_some.mp hk
        have := State.playingSlot_none.mp (by simpa [State.isPlaying] using notPlaying) k p hp
        exact this e
      · exact h.notBoth k m c hk hm
    · rw [queue, perm.length_eq]
      simpa using room
    · rw [queue]
      exact List.pairwise_map.mpr (insertRequest_ordered r (List.pairwise_map.mp h.ordered))
    · intro x hx
      rw [queue] at hx
      rcases List.mem_cons.mp (perm.subset hx) with rfl | hx
      · simpa [Request.key] using adm
      · simpa using h.admitted x hx
    · intro e
      simp [run] at e

/-! ### Ends and releases -/

/-- The scenes and claims after a slot has ended. -/
theorem State.endSlot_held (hp : s.play k = some p) (reason : EndReason) (kept : Claims) (j : SlotId) :
    (s.endSlot k reason kept).held j = if j = k then none else s.held j := by
  rw [State.held, State.endSlot_bare hp]
  split <;> rfl

/-- A slot that has ended waits for the release of its claims. -/
theorem ShowLawBut.endSlot (h : ShowLawBut pend s) (hp : s.play k = some p) (reason : EndReason) :
    ShowLawBut (Function.update pend k (some p.claims)) (s.endSlot k reason {}) := by
  have slots := State.endSlot_held hp reason {}
  have own := State.held_of_play hp
  have arb : (s.endSlot k reason {}).arb = s.arb := by simp
  refine ⟨fun i j hi => ?_, fun j m c i hj hi => ?_, fun j c i hj hi => ?_, fun j l m c d hj hl => ?_, ?_,
    fun j m c hj => ?_, ?_, ?_, ?_, fun e => ?_⟩
  · rw [arb] at hi
    obtain ⟨c, hc, hj⟩ := h.ownerHolds i j hi
    refine ⟨c, hc, ?_⟩
    by_cases e : j = k
    · subst e
      refine .inr ⟨by rw [slots, if_pos rfl], ?_⟩
      rcases hj with ⟨m, hm⟩ | ⟨hn, -⟩
      · simp_all
      · simp_all
    · rw [slots, if_neg e, Function.update_of_ne e]
      exact hj
  · rw [slots] at hj
    split at hj
    · cases hj
    · rw [arb]; exact h.claimsHeld j m c i hj hi
  · by_cases e : j = k
    · subst e
      rw [Function.update_self] at hj
      obtain rfl : p.claims = c := by simpa using hj
      exact ⟨by rw [slots, if_pos rfl], by rw [arb]; exact h.claimsHeld j _ _ i own hi⟩
    · rw [Function.update_of_ne e] at hj
      rw [slots, if_neg e, arb]
      exact h.pendHeld j c i hj hi
  · rw [slots] at hj hl
    split at hj
    · cases hj
    · split at hl
      · cases hl
      · exact h.playsOnce j l m c d hj hl
  · rw [arb]; exact h.queuedOnce
  · rw [slots] at hj
    split at hj
    · cases hj
    · rw [arb]; exact h.notBoth j m c hj
  · rw [arb]; exact h.queue_le
  · rw [arb]; exact h.ordered
  · rw [arb]; exact h.admitted
  · rw [arb] at e ⊢
    exact ⟨(h.stopped e).1, fun j => by rw [slots, (h.stopped e).2 j, ite_self]⟩

/-- The ARB takes the release of a slot that waits for it. -/
theorem ShowLawBut.releaseClaims (h : ShowLawBut pend s) (k : SlotId) (p : PlayRec) (hp : pend k = some p.claims) :
    ShowLawBut (Function.update pend k none) (s.releaseClaims k p) := by
  have slots : (s.releaseClaims k p).held = s.held := State.held_of_bare (by simp)
  have owners := State.releaseClaims_owners (s := s) k p
  refine ⟨fun i j hi => ?_, fun j m c i hj hi => ?_, fun j c i hj hi => ?_, ?_, ?_, ?_, ?_, ?_, ?_, ?_⟩
  · rw [owners] at hi
    split at hi
    · cases hi
    · next free =>
      obtain ⟨c, hc, hj⟩ := h.ownerHolds i j hi
      refine ⟨c, hc, ?_⟩
      rw [slots]
      by_cases e : j = k
      · subst e
        rcases hj with hm | ⟨-, hn⟩
        · exact .inl hm
        · obtain rfl : p.claims = c := by simpa [hp] using hn
          simp [hc, hi] at free
      · rw [Function.update_of_ne e]
        exact hj
  · rw [slots] at hj
    have own := h.claimsHeld j m c i hj hi
    rw [owners, if_neg, own]
    intro both
    obtain ⟨hm, e⟩ : p.claims.mask.getLsbD i = true ∧ j = k := by simpa [own] using both
    cases (h.pendHeld k _ i hp hm).1.symm.trans (e ▸ hj)
  · by_cases e : j = k
    · subst e; simp at hj
    · rw [Function.update_of_ne e] at hj
      obtain ⟨hn, own⟩ := h.pendHeld j c i hj hi
      rw [slots, owners, if_neg (by simp [own, e]), own]
      exact ⟨hn, rfl⟩
  · rw [slots]; exact h.playsOnce
  · simpa using h.queuedOnce
  · rw [slots]; simpa using h.notBoth
  · simpa using h.queue_le
  · simpa using h.ordered
  · simpa using h.admitted
  · rw [slots]; simpa using h.stopped

/-- The end of a slot with the release of its claims keeps the law. -/
theorem ShowLawBut.freeSlot (h : ShowLawBut pend s) (hk : pend k = none) (reason : EndReason) :
    ShowLawBut pend (s.freeSlot k reason) := by
  cases hp : s.play k with
  | none => rwa [State.freeSlot_none hp]
  | some p =>
    rw [State.freeSlot_some hp]
    have := (h.endSlot hp reason).releaseClaims k p (Function.update_self ..)
    rwa [Function.update_idem, ← hk, Function.update_eq_self] at this

/-! ### Starts and the walk -/

/-- A start of a queued request that passes the tests of R53 and R54 keeps the law. -/
theorem ShowLawBut.start (h : ShowLawBut pend s) (queued : r ∈ s.arb.queue) (test : s.resourceTest r sc = true)
    (slot : s.startSlot sc.claims = some new) : ShowLawBut pend (s.start new r sc) := by
  have bare := State.start_bare new r sc s
  have owners := State.start_owners new r sc s
  have queue := State.start_queue new r sc s
  -- a slot of the preemption set plays
  have victim : ∀ j ∈ s.preemptSet sc.claims, ∃ q, s.play j = some q := fun j hj => by
    obtain ⟨i, hi, own⟩ := State.mem_preemptSet.mp hj
    obtain ⟨-, q, -, hq, -⟩ := State.resourceTest_iff.mp test i hi j own
    exact ⟨q, hq⟩
  -- what the slots hold afterwards
  have new_held : (s.start new r sc).held new = some (r.scene, sc.claims) := by
    rw [State.held, bare, if_pos rfl]; rfl
  have gone : ∀ j, j ≠ new → j ∈ s.preemptSet sc.claims → (s.start new r sc).held j = none := fun j e hj => by
    obtain ⟨q, hq⟩ := victim j hj
    rw [State.held, bare, if_neg e, if_pos hj, hq]; rfl
  have stays : ∀ j, j ≠ new → j ∉ s.preemptSet sc.claims → (s.start new r sc).held j = s.held j := fun j e hj => by
    rw [State.held, bare, if_neg e, if_neg hj]; rfl
  -- the start takes the slot of no other owner
  have ownsNone : ∀ i : ResourceId, s.arb.owners[i] = some new → new ∈ s.preemptSet sc.claims := fun i hi =>
    (State.startSlot_some slot).elim (fun f => absurd hi (f.2 i)) id
  -- an owner outside the preemption set owns nothing of the claims
  have apart : ∀ (i : ResourceId) (j : SlotId), s.arb.owners[i] = some j → j ∉ s.preemptSet sc.claims →
      sc.claims.mask.getLsbD i = false ∧ (s.start new r sc).arb.owners[i] = some j := fun i j hi hj => by
    have hm : sc.claims.mask.getLsbD i = false :=
      Bool.eq_false_iff.mpr fun hm => hj (State.mem_preemptSet.mpr ⟨i, hm, hi⟩)
    refine ⟨hm, ?_⟩
    rw [owners, hm, hi]
    simp [hj]
  have sub : ((s.start new r sc).arb.queue.map Request.key).Sublist (s.arb.queue.map Request.key) := by
    rw [queue]; exact List.erase_sublist.map _
  have notQueued : r.scene ∉ ((s.start new r sc).arb.queue.map Request.key).map (·.1) := by
    have perm := ((List.perm_cons_erase queued).map Request.key).map (·.1)
    rw [queue]
    exact (List.nodup_cons.mp (perm.nodup_iff.mp h.queuedOnce)).1
  have unplayed : ∀ j c, s.held j ≠ some (r.scene, c) := fun j c hj =>
    h.notBoth j _ _ hj (by rw [queueScenes_eq]; exact List.mem_map_of_mem queued)
  refine ⟨fun i j hi => ?_, fun j m c i hj hi => ?_, fun j c i hj hi => ?_, fun j l m c d hj hl => ?_,
    h.queuedOnce.sublist (sub.map _), fun j m c hj hm => ?_, sub.length_le.trans h.queue_le, h.ordered.sublist sub,
    fun x hx => by simpa using h.admitted x (sub.subset hx), fun e => ?_⟩
  · rw [owners] at hi
    split at hi
    · next hm =>
      obtain rfl : new = j := by simpa using hi
      exact ⟨sc.claims, hm, .inl ⟨_, new_held⟩⟩
    · obtain ⟨own, hj⟩ : s.arb.owners[i] = some j ∧ j ∉ s.preemptSet sc.claims := by
        cases o : s.arb.owners[i] with
        | none => simp [o] at hi
        | some l => rw [o] at hi; dsimp only at hi; split at hi <;> simp_all
      have e : j ≠ new := fun e => hj (e ▸ ownsNone i (e ▸ own))
      rw [stays j e hj]
      exact h.ownerHolds i j own
  · by_cases e : j = new
    · subst e
      obtain ⟨-, rfl⟩ : r.scene = m ∧ sc.claims = c := by simpa [new_held] using hj
      rw [owners, if_pos hi]
    · by_cases v : j ∈ s.preemptSet sc.claims
      · rw [gone j e v] at hj; cases hj
      · rw [stays j e v] at hj
        exact (apart i j (h.claimsHeld j m c i hj hi) v).2
  · obtain ⟨hn, own⟩ := h.pendHeld j c i hj hi
    have v : j ∉ s.preemptSet sc.claims := fun v => by
      obtain ⟨q, hq⟩ := victim j v
      rw [State.held_of_play hq] at hn
      cases hn
    have e : j ≠ new := fun e => v (e ▸ ownsNone i (e ▸ own))
    rw [stays j e v]
    exact ⟨hn, (apart i j own v).2⟩
  · by_cases ej : j = new <;> by_cases el : l = new
    · rw [ej, el]
    · subst ej
      obtain ⟨rfl, -⟩ : r.scene = m ∧ sc.claims = c := by simpa [new_held] using hj
      by_cases v : l ∈ s.preemptSet sc.claims
      · rw [gone l el v] at hl; cases hl
      · exact absurd (stays l el v ▸ hl) (unplayed l d)
    · subst el
      obtain ⟨rfl, -⟩ : r.scene = m ∧ sc.claims = d := by simpa [new_held] using hl
      by_cases v : j ∈ s.preemptSet sc.claims
      · rw [gone j ej v] at hj; cases hj
      · exact absurd (stays j ej v ▸ hj) (unplayed j c)
    · by_cases vj : j ∈ s.preemptSet sc.claims
      · rw [gone j ej vj] at hj; cases hj
      · by_cases vl : l ∈ s.preemptSet sc.claims
        · rw [gone l el vl] at hl; cases hl
        · exact h.playsOnce j l m c d (stays j ej vj ▸ hj) (stays l el vl ▸ hl)
  · by_cases e : j = new
    · subst e
      obtain ⟨rfl, -⟩ : r.scene = m ∧ sc.claims = c := by simpa [new_held] using hj
      exact notQueued hm
    · by_cases v : j ∈ s.preemptSet sc.claims
      · rw [gone j e v] at hj; cases hj
      · exact h.notBoth j m c (stays j e v ▸ hj) ((sub.map _).subset hm)
  · have empty : s.arb.queue = [] := by simpa using (h.stopped (by simpa using e)).1
    simp [empty] at queued

/-- A walk over requests that all stand in the queue keeps the law. -/
theorem ShowLawBut.walkFrom (l : List Request) : ∀ {s : State} (blocked : BitVec 96), ShowLawBut pend s →
    l.Nodup → (∀ r ∈ l, r ∈ s.arb.queue) → ShowLawBut pend (State.walkFrom l blocked s) := by
  induction l with
  | nil => exact fun _ h _ _ => h
  | cons r rs ih =>
    intro s blocked h nodup queued
    obtain ⟨notIn, nodup⟩ := List.nodup_cons.mp nodup
    obtain ⟨hr, hrs⟩ := List.forall_mem_cons.mp queued
    have remain : ∀ x ∈ rs, x ∈ s.arb.queue.erase r := fun x hx =>
      (List.mem_erase_of_ne (by rintro rfl; exact notIn hx)).mpr (hrs x hx)
    unfold State.walkFrom
    split
    · exact ih _ (h.depart r _) nodup (by simpa using remain)
    · split
      · next sc _ =>
        split
        · next k start =>
          obtain ⟨test, slot⟩ := State.canStart_some start
          exact ih _ (h.start hr test slot) nodup (by rw [State.start_queue]; exact remain)
        · exact ih _ h nodup hrs
      · exact ih _ h nodup hrs

/-- A queue walk keeps the law. -/
theorem ShowLawBut.walk (h : ShowLawBut pend s) : ShowLawBut pend s.walk := by
  have nodup : s.arb.queue.Nodup := by
    have := h.queuedOnce
    rw [queueScenes_eq] at this
    exact this.of_map
  exact (ShowLawBut.walkFrom _ 0 h nodup fun _ => id).of_same (by simp [State.walk]) (by simp [State.walk])
    (by simp [State.walk]) (by simp [State.walk]) (State.held_of_bare (by simp [State.walk]))

/-- The answer after the walk keeps the law. -/
theorem ShowLawBut.settle (h : ShowLawBut pend s) (r : Request) : ShowLawBut pend (s.settle r).2 := by
  unfold State.settle
  repeat' split
  · exact h
  · exact (h.depart r .timedOut).of_same (by simp) (by simp) (by simp) (by simp) (State.held_of_bare (by simp))
  · exact h
  · exact h

/-- A request that arrives, with its walk and answer, keeps the law. -/
theorem ShowLawBut.arrive (h : ShowLawBut pend s) (r : Request) : ShowLawBut pend (s.arrive r).2 := by
  have := h.judgeInsert r
  unfold State.arrive
  split
  · next e => rwa [e] at this
  · next e => rw [e] at this; exact this.walk.settle r

/-- Making a request keeps the law. -/
theorem ShowLawBut.afterNewRequest (h : ShowLawBut pend s) (i : SceneId) (prio : Option Nat) :
    ShowLawBut pend (s.afterNewRequest i prio) :=
  h.of_same (by simp) (by simp) (by simp) (by simp) (State.held_of_bare (by simp))

/-- A request made for a scene keeps the law. -/
theorem ShowLawBut.request (h : ShowLawBut pend s) (i : SceneId) (source : Source) (prio : Option Nat)
    (tag : Option Half) : ShowLawBut pend (s.request i source prio tag).2 :=
  (h.afterNewRequest i prio).arrive _

/-- A follow-on request keeps the law. -/
theorem ShowLawBut.followOn (h : ShowLawBut pend s) (i : SceneId) (source : Source) :
    ShowLawBut pend (s.followOn i source) := by
  have := (h.afterNewRequest i none).judgeInsert (s.newRequest i source none none)
  unfold State.followOn
  dsimp only
  split
  · next e => rw [e] at this; exact this.walk
  · next e => rw [e] at this; exact this.walk.settle _

/-- The ARB takes a slot's completion, where the slot has one. -/
theorem ShowLawBut.handOver (h : ShowLawBut pend s) (k : SlotId) (c : Option Completion)
    (hc : pend k = c.map fun c => c.play.claims) : ShowLawBut (Function.update pend k none) (s.handOver k c) := by
  unfold State.handOver
  cases c with
  | none =>
    rw [Option.map_none] at hc
    rwa [← hc, Function.update_eq_self]
  | some c =>
    have := h.releaseClaims k c.play hc
    dsimp only
    split
    · exact this.followOn _ _
    · exact this.walk

end Sys2Proof.Machine
end

section
/-! SUPPORT. What a slot's turn of a beat does to the slots, and the law of the claim table, the slots and the queue under
everything that reaches the ARB and the SEQ. -/

namespace Sys2Proof.Machine

variable {s t : State} {k j : SlotId} {p : PlayRec} {sc : SceneRec} {pend want : SlotId → Option Claims}

/-! ### A slot's turn of a beat (R8, R9) -/

/-- The slot that a turn of a beat leaves, but for marks (R8, R9). -/
def advancedSlot (p : PlayRec) (sc : SceneRec) : Slot :=
  if p.position + 1 = sc.length then
    if playsOn p sc then .playing { p with position := 0, segment := 0, plays := p.plays - 1, marks := 0 }
    else .free (some p.scene) .complete
  else .playing { p with
    position := p.position + 1, marks := 0
    segment := if (nextSegment p sc (p.position + 1)).isSome then p.segment + 1 else p.segment }

/-- A slot that takes no turn: FREE, or of an EMPTY scene. -/
theorem State.slotAdvance_idle (h : ∀ p sc, s.play k = some p → s.scene p.scene ≠ some sc) : s.slotAdvance k = s := by
  unfold State.slotAdvance
  cases hp : s.play k with
  | none => rfl
  | some p =>
    cases hs : s.scene p.scene with
    | none => simp [hs]
    | some sc => exact absurd hs (h p sc hp)

/-- The turn at which the play of a slot ends. -/
theorem State.slotAdvance_end (hp : s.play k = some p) (hs : s.scene p.scene = some sc)
    (hl : p.position + 1 = sc.length) : s.slotAdvance k = s.endPlay k p sc := by
  simp [State.slotAdvance, hp, hs, hl]

/-- The end of a play that is not the last (R9). -/
theorem State.endPlay_on (h : playsOn p sc = true) : s.endPlay k p sc =
    (s.onPlay k fun p => { p with position := 0, segment := 0, plays := p.plays - 1 }).beginSegment k 0 := by
  simp [State.endPlay, h]

/-- The end of the last play (R9). -/
theorem State.endPlay_last (h : playsOn p sc = false) : s.endPlay k p sc = s.endSlot k .complete {} := by
  simp [State.endPlay, h]

/-- The bare slots after a slot's turn of a beat. -/
theorem State.slotAdvance_bare (hp : s.play k = some p) (hs : s.scene p.scene = some sc) (j : SlotId) :
    (s.slotAdvance k).seq.bare j = if j = k then advancedSlot p sc else s.seq.bare j := by
  by_cases hl : p.position + 1 = sc.length
  · rw [State.slotAdvance_end hp hs hl]
    cases on : playsOn p sc with
    | true =>
      have after := (State.onPlay_play_same (s := s) k
        fun p => { p with position := 0, segment := 0, plays := p.plays - 1 }).trans (congrArg _ hp)
      rw [State.endPlay_on on, State.beginSegment_bare_same after, State.onPlay_bare_at hp]
      simp [advancedSlot, hl, on]
    | false =>
      rw [State.endPlay_last on, State.endSlot_bare hp]
      simp [advancedSlot, hl, on]
  · have moved := State.onPlay_play_same (s := s) k fun p => { p with position := p.position + 1 }
    rw [hp] at moved
    cases hg : nextSegment p sc (p.position + 1) with
    | none =>
      have e : s.slotAdvance k = s.onPlay k fun p => { p with position := p.position + 1 } := by
        simp [State.slotAdvance, hp, hs, hl, hg]
      rw [e, State.onPlay_bare_at hp]
      simp [advancedSlot, hl, hg]
    | some g =>
      obtain ⟨x, hx⟩ : ∃ x, sc.segments[p.segment + 1]? = some x := by
        cases hx : sc.segments[p.segment + 1]? with
        | none => simp [nextSegment, hx] at hg
        | some x => exact ⟨x, rfl⟩
      have e : s.slotAdvance k =
          (s.onPlay k fun p => { p with position := p.position + 1 }).beginSegment k (p.segment + 1) := by
        simp [State.slotAdvance, hp, hs, hl, hg]
      have scene : (s.onPlay k fun p => { p with position := p.position + 1 }).scene p.scene = some sc := by
        simpa [State.scene] using hs
      rw [e, State.beginSegment_eq moved scene hx, State.segmentParts_bare, State.onPlay_bare_at moved,
        State.onPlay_bare_at hp]
      simp only [advancedSlot, if_neg hl, hg, Option.isSome_some, if_true]
      split <;> rfl

/-- A slot's turn of a beat leaves the other slots as they were but for marks. -/
theorem State.slotAdvance_bare_other (h : j ≠ k) : (s.slotAdvance k).seq.bare j = s.seq.bare j := by
  by_cases idle : ∀ p sc, s.play k = some p → s.scene p.scene ≠ some sc
  · rw [State.slotAdvance_idle idle]
  · push Not at idle
    obtain ⟨p, sc, hp, hs⟩ := idle
    rw [State.slotAdvance_bare hp hs, if_neg h]

/-- A slot whose turn brings no completion holds on to its scene and claims. -/
theorem State.slotAdvance_held (h : s.completion k = none) : (s.slotAdvance k).held = s.held := by
  by_cases idle : ∀ p sc, s.play k = some p → s.scene p.scene ≠ some sc
  · rw [State.slotAdvance_idle idle]
  · push Not at idle
    obtain ⟨p, sc, hp, hs⟩ := idle
    funext j
    rw [State.held, State.slotAdvance_bare hp hs]
    split
    · next e =>
      subst e
      rw [State.held_of_play hp]
      by_cases hl : p.position + 1 = sc.length
      · have on : playsOn p sc = true := by
          by_contra off
          simp [State.completion, hp, hs, hl, off] at h
        simp [advancedSlot, hl, on, Slot.held]
      · simp [advancedSlot, hl, Slot.held]
    · rfl

/-- A slot whose turn brings its completion ends COMPLETE on it. -/
theorem State.slotAdvance_completes {c : Completion} (h : s.completion k = some c) :
    s.play k = some c.play ∧ s.slotAdvance k = s.endSlot k .complete {} := by
  obtain ⟨p, sc, hp, hs, hl, on, rfl⟩ := (State.completion_eq_some s k c).mp h
  exact ⟨hp, by rw [State.slotAdvance_end hp hs hl, State.endPlay_last on]⟩

/-! ### Slots that end together -/

/-- One slot's turn of a beat at the SEQ: its completion waits for the ARB. -/
theorem ShowLawBut.slotAdvance (h : ShowLawBut pend s) (k : SlotId) (hk : pend k = none) :
    ShowLawBut (Function.update pend k ((s.completion k).map fun c => c.play.claims)) (s.slotAdvance k) := by
  cases hc : s.completion k with
  | none =>
    rw [Option.map_none, ← hk, Function.update_eq_self]
    exact h.of_same (by simp) (by simp) (by simp) (by simp) (State.slotAdvance_held hc)
  | some c =>
    obtain ⟨hp, e⟩ := State.slotAdvance_completes hc
    rw [e]
    exact h.endSlot hp .complete

/-- The turns of the first slots of a beat: their completions wait for the ARB. -/
theorem ShowLawBut.turns (h : ShowLawBut (fun _ => none) s) (m : Nat) (hm : m ≤ 8) :
    ShowLawBut (fun k => if k.val < m then ((s.turnOf k).completion k).map fun c => c.play.claims else none)
      (((List.finRange 8).take m).foldl (fun t j => t.slotAdvance j) s) := by
  induction m with
  | zero => simpa using h
  | succ m ih =>
    have turn := (ih (by omega)).slotAdvance ⟨m, by omega⟩ (by simp)
    have next : (List.finRange 8).take (m + 1) = (List.finRange 8).take m ++ [⟨m, by omega⟩] := by
      rw [List.take_add_one, List.getElem?_eq_getElem (by simpa using hm)]
      simp
    rw [next, List.foldl_append]
    refine (congrArg (ShowLawBut · _) (funext fun k => ?_)).mp turn
    by_cases e : k = ⟨m, by omega⟩
    · subst e
      simp [State.turnOf]
    · have : k.val ≠ m := fun e' => e (Fin.ext e')
      rw [Function.update_of_ne e]
      simp only [show k.val < m + 1 ↔ k.val < m by omega]

/-- The releases that wait are taken slot by slot. -/
theorem ShowLawBut.releases {f : SlotId → State → State}
    (step : ∀ (k : SlotId) (pend : SlotId → Option Claims) (t : State), pend k = want k → ShowLawBut pend t →
      ShowLawBut (Function.update pend k none) (f k t)) (h : ShowLawBut want t) :
    ShowLawBut (fun _ => none) (forEach 8 f t) := by
  suffices all : ∀ (l : List SlotId), l.Nodup → ∀ (pend : SlotId → Option Claims) (t : State),
      (∀ k ∈ l, pend k = want k) → ShowLawBut pend t →
      ShowLawBut (fun k => if k ∈ l then none else pend k) (l.foldl (fun t k => f k t) t) by
    simpa [forEach] using all _ (List.nodup_finRange 8) want t (fun _ _ => rfl) h
  intro l
  induction l with
  | nil => intro _ pend t _ h; simpa using h
  | cons k ks ih =>
    intro nodup pend t hk h
    obtain ⟨notIn, nodup⟩ := List.nodup_cons.mp nodup
    have rest := ih nodup _ (f k t) (fun j hj => by
      rw [Function.update_of_ne (by rintro rfl; exact notIn hj)]
      exact hk j (List.mem_cons_of_mem _ hj)) (step k pend t (hk k List.mem_cons_self) h)
    refine (congrArg (ShowLawBut · _) (funext fun j => ?_)).mp rest
    by_cases e : j = k
    · simp [e]
    · simp [e]

/-- The SEQ's beat keeps the law. -/
theorem ShowLawBut.seqBeat (h : ShowLawBut (fun _ => none) s) : ShowLawBut (fun _ => none) s.seqBeat := by
  refine ShowLawBut.releases (want := fun k => ((s.turnOf k).completion k).map fun c => c.play.claims)
    (fun k pend t hk h => h.handOver k _ hk) ?_
  have := h.turns 8 le_rfl
  simpa [forEach, List.take_of_length_le] using this

/-- A slot's own share of a beat keeps the law. -/
theorem ShowLawBut.slotBeat (h : ShowLawBut (fun _ => none) s) (k : SlotId) :
    ShowLawBut (fun _ => none) (s.slotBeat k) := by
  have := (h.slotAdvance k rfl).handOver k (s.completion k) (Function.update_self ..)
  rwa [Function.update_idem, show (none : Option Claims) = (fun _ : SlotId => none) k from rfl,
    Function.update_eq_self] at this

/-- A slot that a zone's change to CLEAR ends plays. -/
theorem State.abandoned_some {z : ZoneId} (h : s.abandoned z k = some p) : s.play k = some p := by
  unfold State.abandoned at h
  split at h
  · split at h
    · split at h
      · simp_all
      · cases h
    · cases h
  · cases h

/-- A zone's change to CLEAR keeps the law. -/
theorem ShowLawBut.abandonZone (h : ShowLawBut (fun _ => none) s) (z : ZoneId) :
    ShowLawBut (fun _ => none) (s.abandonZone z) := by
  refine ShowLawBut.releases (want := fun k => (s.abandoned z k).map (·.claims)) (fun k pend t hk h => ?_) ?_
  · unfold State.releaseAndWalk
    cases ha : s.abandoned z k with
    | none =>
      rw [ha, Option.map_none] at hk
      rwa [← hk, Function.update_eq_self]
    | some p => exact (h.releaseClaims k p (by rw [hk, ha, Option.map_some])).walk
  · suffices all : ∀ (l : List SlotId), l.Nodup → ∀ (pend : SlotId → Option Claims) (t : State),
        (∀ k ∈ l, pend k = none ∧ t.play k = s.play k) → ShowLawBut pend t →
        ShowLawBut (fun k => if k ∈ l then (s.abandoned z k).map (·.claims) else pend k)
          (l.foldl (fun t k => t.abandonOne k (s.abandoned z k)) t) by
      simpa [forEach] using all _ (List.nodup_finRange 8) _ s (fun _ _ => ⟨rfl, rfl⟩) h
    intro l
    induction l with
    | nil => intro _ pend t _ h; simpa using h
    | cons k ks ih =>
      intro nodup pend t hk h
      obtain ⟨notIn, nodup⟩ := List.nodup_cons.mp nodup
      have ends : ShowLawBut (Function.update pend k ((s.abandoned z k).map (·.claims)))
          (t.abandonOne k (s.abandoned z k)) := by
        obtain ⟨hn, hp⟩ := hk k List.mem_cons_self
        unfold State.abandonOne
        cases ha : s.abandoned z k with
        | none => rwa [Option.map_none, ← hn, Function.update_eq_self]
        | some p => exact h.endSlot (hp.trans (State.abandoned_some ha)) .abandoned
      have rest := ih nodup _ _ (fun j hj => by
        have e : j ≠ k := by rintro rfl; exact notIn hj
        obtain ⟨hn, hp⟩ := hk j (List.mem_cons_of_mem _ hj)
        rw [Function.update_of_ne e, ← hp]
        refine ⟨hn, ?_⟩
        unfold State.abandonOne
        split
        · exact State.endSlot_play_other e _ _
        · rfl) ends
      refine (congrArg (ShowLawBut · _) (funext fun j => ?_)).mp rest
      by_cases e : j = k
      · subst e; simp [notIn]
      · simp [e]

/-! ### Deadlines, house modes and the show state -/

/-- The departure of requests with one walk keeps the law. -/
theorem ShowLawBut.departAll (h : ShowLawBut pend s) (test : Request → Bool) (d : Departure) :
    ShowLawBut pend (s.departAll test d) :=
  h.of_sublist (by simpa using List.filter_sublist.map _) (by simp) (by simp) (by simp) (State.held_of_bare (by simp))

/-- The expiry of deadlines keeps the law. -/
theorem ShowLawBut.expire (h : ShowLawBut pend s) (limit : Nat) : ShowLawBut pend (s.expire limit) := by
  unfold State.expire
  dsimp only
  split
  · exact (h.departAll _ _).walk
  · exact h

/-- The ARB's beat keeps the law. -/
theorem ShowLawBut.arbBeat (h : ShowLawBut pend s) : ShowLawBut pend s.arbBeat := by
  have counted : ShowLawBut pend
      (s.onArb fun x => { x with queue := x.queue.map fun r => { r with deadline := r.deadline - 1 } }) :=
    h.of_sublist (by rw [State.onArb_arb, List.map_map]; exact .refl _) rfl rfl rfl rfl
  exact counted.expire 0

/-- A house-mode change at the ARB keeps the law. -/
theorem ShowLawBut.arbHouse (h : ShowLawBut pend s) (m : HouseMode) : ShowLawBut pend (s.arbHouse m) := by
  refine (h.of_part (by simpa using List.filter_sublist.map _) (by simp) (fun r hr => ?_) (by simp)
    (State.held_of_bare (by simp))).walk
  simp only [State.departAll_queue, State.onArb_arb, List.mem_filter, Bool.not_not] at hr
  simpa using hr.2

/-- A new house mode at the SCK and the IOU (R161). -/
def State.takeMode (m : HouseMode) (s : State) : State :=
  (s.onSck fun x => { x with mode := m }).onIou fun x => { x with mode := m }

/-- The story flags as the SEQ takes a house-mode change: cleared on a change to OPEN with the UNIT setting on (R161). -/
def State.openClear (m : HouseMode) (s : State) : State :=
  if m = .opened ∧ s.mu.tables.unit.openClears then s.clearStoryFlags (BitVec.allOnes 32) else s

/-- A house-mode change, in the order that its operand gives the SEQ and the ARB. -/
theorem State.changeMode_eq (m : HouseMode) (flagsFirst : Bool) (s : State) :
    s.changeMode m flagsFirst = if s.sck.mode = m then s else
      (if flagsFirst then ((s.takeMode m).openClear m).arbHouse m
        else ((s.takeMode m).arbHouse m).openClear m).judgeIndicators.askStatus := by
  unfold State.changeMode State.openClear State.takeMode
  dsimp only

@[simp] theorem State.clearStoryFlags_slots (f : BitVec 32) : (s.clearStoryFlags f).seq.slots = s.seq.slots := rfl

@[simp] theorem State.openClear_frame (m : HouseMode) :
    (s.openClear m).sli = s.sli ∧ (s.openClear m).mu = s.mu ∧ (s.openClear m).sck = s.sck ∧
    (s.openClear m).iou = s.iou ∧ (s.openClear m).arb = s.arb ∧ (s.openClear m).lco = s.lco ∧
    (s.openClear m).nmx = s.nmx ∧ (s.openClear m).mgt = s.mgt ∧ (s.openClear m).ports = s.ports ∧
    (s.openClear m).free = s.free ∧ (s.openClear m).seq.bare = s.seq.bare ∧
    (s.openClear m).seq.slots = s.seq.slots := by
  unfold State.openClear
  split <;> simp

/-- A house-mode change keeps the law. -/
theorem ShowLawBut.changeMode (h : ShowLawBut pend s) (m : HouseMode) (flagsFirst : Bool) :
    ShowLawBut pend (s.changeMode m flagsFirst) := by
  have taken : ShowLawBut pend (s.takeMode m) := h.of_same rfl rfl rfl rfl rfl
  have cleared : ∀ {t : State}, ShowLawBut pend t → ShowLawBut pend (t.openClear m) := fun ht =>
    ht.of_same (by simp) (by simp) (by simp) (by simp) (State.held_of_bare (by simp))
  have judged : ∀ {t : State}, ShowLawBut pend t → ShowLawBut pend t.judgeIndicators.askStatus := fun ht =>
    ht.of_same (by simp) (by simp) (by simp) (by simp) (State.held_of_bare (by simp))
  rw [State.changeMode_eq]
  split
  · exact h
  · split
    · exact judged ((cleared taken).arbHouse m)
    · exact judged (cleared (taken.arbHouse m))

/-- The show goes on: RESUME-SHOW keeps the law. -/
theorem ShowLawBut.resume (h : ShowLawBut pend s) : ShowLawBut pend s.resume.2 := by
  unfold State.resume
  split
  · exact h
  · split
    · exact h
    · have admitted : ∀ r ∈ (s.setShow false).arb.queue, admits (s.setShow false).arb.mode r.source = true := by
        intro r hr
        have := h.admitted r.key (List.mem_map_of_mem (by simpa [State.setShow] using hr))
        simpa [State.setShow, Request.key] using this
      have resumed : ShowLawBut pend (s.setShow false) :=
        h.of_part (by simp [State.setShow]) (by simp [State.setShow]) admitted (by simp [State.setShow])
          (State.held_of_bare (by simp))
      exact resumed.of_same (by simp) (by simp) (by simp) (by simp) (State.held_of_bare (by simp))

/-- Every owner plays, as the law has it when no release is outstanding. -/
def State.ownersPlay (s : State) : Prop :=
  ∀ (i : ResourceId) (k : SlotId), s.arb.owners[i] = some k → ∃ m c, s.held k = some (m, c) ∧ c.mask.getLsbD i = true

/-- The scenes and claims after a slot has ended and its claims were released. -/
theorem State.freeSlot_held (k : SlotId) (reason : EndReason) (j : SlotId) :
    (s.freeSlot k reason).held j = if j = k then none else s.held j := by
  cases hp : s.play k with
  | none =>
    rw [State.freeSlot_none hp]
    split
    · next e => rw [e, State.held_eq_none.mpr hp]
    · rfl
  | some p => rw [State.freeSlot_some hp, State.held_of_bare (State.releaseClaims_bare ..), State.endSlot_held hp]

/-- A slot that ends with the release of its claims leaves every owner playing. -/
theorem State.ownersPlay.freeSlot (h : s.ownersPlay) (k : SlotId) (reason : EndReason) :
    (s.freeSlot k reason).ownersPlay := by
  intro i j hi
  rw [State.freeSlot_held]
  cases hp : s.play k with
  | none =>
    rw [State.freeSlot_none hp] at hi
    obtain ⟨m, c, hj, hc⟩ := h i j hi
    have e : j ≠ k := by
      rintro rfl
      rw [State.held_eq_none.mpr hp] at hj
      cases hj
    exact ⟨m, c, by rw [if_neg e, hj], hc⟩
  | some p =>
    rw [State.freeSlot_some hp, State.releaseClaims_owners] at hi
    split at hi
    · cases hi
    · next free =>
      simp only [State.endSlot_frame] at hi
      obtain ⟨m, c, hj, hc⟩ := h i j hi
      have e : j ≠ k := by
        rintro rfl
        obtain ⟨-, rfl⟩ : p.scene = m ∧ p.claims = c := by simpa [State.held_of_play hp] using hj
        simp [hc, hi] at free
      exact ⟨m, c, by rw [if_neg e, hj], hc⟩

/-- The queue is as it was after a slot has ended. -/
@[simp] theorem State.freeSlot_queue (k : SlotId) (reason : EndReason) :
    (s.freeSlot k reason).arb.queue = s.arb.queue := by
  unfold State.freeSlot
  split <;> simp

/-- A stopped show keeps the law. -/
theorem ShowLawBut.stopShow (h : ShowLawBut (fun _ => none) s) : ShowLawBut (fun _ => none) s.stopShow := by
  unfold State.stopShow
  split
  · exact h
  · dsimp only
    have emptied : ((s.setShow true).departAll (fun _ => true) .showStop).arb.queue = [] := by simp
    have owned : ((s.setShow true).departAll (fun _ => true) .showStop).ownersPlay := fun i k hi => by
      obtain ⟨c, hc, ⟨m, hm⟩ | ⟨-, e⟩⟩ := h.ownerHolds i k (by simpa [State.setShow] using hi)
      · exact ⟨m, c, by rw [State.held_of_bare (s := s) (by simp), hm], hc⟩
      · cases e
    have free : ∀ j, (forEach 8 (fun k => State.freeSlot k .showStop)
        ((s.setShow true).departAll (fun _ => true) .showStop)).held j = none := fun j =>
      forEach_all (P := fun j (t : State) => t.held j = none) (fun i a => by rw [State.freeSlot_held, if_pos rfl])
        (fun i j a ha => by rw [State.freeSlot_held]; split <;> [rfl; exact ha]) j _
    have still := forEach_inv (P := State.ownersPlay)
      (fun i _ ha => State.ownersPlay.freeSlot ha i .showStop) _ owned
    have queue : (forEach 8 (fun k => State.freeSlot k .showStop)
        ((s.setShow true).departAll (fun _ => true) .showStop)).arb.queue = [] := by
      rw [forEach_same (g := fun t : State => t.arb.queue) (fun i a => State.freeSlot_queue i _), emptied]
    generalize forEach 8 (fun k => State.freeSlot k .showStop)
      ((s.setShow true).departAll (fun _ => true) .showStop) = u at free still queue ⊢
    have slots : (((u.onLco Lco.dropAll).cancelAllCues.judgeAxes).judgeIndicators).held = u.held :=
      State.held_of_bare (by simp)
    refine ⟨fun i k hi => ?_, ?_, ?_, ?_, ?_, ?_, ?_, ?_, ?_, ?_⟩
    · obtain ⟨m, c, hm, -⟩ := still i k (by simpa using hi)
      rw [free] at hm
      cases hm
    all_goals simp [slots, free, queue]

/-- A slot that ends, with the walk of the ARB, keeps the law. -/
theorem ShowLawBut.endAndWalk (h : ShowLawBut pend s) (hk : pend k = none) (reason : EndReason) :
    ShowLawBut pend (s.endAndWalk k reason) := (h.freeSlot hk reason).walk

end Sys2Proof.Machine
end

section
/-! SUPPORT. Every command keeps the law of the claim table, the slots and the request queue: each operation that reaches the
ARB or the SEQ, up to the beat and the receipt of a frame. -/

namespace Sys2Proof.Machine

variable {s t : State} {k : SlotId} {p : PlayRec}

/-- The law with no release outstanding, which is the law of the state. -/
abbrev Lawful (s : State) : Prop := ShowLawBut (fun _ => none) s

/-- What leaves the ARB's part and the slots but for marks keeps the law. -/
theorem ShowLawBut.of_arb {pend : SlotId → Option Claims} (h : ShowLawBut pend s) (arb : t.arb = s.arb)
    (slots : t.seq.bare = s.seq.bare) : ShowLawBut pend t :=
  h.of_same (by rw [arb]) (by rw [arb]) (by rw [arb]) (by rw [arb]) (State.held_of_bare slots)

section
variable {pend : SlotId → Option Claims} (h : ShowLawBut pend s)
include h

theorem ShowLawBut.onSli (f : Sli → Sli) : ShowLawBut pend (s.onSli f) := h.of_arb rfl rfl
theorem ShowLawBut.onMu (f : Mu → Mu) : ShowLawBut pend (s.onMu f) := h.of_arb rfl rfl
theorem ShowLawBut.onSck (f : Sck → Sck) : ShowLawBut pend (s.onSck f) := h.of_arb rfl rfl
theorem ShowLawBut.onIou (f : Iou → Iou) : ShowLawBut pend (s.onIou f) := h.of_arb rfl rfl

end

theorem ShowLawBut.judgeIndicators {pend : SlotId → Option Claims} (h : ShowLawBut pend s) :
    ShowLawBut pend s.judgeIndicators := h.of_arb (by simp) (by simp)

/-- A state without requests, owners and PLAYING slots meets the law. -/
theorem Lawful.of_empty (queue : s.arb.queue = []) (owners : ∀ i : ResourceId, s.arb.owners[i] = none)
    (slots : ∀ k, s.play k = none) : Lawful s := by
  have held : ∀ k, s.held k = none := fun k => State.held_eq_none.mpr (slots k)
  refine ⟨fun i k hi => ?_, ?_, ?_, ?_, ?_, ?_, ?_, ?_, ?_, ?_⟩
  · cases (owners i).symm.trans hi
  all_goals simp [queue, held]

/-! ### Firings (R31 to R34) -/

/-- Changing a play record beside its scene and claims leaves what the slots hold. -/
theorem State.onPlay_held {f : PlayRec → PlayRec} (h : ∀ p, (f p).scene = p.scene ∧ (f p).claims = p.claims) :
    (s.onPlay k f).held = s.held := by
  cases e : s.play k with
  | none => rw [State.onPlay_none e]
  | some p =>
    funext j
    rw [State.held, State.onPlay_bare_at e]
    split
    · next ej => rw [ej, State.held_of_play e, Slot.held, (h p).1, (h p).2]
    · rfl

/-- The beginning of a segment leaves what the slots hold. -/
theorem State.beginSegment_held (k : SlotId) (i : Nat) (s : State) : (s.beginSegment k i).held = s.held := by
  rcases State.beginSegment_cases k i s with e | ⟨p, sc, g, -, -, -, e⟩
  · rw [e]
  · rw [e, State.held_of_bare (State.segmentParts_bare ..)]
    exact State.onPlay_held fun _ => ⟨rfl, rfl⟩

/-- A restart leaves what the slots hold. -/
theorem State.restartSlot_held (k : SlotId) (s : State) : (s.restartSlot k).held = s.held := by
  unfold State.restartSlot
  split
  · split
    · rw [State.beginSegment_held]
      exact State.onPlay_held fun _ => ⟨rfl, rfl⟩
    · rfl
  · rfl

theorem ShowLawBut.restartSlot {pend : SlotId → Option Claims} (h : ShowLawBut pend s) (k : SlotId) :
    ShowLawBut pend (s.restartSlot k) :=
  h.of_same (by simp) (by simp) (by simp) (by simp) (State.restartSlot_held ..)

theorem Lawful.act (h : Lawful s) (e : TrigRec) (src : Source) : Lawful (s.act e src).2 := by
  unfold State.act
  split
  · split <;> dsimp only
    · exact h
    · exact h.restartSlot _
    · exact h.endAndWalk rfl _
  · split
    · exact h
    · unfold State.takeAnswer
      split
      · split <;> dsimp only
        · exact h.request ..
        · exact (h.request ..).request ..
      · exact h.request ..

theorem Lawful.fire (h : Lawful s) (n : EntryId) (src : Source) : Lawful (s.fire n src).2 := by
  unfold State.fire
  (repeat' split) <;> [exact h; exact h; exact h.act _ _; exact h]

theorem Lawful.triggerArrival (h : Lawful s) (body : List Byte) : Lawful (s.triggerArrival body) := by
  unfold State.triggerArrival
  induction triggerList body generalizing s with
  | nil => exact h
  | cons n ns ih => exact ih (h.fire _ _)

/-! ### Zones, lines and the show-stop line (R25 to R39) -/

theorem Lawful.occChanged (h : Lawful s) (z : ZoneId) (o : OccKind) : Lawful (s.occChanged z o) := by
  have taken : Lawful (s.onArb fun x => { x with occ := x.occ.set z o }) := h.of_same rfl rfl rfl rfl rfl
  unfold State.occChanged
  dsimp only
  split
  · exact (taken.abandonZone z).of_arb (by simp) (by simp)
  · exact taken.of_arb (by simp) (by simp)

theorem Lawful.setOcc (h : Lawful s) (z : ZoneId) (o : ZoneOcc) : Lawful (s.setOcc z o) := by
  have taken : Lawful (s.onIou fun x => { x with zones := x.zones.set z o }) := h.of_arb rfl rfl
  unfold State.setOcc
  dsimp only
  split
  · exact taken
  · exact taken.occChanged _ _

theorem Lawful.judgeZone (h : Lawful s) (z : ZoneId) : Lawful (s.judgeZone z) := by
  unfold State.judgeZone
  dsimp only
  (repeat' split) <;> [exact h; exact h.setOcc _ _; exact h.setOcc _ _; exact h]

theorem Lawful.breakZone (h : Lawful s) (z : ZoneId) : Lawful (s.breakZone z) := by
  unfold State.breakZone
  split <;> [exact h; exact h.setOcc _ _; exact h.setOcc _ _]

theorem Lawful.lingerBeat (h : Lawful s) (z : ZoneId) : Lawful (s.lingerBeat z) := by
  unfold State.lingerBeat
  dsimp only
  (repeat' split) <;> [exact h.setOcc _ _; exact h.setOcc _ _; exact h]

theorem Lawful.onLine (h : Lawful s) (n : LineId) (f : LineRt → LineRt) : Lawful (s.onLine n f) := h.of_arb rfl rfl

theorem Lawful.press (h : Lawful s) (n : LineId) : Lawful (s.press n) := by
  unfold State.press
  (repeat' split) <;> [exact h; exact ((h.onLine _ _).fire _ _).judgeIndicators; exact h]

theorem Lawful.breakLine (h : Lawful s) (n : LineId) (zoneFirst : Bool) : Lawful (s.breakLine n zoneFirst) := by
  unfold State.breakLine
  dsimp only
  (repeat' split) <;>
    [exact (h.breakZone _).fire _ _; exact h.breakZone _; exact (h.fire _ _).breakZone _; exact h.breakZone _]

theorem Lawful.acceptLine (h : Lawful s) (n : LineId) (high zoneFirst : Bool) :
    Lawful (s.acceptLine n high zoneFirst) := by
  unfold State.acceptLine
  dsimp only
  split <;> [exact (h.onLine _ _).press n; exact (h.onLine _ _).breakLine n zoneFirst; exact h.onLine _ _]

theorem Lawful.judgeLineZone (h : Lawful s) (n : LineId) : Lawful (s.judgeLineZone n) := by
  unfold State.judgeLineZone
  split <;> [exact h.judgeZone _; exact h]

theorem Lawful.heldBeat (h : Lawful s) (n : LineId) : Lawful (s.heldBeat n) :=
  h.of_arb (by simp) (by simp)

theorem Lawful.lockoutBeat (h : Lawful s) (n : LineId) : Lawful (s.lockoutBeat n) :=
  h.of_arb (by simp) (by simp)

theorem Lawful.lineBeat (h : Lawful s) (lines : BitVec 16) (zoneFirst : Bool) (n : LineId) :
    Lawful (s.lineBeat lines zoneFirst n) := by
  unfold State.lineBeat
  dsimp only
  (repeat' split)
  · exact h
  · exact h.acceptLine _ _ _
  · exact (h.acceptLine _ _ _).lockoutBeat n
  · exact ((h.onLine _ _).heldBeat n).lockoutBeat n

theorem Lawful.acceptStop (h : Lawful s) (active : Bool) : Lawful (s.acceptStop active) := by
  have taken : Lawful (s.onIou fun x => { x with stopAccepted := active, stopDebounce := 0 }) := h.of_arb rfl rfl
  unfold State.acceptStop
  dsimp only
  split <;> [exact taken.stopShow; exact taken]

theorem Lawful.stopLineBeat (h : Lawful s) (active : Bool) : Lawful (s.stopLineBeat active) := by
  unfold State.stopLineBeat
  split <;> [exact h.acceptStop _; exact h.of_arb rfl rfl]

theorem Lawful.zoneBeat (h : Lawful s) (before : State) (lines : BitVec 16) (z : ZoneId) :
    Lawful (State.zoneBeat before lines z s) := by
  unfold State.zoneBeat
  dsimp only
  split <;> [exact (h.judgeZone z).lingerBeat z; exact h.judgeZone z]

/-- The lines and the zones take a beat. -/
def State.lineAndZoneBeats (b : BeatIn) (s : State) : State :=
  forEach 4 (State.zoneBeat s b.lines) (forEach 16 (State.lineBeat b.lines b.zoneFirst) s)

/-- The IOU's beat, with the show-stop line before the lines or after the zones. -/
theorem State.iouBeat_eq (b : BeatIn) (s : State) : s.iouBeat b =
    if b.stopFirst then (s.stopLineBeat b.stopActive).lineAndZoneBeats b
    else (s.lineAndZoneBeats b).stopLineBeat b.stopActive := by
  unfold State.iouBeat State.lineAndZoneBeats
  dsimp only
  split <;> rfl

theorem Lawful.lineAndZoneBeats (h : Lawful s) (b : BeatIn) : Lawful (s.lineAndZoneBeats b) :=
  forEach_inv (P := Lawful) (fun z _ ha => Lawful.zoneBeat ha _ _ z) _
    (forEach_inv (P := Lawful) (fun n _ ha => ha.lineBeat _ _ n) _ h)

theorem Lawful.iouBeat (h : Lawful s) (b : BeatIn) : Lawful (s.iouBeat b) := by
  rw [State.iouBeat_eq]
  split
  · exact Lawful.lineAndZoneBeats (h.stopLineBeat _) b
  · exact Lawful.stopLineBeat (h.lineAndZoneBeats b) _

/-! ### The clock and the table store (R156 to R161, R182) -/

theorem Lawful.alarmAction (h : Lawful s) (n : AlarmId) (flagsFirst raced : Bool) (a : AlarmAction) :
    Lawful (s.alarmAction n flagsFirst raced a) := by
  unfold State.alarmAction
  split
  · split <;> [exact h; exact h.request ..]
  · exact h.changeMode _ _
  · exact h.of_arb (by simp) (by simp)
  · exact h.of_arb (by simp) (by simp)

theorem ShowLawBut.raiseAlarm {pend : SlotId → Option Claims} (h : ShowLawBut pend s) (n : AlarmId) :
    ShowLawBut pend (s.raiseAlarm n) := h.of_arb (by simp) (by simp)

theorem Lawful.evaluateAlarm (h : Lawful s) (flagsFirst raced : Bool) (n : AlarmId) :
    Lawful (s.evaluateAlarm flagsFirst raced n) := by
  have judged : Lawful (s.onSck fun k => { k with
      alarms := k.alarms.set n (evalAlarm s.mu.tables.alrm[n] s.sck.cal s.sck.alarms[n]) }) := h.of_arb rfl rfl
  unfold State.evaluateAlarm
  dsimp only
  (repeat' split)
  · exact Lawful.alarmAction (judged.raiseAlarm n) ..
  · exact judged
  · exact judged

theorem Lawful.sckBeat (h : Lawful s) (flagsFirst raced : Bool) : Lawful (s.sckBeat flagsFirst raced) := by
  unfold State.sckBeat
  dsimp only
  apply ShowLawBut.onSck
  split
  · exact forEach_inv (P := Lawful) (fun n _ ha => ha.evaluateAlarm _ _ n) _ (h.onSck _)
  · exact h.onSck _

theorem Lawful.linesLoaded (h : Lawful s) (old : Vector LineRec 16) : Lawful (s.linesLoaded old) := by
  unfold State.linesLoaded
  dsimp only
  refine (forEach_inv (P := Lawful) (fun z a ha => ?_) _ (h.onIou _)).judgeIndicators
  split <;> [exact ha.judgeZone z; exact ha]

theorem Lawful.afterLoad (h : Lawful s) (l : Load) (old : Tables) : Lawful (s.afterLoad l old) := by
  unfold State.afterLoad
  dsimp only
  split
  · exact h.of_arb (by simp) (by simp)
  · exact forEach_inv (P := Lawful) (fun a _ ha => by split <;> [exact ha.of_arb (by simp) (by simp); exact ha]) _ h
  · exact h.linesLoaded _
  · exact h.of_arb (by simp) (by simp)
  · exact h.of_arb (by simp) (by simp)
  · exact h

theorem ShowLawBut.reply {pend : SlotId → Option Claims} (h : ShowLawBut pend s) (code : Byte) (st : Status) (tag : Half)
    (fields : List Byte) : ShowLawBut pend (s.reply code st tag fields) := h.of_arb (by simp) (by simp)

theorem Lawful.completeLoad (h : Lawful s) (l : Load) : Lawful (s.completeLoad l) := by
  have idle : ∀ {t : State} (f), Lawful t → Lawful (t.onMu f) := fun f ht => ht.of_arb rfl rfl
  unfold State.completeLoad
  dsimp only
  (repeat' split)
  · exact (idle _ h).reply ..
  · exact (idle _ h).reply ..
  · exact (Lawful.afterLoad (idle _ (idle _ h)) _ _).reply ..

theorem Lawful.muBeat (h : Lawful s) : Lawful s.muBeat := by
  unfold State.muBeat
  (repeat' split)
  · exact h.completeLoad _
  · exact h.of_arb rfl rfl
  · exact h
  · exact h

/-! ### The beat and the link -/

theorem Lawful.blockBeat (h : Lawful s) (b : BeatIn) (k : Block) : Lawful (s.blockBeat b k) := by
  cases k with
  | sli => exact h.of_arb (by simp [State.blockBeat]) (by simp [State.blockBeat])
  | mu => exact h.muBeat
  | sck => exact h.sckBeat _ _
  | iou => exact h.iouBeat b
  | arb => exact h.arbBeat
  | seq => exact h.seqBeat
  | lco => exact h.of_arb (by simp [State.blockBeat]) (by simp [State.blockBeat])
  | nmx => exact h.of_arb (by simp [State.blockBeat]) (by simp [State.blockBeat])
  | mgt => exact h.of_arb (by simp [State.blockBeat]) (by simp [State.blockBeat])
  | port z => exact h.of_arb (by simp [State.blockBeat]) (by simp [State.blockBeat])

theorem Lawful.beat (h : Lawful s) (b : BeatIn) : Lawful (s.beat b) := by
  unfold State.beat
  induction fullOrder b.order generalizing s with
  | nil => exact h
  | cons k ks ih => exact ih (h.blockBeat b k)

theorem Lawful.syncArrival (h : Lawful s) (b : BeatIn) : Lawful (s.syncArrival b) := by
  unfold State.syncArrival
  dsimp only
  split <;> [exact Lawful.beat (h.onSck _) b; exact h.onSck _]

/-- A soft reset leaves no request, no owner and no PLAYING slot. -/
theorem Lawful.softReset (stop : Bool) (s : State) : Lawful (s.softReset stop) := by
  have slots : ∀ k, (s.softReset stop).play k = none := fun k => by
    obtain ⟨l, r, e⟩ : ∃ l r, ({} : Seq).slots[k] = .free l r := ⟨none, .reset, by simp⟩
    refine State.play_eq_none.mpr ⟨l, r, State.slot_of_bare ?_⟩
    simp only [State.softReset, State.renewIndicators_frame, State.judgeAxes_bare]
    rw [Seq.bare, e, Slot.bare]
  exact Lawful.of_empty (by simp [State.softReset, Arb.softReset]) (by simp [State.softReset, Arb.softReset]) slots

/-- A full reset leaves no request, no owner and no PLAYING slot. -/
theorem Lawful.fullReset (pins : BitVec 4) (stop : Bool) (s : State) : Lawful (s.fullReset pins stop) := by
  refine Lawful.of_empty rfl (by simp [State.fullReset, State.afterFullReset]) fun k => ?_
  exact State.play_eq_none.mpr ⟨none, .reset, by simp [State.fullReset, State.afterFullReset]⟩

theorem ShowLawBut.cueDeparted {pend : SlotId → Option Claims} (h : ShowLawBut pend s) (i : CueInfo) :
    ShowLawBut pend (s.cueDeparted i) := h.of_arb (by simp) (by simp)

theorem ShowLawBut.afterImage {pend : SlotId → Option Claims} (h : ShowLawBut pend s) :
    ShowLawBut pend s.afterImage := h.of_arb rfl rfl

theorem Lawful.sendReport (h : Lawful s) (stop : Bool) (r : Report) (rest : List Report) :
    Lawful (s.sendReport stop r rest) := by
  unfold State.sendReport
  dsimp only
  generalize Sli.departed _ rest = f
  unfold State.afterDeparture
  dsimp only
  (repeat' split)
  · exact (h.onSli f).afterImage.onSli _
  · exact (h.onSli f).afterImage
  · exact (h.onSli f).cueDeparted _
  · exact h.onSli f
  · exact Lawful.softReset _ _
  · exact h.onSli f

theorem Lawful.inNext (h : Lawful s) (stop : Bool) : Lawful (s.inNext stop) := by
  unfold State.inNext
  (repeat' split)
  · exact h.sendReport ..
  · exact h
  · exact h.onSli _
  · exact h.onSli _

theorem Lawful.receive (h : Lawful s) (f : Frame) {act : State → State} (keeps : ∀ {t}, Lawful t → Lawful (act t)) :
    Lawful (s.receive f act) := by
  have taken : Lawful (s.onSli fun x => { x with lastTaken := f.seq }) := h.of_arb rfl rfl
  unfold State.receive
  dsimp only
  (repeat' split)
  · exact (keeps taken).of_arb (by simp) (by simp)
  · exact taken.of_arb (by simp) (by simp)
  · exact keeps taken
  · exact taken.of_arb (by simp) (by simp)
  · exact h.of_arb (by simp) (by simp)

theorem Lawful.command (h : Lawful s) (code : Byte) (c : Cmd) (form range : Bool)
    {run : State → Option Result × State} (keeps : ∀ {t}, Lawful t → Lawful (run t).2) :
    Lawful (s.command code c form range run) := by
  refine h.receive _ fun {t} ht => ?_
  unfold State.judgeCommand State.answer
  (repeat' split) <;>
    [exact keeps ht; exact ht; exact ht.reply ..; exact ht.reply ..; exact ht.reply ..; exact (keeps ht).reply ..;
      exact keeps ht]

end Sys2Proof.Machine
end

section
/-! PROOF. Every step keeps the law of the claim table, the slots and the request queue (O5). -/

namespace Sys2Proof.Machine

variable {s t : State}

/-- The conditional that a row of an event takes: due or not. -/
theorem Lawful.ite {c : Prop} [Decidable c] (h : Lawful s) (ht : Lawful t) : Lawful (if c then t else s) := by
  split <;> assumption

/-- An execution that only changes the state keeps the law when the change does. -/
theorem Lawful.command_doneBy (h : Lawful s) (code : Byte) (c : Cmd) (form range : Bool) {f : State → State}
    (keeps : ∀ {t}, Lawful t → Lawful (f t)) : Lawful (s.command code c form range (doneBy f)) :=
  h.command code c form range fun ht => keeps ht

/-- An execution that leaves the ARB's part and the slots but for marks keeps the law. -/
theorem Lawful.command_arb (h : Lawful s) (code : Byte) (c : Cmd) (form range : Bool) {run : State → Option Result × State}
    (arb : ∀ t, (run t).2.arb = t.arb) (slots : ∀ t, (run t).2.seq.bare = t.seq.bare) :
    Lawful (s.command code c form range run) :=
  h.command code c form range fun ht => ht.of_arb (arb _) (slots _)

/-- Every command keeps the law. -/
theorem Lawful.exec (h : Lawful s) (i : Instr) : ∀ t, exec i s = .next t → Lawful t := by
  suffices kept : ∃ t, Machine.exec i s = .next t ∧ Lawful t by
    obtain ⟨u, e, hu⟩ := kept
    intro t ht
    obtain rfl : u = t := by simpa [e] using ht
    exact hu
  cases i with
  | fullReset pins stop => exact ⟨_, rfl, .fullReset ..⟩
  | softReset stop => exact ⟨_, rfl, h.ite (h.inNext stop)⟩
  | trimmedIntervalEnd b => exact ⟨_, rfl, h.ite (Lawful.beat (h.onSck _) b)⟩
  | syncFrame f b => exact ⟨_, rfl, h.receive _ fun ht => Lawful.syncArrival ht b⟩
  | selfMadeBeat b => exact ⟨_, rfl, Lawful.ite (Lawful.beat (h.onSck _) b) h⟩
  | lightFrame f => exact ⟨_, rfl, h.receive _ fun ht => ht.of_arb (by simp) (by simp)⟩
  | soundFrame f => exact ⟨_, rfl, h.receive _ fun ht => ht.of_arb (by simp) (by simp)⟩
  | motionFrame f => exact ⟨_, rfl, h.receive _ fun ht => ht.of_arb (by simp) (by simp)⟩
  | triggerFrame f => exact ⟨_, rfl, h.receive _ fun ht => Lawful.triggerArrival ht _⟩
  | thruFrame f => exact ⟨_, rfl, h.of_arb (by simp) (by simp)⟩
  | inTransmitNext stop => exact ⟨_, rfl, h.inNext stop⟩
  | thruTransmitNext => exact ⟨_, rfl, h.of_arb (by simp) (by simp)⟩
  | zbusTransmitNext z => exact ⟨_, rfl, h.of_arb (by simp) (by simp)⟩
  | fixtureReply z bytes =>
    simp only [Machine.exec, execFixtureReply]
    split
    · exact ⟨_, rfl, h.of_arb (by simp) (by simp)⟩
    · exact ⟨_, rfl, h⟩
  | announcement z bytes =>
    simp only [Machine.exec, execAnnouncement]
    split
    · exact ⟨_, rfl, h.of_arb (by simp) (by simp)⟩
    · exact ⟨_, rfl, h⟩
  | motionPowerFault z => exact ⟨_, rfl, Lawful.ite (h.of_arb (by simp) (by simp)) h⟩
  | powerHoldoffExpiry z => exact ⟨_, rfl, h.ite (h.of_arb (by simp) (by simp))⟩
  | showstopLineChange active => exact ⟨_, rfl, h.ite (h.acceptStop active)⟩
  | lineAcceptedChange n high zoneFirst =>
    exact ⟨_, rfl, h.ite (Lawful.judgeLineZone (h.acceptLine n high zoneFirst) n)⟩
  | lockoutExpiry n => exact ⟨_, rfl, h.ite (h.lockoutBeat n)⟩
  | buttonStuck n => exact ⟨_, rfl, h.ite (h.heldBeat n)⟩
  | presenceStuck n => exact ⟨_, rfl, h.ite (h.heldBeat n)⟩
  | lingerExpiry z => exact ⟨_, rfl, h.ite (h.lingerBeat z)⟩
  | waitDeadlineExpiry => exact ⟨_, rfl, h.expire 1⟩
  | playEnd k => exact ⟨_, rfl, h.ite (h.slotBeat k)⟩
  | segmentBegin k => exact ⟨_, rfl, h.ite (h.slotBeat k)⟩
  | fadeComplete c => exact ⟨_, rfl, h.ite (h.of_arb (by simp) (by simp))⟩
  | effectPeriodWrap k => exact ⟨_, rfl, h.ite (h.of_arb (by simp) (by simp))⟩
  | cueWaitExpiry k => exact ⟨_, rfl, h.ite (h.of_arb (by simp) (by simp))⟩
  | rearmExpiry a => exact ⟨_, rfl, h.ite (h.of_arb (by simp) (by simp))⟩
  | statusInterval => exact ⟨_, rfl, h.ite (h.of_arb (by simp) (by simp))⟩
  | sourceStale src => exact ⟨_, rfl, h.ite (h.of_arb (by simp) (by simp))⟩
  | loadComplete =>
    simp only [Machine.exec, execLoadComplete]
    split
    · exact ⟨_, rfl, h.ite (h.completeLoad _)⟩
    · exact ⟨_, rfl, h⟩
    · exact ⟨_, rfl, h⟩
  | loadTable c =>
    refine ⟨_, rfl, h.command_arb _ _ _ _ (fun t => ?_) fun t => ?_⟩ <;>
      (unfold State.runLoad; dsimp only; (repeat' split) <;> simp)
  | readTable c =>
    refine ⟨_, rfl, h.command_arb _ _ _ _ (fun t => ?_) fun t => ?_⟩ <;>
      (unfold State.runRead; dsimp only; split <;> simp)
  | readStatus c => exact ⟨_, rfl, h.command_arb _ _ _ _ (fun _ => rfl) fun _ => rfl⟩
  | readCensus c => exact ⟨_, rfl, h.command_arb _ _ _ _ (fun _ => rfl) fun _ => rfl⟩
  | censusSweep c => exact ⟨_, rfl, h.command_arb _ _ _ _ (fun _ => rfl) fun _ => rfl⟩
  | setTime c => exact ⟨_, rfl, h.command_arb _ _ _ _ (fun _ => rfl) fun _ => rfl⟩
  | readTime c => exact ⟨_, rfl, h.command_arb _ _ _ _ (fun _ => rfl) fun _ => rfl⟩
  | setTrim c => exact ⟨_, rfl, h.command_arb _ _ _ _ (fun _ => rfl) fun _ => rfl⟩
  | setBeatSource c b =>
    refine ⟨_, rfl, h.command _ _ _ _ fun {t} ht => ?_⟩
    unfold State.runSource
    dsimp only
    exact Lawful.ite ((ht.onSck _).reply ..) (Lawful.beat ((ht.onSck _).reply ..) b)
  | setHouseMode c flagsFirst => exact ⟨_, rfl, h.command_doneBy _ _ _ _ fun ht => ht.changeMode _ _⟩
  | startScene c => exact ⟨_, rfl, h.command _ _ _ _ fun ht => ht.request ..⟩
  | stopSceneByScene c =>
    refine ⟨_, rfl, h.command _ _ _ _ fun {t} ht => ?_⟩
    unfold State.runStopScene State.stopScene
    (repeat' split) <;> dsimp only <;> [exact ht.endAndWalk rfl _; exact (ht.departAll _ _).walk; exact ht]
  | stopSceneBySlot c =>
    refine ⟨_, rfl, h.command _ _ _ _ fun {t} ht => ?_⟩
    unfold State.runStopSlot State.stopSlot
    split <;> dsimp only <;> [exact ht.endAndWalk rfl _; exact ht]
  | stopShow c => exact ⟨_, rfl, h.command_doneBy _ _ _ _ fun ht => ht.stopShow⟩
  | resumeShow c => exact ⟨_, rfl, h.command _ _ _ _ fun ht => ht.resume⟩
  | setFlags c => exact ⟨_, rfl, h.command_arb _ _ _ _ (fun _ => rfl) fun _ => rfl⟩
  | clearFlags c => exact ⟨_, rfl, h.command_arb _ _ _ _ (fun _ => rfl) fun _ => rfl⟩
  | readFlags c => exact ⟨_, rfl, h.command_arb _ _ _ _ (fun _ => rfl) fun _ => rfl⟩
  | fireTrigger c => exact ⟨_, rfl, h.command _ _ _ _ fun ht => Lawful.fire ht _ _⟩
  | clearNotices c => exact ⟨_, rfl, h.command_arb _ _ _ _ (fun _ => rfl) fun _ => rfl⟩
  | reset c stop =>
    refine ⟨_, rfl, h.command _ _ _ _ fun {t} ht => ?_⟩
    unfold State.runReset
    dsimp only
    split
    · exact (ht.onMu _).reply ..
    · exact Lawful.softReset ..
  | unknownCommand code c => exact ⟨_, rfl, h.command_arb _ _ _ _ (fun _ => rfl) fun _ => rfl⟩
  | downstreamFramePassedOn f => exact ⟨_, rfl, Lawful.ite (h.of_arb (by simp) (by simp)) h⟩
  | badFrame side bytes => exact ⟨_, rfl, h.of_arb (by simp) (by simp)⟩
  | formatFault f => exact ⟨_, rfl, h.ite (h.receive _ fun ht => ht)⟩

/-- Settles O5: while the ARB has not taken every release the weaker law `ShowLawBut` holds, which each operation keeps;
between the steps no release is outstanding. -/
theorem showLawKept : Obligations.ShowLawKept := by
  intro s t h step
  have lawful : Lawful s := showLawBut_none_iff.mpr h
  have dequeued : ∀ rest, Lawful { s with pending := rest } := fun _ => lawful.of_arb rfl rfl
  refine showLawBut_none_iff.mp ?_
  unfold Machine.step at step
  split at step
  · exact Lawful.exec (dequeued _) _ t step
  · obtain rfl : s.onSck Sck.tick = t := by simpa using step
    exact lawful.onSck _

end Sys2Proof.Machine
end

section
/-! PROOF. The values after a full reset (O7), and the story-flag commands (O56). -/

namespace Sys2Proof.Machine

/-- Settles O7: the state after a full reset, read field by field. -/
theorem fullResetValues : Obligations.FullResetValues := by
  intro pins stop s
  refine ⟨s.fullReset pins stop, rfl, rfl, rfl, rfl, rfl, rfl, rfl, rfl, rfl, fun a => ?_, rfl, rfl, rfl, fun n => ?_,
    rfl, rfl, rfl, rfl, rfl, rfl, fun c => ?_, rfl, rfl, rfl, rfl, fun a => ?_, rfl, rfl, rfl, fun z => ?_⟩ <;>
  exact Vector.getElem_replicate ..

/-! ### Story flags -/

/-- A member of a set of 8 n members, read from its byte. -/
theorem getLsbD_uN (bs : List Byte) (o n i : Nat) (h : i < 8 * n) :
    (uN bs o n).testBit i = (byteAt bs (o + i / 8)).getLsbD (i % 8) := by
  induction n generalizing o i with
  | zero => omega
  | succ n ih =>
    have low : u8 bs o < 2 ^ 8 := (byteAt bs o).isLt
    rw [uN, show u8 bs o + 256 * uN bs (o + 1) n = 2 ^ 8 * uN bs (o + 1) n + u8 bs o by ring,
      Nat.testBit_two_pow_mul_add _ low]
    split
    · next small => rw [Nat.div_eq_of_lt small, Nat.mod_eq_of_lt small]; rfl
    · next large =>
      rw [ih (o + 1) (i - 8) (by omega), show o + 1 + (i - 8) / 8 = o + i / 8 by omega,
        show (i - 8) % 8 = i % 8 by omega]

/-- A flag of a set of 32 flags in four bytes. -/
theorem getLsbD_setAt_flags (bs : List Byte) (f : Fin 32) :
    (setAt 32 bs 0 4).getLsbD f = (byteAt bs (f.val / 8)).getLsbD (f.val % 8) := by
  rw [setAt, BitVec.getLsbD_ofNat, getLsbD_uN bs 0 4 f (by omega)]
  simp

/-- Settles O56: the set of the command is read bit for bit. -/
theorem flagCommands : Obligations.FlagCommands := by
  intro c s hears len
  refine ⟨⟨s.seq.flags ||| setAt 32 c.fields 0 4, ?_, fun f => ?_⟩,
    s.seq.flags &&& ~~~setAt 32 c.fields 0 4, ?_, fun f => ?_⟩
  · simp only [exec, execSetFlags, len, beq_self_eq_true, State.command_run hears]
    rfl
  · rw [BitVec.getLsbD_or, getLsbD_setAt_flags]
  · simp only [exec, execClearFlags, len, beq_self_eq_true, State.command_run hears]
    rfl
  · rw [BitVec.getLsbD_and, BitVec.getLsbD_not, getLsbD_setAt_flags]
    simp

end Sys2Proof.Machine
end

section
/-! SUPPORT. Judging every axis and every indicator: what each becomes and what stays (R35, R112). -/

namespace Sys2Proof.Machine

variable {s t : State}

/-- A part of an index that its own turn alone writes, from what no other turn changes, is as that turn leaves it, where
every turn keeps a condition. -/
theorem forEach_at_of {α β : Type} {n : Nat} {f : Fin n → α → α} {i : Fin n} {view g : α → β} {P : α → Prop}
    (keep : ∀ j a, P a → P (f j a)) (other : ∀ j a, P a → j ≠ i → view (f j a) = view a)
    (same : ∀ a, P a → view (f i a) = g a) (stable : ∀ j a, P a → j ≠ i → g (f j a) = g a) (a : α) (ha : P a) :
    view (forEach n f a) = g a := by
  suffices h : ∀ (l : List (Fin n)), l.Nodup → ∀ a, P a →
      view (l.foldl (fun a j => f j a) a) = if i ∈ l then g a else view a by
    rw [forEach, h _ (List.nodup_finRange n) a ha]
    simp
  intro l
  induction l with
  | nil => intros; simp
  | cons j js ih =>
    intro nodup a ha
    obtain ⟨notIn, rest⟩ := List.nodup_cons.mp nodup
    rw [List.foldl_cons, ih rest _ (keep j a ha)]
    by_cases e : i = j
    · subst e
      simp [notIn, same a ha]
    · simp [e, other j a ha (Ne.symm e), stable j a ha (Ne.symm e)]

/-! ### The modes of the axes -/

theorem State.onAxis_axes (a b : AxisId) (f : Axis → Axis) (s : State) :
    (s.onAxis a f).mgt.axes[b] = if b = a then f s.mgt.axes[a] else s.mgt.axes[b] := by
  split
  · next e => subst e; exact modifyAt_same ..
  · next e => exact modifyAt_other _ e f

/-- What the modes of the axes are judged from, beside the axes' own records. -/
structure SameInputs (s t : State) : Prop where
  env : t.mu.tables.env = s.mu.tables.env
  owners : t.arb.owners = s.arb.owners
  sources : t.sli.sources = s.sli.sources
  power : t.mgt.powerFault = s.mgt.powerFault
  stopped : t.mgt.showStopped = s.mgt.showStopped

/-- The mode that R112 gives a record, from the inputs of its axis. -/
def judgedMode (e : EnvRec) (fault stopped unowned fresh : Bool) (x : Axis) : AxisMode :=
  if !e.enable then .disabledNoEnvelope
  else if x.present && !inRange e x.pos then .disabledOutOfRange
  else if fault then .offlinePower
  else if !x.present then .offlineCensus
  else if x.guarded then .guarded
  else if stopped || x.resetHold || (unowned && (!fresh || x.setpoint == Config.motionHold)) then .holding
  else .tracking

theorem State.modeOf_eq (s : State) (a : AxisId) : s.modeOf a =
    judgedMode s.mu.tables.env[a] (s.mgt.powerFault.getLsbD (axisZone a)) s.mgt.showStopped
      (s.axisOwner a).isNone (s.isFresh (.setpoint a)) s.mgt.axes[a] := rfl

/-- The mode of a record is judged from its presence, position, guard, hold and setpoint alone. -/
theorem judgedMode_congr {x y : Axis} (present : y.present = x.present) (pos : y.pos = x.pos)
    (guarded : y.guarded = x.guarded) (hold : y.resetHold = x.resetHold) (setpoint : y.setpoint = x.setpoint)
    (e : EnvRec) (fault stopped unowned fresh : Bool) :
    judgedMode e fault stopped unowned fresh y = judgedMode e fault stopped unowned fresh x := by
  simp only [judgedMode, present, pos, guarded, hold, setpoint]

/-- A record that has entered its mode is judged the same again. -/
theorem judgedMode_enter (e : EnvRec) (fault stopped unowned fresh : Bool) (x : Axis) :
    judgedMode e fault stopped unowned fresh (Axis.enter (judgedMode e fault stopped unowned fresh x) x) =
      judgedMode e fault stopped unowned fresh x := by
  cases h : (judgedMode e fault stopped unowned fresh x).isSending with
  | true => simp only [Axis.enter, h, if_true]; exact judgedMode_congr rfl rfl rfl rfl rfl ..
  | false =>
    have stays : ∀ m, judgedMode e fault stopped unowned fresh x = m → m.isSending = false →
        judgedMode e fault stopped unowned fresh { x with mode := m, step := 0, resetHold := false } = m := by
      intro m hm hs
      unfold judgedMode at hm ⊢
      dsimp only
      by_cases c₁ : (!e.enable) = true
      · rwa [if_pos c₁] at hm ⊢
      rw [if_neg c₁] at hm ⊢
      by_cases c₂ : (x.present && !inRange e x.pos) = true
      · rwa [if_pos c₂] at hm ⊢
      rw [if_neg c₂] at hm ⊢
      by_cases c₃ : fault = true
      · rwa [if_pos c₃] at hm ⊢
      rw [if_neg c₃] at hm ⊢
      by_cases c₄ : (!x.present) = true
      · rwa [if_pos c₄] at hm ⊢
      rw [if_neg c₄] at hm ⊢
      by_cases c₅ : x.guarded = true
      · rwa [if_pos c₅] at hm ⊢
      rw [if_neg c₅] at hm
      split at hm <;> subst hm <;> exact absurd hs (by decide)
    have he : Axis.enter (judgedMode e fault stopped unowned fresh x) x =
        { x with mode := judgedMode e fault stopped unowned fresh x, step := 0, resetHold := false } := by
      rw [Axis.enter, h]
      rfl
    rw [he]
    exact stays _ rfl h

/-- The mode of an axis is judged from its record and from the inputs of all modes. -/
theorem SameInputs.modeOf_judged (h : SameInputs s t) (a : AxisId) : t.modeOf a =
    judgedMode s.mu.tables.env[a] (s.mgt.powerFault.getLsbD (axisZone a)) s.mgt.showStopped
      (s.axisOwner a).isNone (s.isFresh (.setpoint a)) t.mgt.axes[a] := by
  rw [State.modeOf_eq, State.axisOwner, State.isFresh, h.env, h.owners, h.sources, h.power, h.stopped]
  rfl

/-- An axis whose record is the same is judged the same. -/
theorem SameInputs.modeOf (h : SameInputs s t) {a : AxisId} (e : t.mgt.axes[a] = s.mgt.axes[a]) :
    t.modeOf a = s.modeOf a := by
  rw [h.modeOf_judged, e, State.modeOf_eq]

/-- A judged axis is judged the same again. -/
theorem SameInputs.modeOf_entered (h : SameInputs s t) {a : AxisId}
    (e : t.mgt.axes[a] = Axis.enter (s.modeOf a) s.mgt.axes[a]) : t.modeOf a = s.modeOf a := by
  rw [h.modeOf_judged, e, State.modeOf_eq, judgedMode_enter]

@[simp] theorem State.judgeAxis_mgt (a : AxisId) :
    (s.judgeAxis a).mgt = (s.onAxis a (Axis.enter (s.modeOf a))).mgt := by
  unfold State.judgeAxis
  dsimp only
  (repeat' split) <;> simp

theorem State.judgeAxis_axes (a b : AxisId) (s : State) :
    (s.judgeAxis a).mgt.axes[b] = if b = a then Axis.enter (s.modeOf a) s.mgt.axes[a] else s.mgt.axes[b] := by
  rw [State.judgeAxis_mgt, State.onAxis_axes]

/-- Judging one axis leaves the inputs of every mode. -/
theorem State.judgeAxis_inputs (a : AxisId) (s : State) : SameInputs s (s.judgeAxis a) :=
  ⟨by simp, by simp, by simp, by simp [State.onAxis], by simp [State.onAxis]⟩

/-- Every axis has entered the mode that R112 gives it. -/
theorem State.judgeAxes_axes (a : AxisId) (s : State) :
    s.judgeAxes.mgt.axes[a] = Axis.enter (s.modeOf a) s.mgt.axes[a] := by
  unfold State.judgeAxes
  refine forEach_at (f := State.judgeAxis) (i := a) (view := fun s : State => s.mgt.axes[a]) (g := fun s => Axis.enter (s.modeOf a) s.mgt.axes[a])
    (fun b s ne => ?_) (fun s => ?_) (fun b s ne => ?_) s
  · rw [State.judgeAxis_axes, if_neg (Ne.symm ne)]
  · rw [State.judgeAxis_axes, if_pos rfl]
  · have same : (s.judgeAxis b).mgt.axes[a] = s.mgt.axes[a] := by rw [State.judgeAxis_axes, if_neg (Ne.symm ne)]
    simp only [(State.judgeAxis_inputs b s).modeOf same, same]

/-- Beside the axes, judging them leaves the MGT's part. -/
@[simp] theorem State.judgeAxes_mgt : s.judgeAxes.mgt.occ = s.mgt.occ ∧ s.judgeAxes.mgt.powerFault = s.mgt.powerFault ∧
    s.judgeAxes.mgt.showStopped = s.mgt.showStopped := by
  unfold State.judgeAxes
  exact ⟨forEach_same (f := State.judgeAxis) (g := fun s : State => s.mgt.occ) (fun _ _ => by simp [State.onAxis]) s,
    forEach_same (f := State.judgeAxis) (g := fun s : State => s.mgt.powerFault) (fun _ _ => by simp [State.onAxis]) s,
    forEach_same (f := State.judgeAxis) (g := fun s : State => s.mgt.showStopped) (fun _ _ => by simp [State.onAxis]) s⟩

/-- Judging the axes leaves the inputs of every mode. -/
theorem State.judgeAxes_inputs (s : State) : SameInputs s s.judgeAxes :=
  ⟨by simp, by simp, by simp, by simp, by simp⟩

/-- A judged axis is in the mode that R112 gives it. -/
theorem State.judgeAxes_modeOf (a : AxisId) (s : State) : s.judgeAxes.modeOf a = s.modeOf a :=
  (State.judgeAxes_inputs s).modeOf_entered (State.judgeAxes_axes a s)

/-- The record of an axis that has entered a mode. -/
theorem Axis.enter_eq (m : AxisMode) (x : Axis) : Axis.enter m x =
    { x with mode := m, step := if m.isSending then x.step else 0, resetHold := m.isSending && x.resetHold } := by
  cases h : m.isSending <;> simp [Axis.enter, h]

/-! ### The indicators -/

/-- The indicator that R35 gives an entry now. -/
def State.judged (s : State) (n : EntryId) : Option Indicator :=
  match s.mu.tables.trig[n] with
  | some t => if t.hasIndicator then some (s.indicatorOf n t) else none
  | none => none

/-- The level that judging an entry gives a channel: that of the entry's indicator, when the entry names the channel. -/
def State.judgedLevel (s : State) (n : EntryId) (c : ChannelId) : Option Nat :=
  match s.mu.tables.trig[n] with
  | some t => if t.hasIndicator ∧ t.channel = c.val then some (indicatorLevel t (s.indicatorOf n t)) else none
  | none => none

/-- What an entry's indicator is judged from. -/
structure SameView (s t : State) : Prop where
  trig : t.mu.tables.trig = s.mu.tables.trig
  stopped : t.iou.showStopped = s.iou.showStopped
  mode : t.iou.mode = s.iou.mode
  lines : t.iou.lines = s.iou.lines
  queue : t.arb.queue = s.arb.queue
  slots : t.seq.bare = s.seq.bare

theorem SameView.isBusy (h : SameView s t) (i : SceneId) : t.isBusy i = s.isBusy i := by
  rw [State.isBusy, State.isBusy, State.isPlaying_congr h.slots, State.isQueued, State.isQueued, h.queue]

theorem SameView.indicatorOf (h : SameView s t) (n : EntryId) (e : TrigRec) : t.indicatorOf n e = s.indicatorOf n e := by
  have lock : t.lockoutRuns n = s.lockoutRuns n := by simp only [State.lockoutRuns, h.lines]
  have alt : t.alternateBusy e = s.alternateBusy e := by simp only [State.alternateBusy, h.isBusy]
  simp only [State.indicatorOf, h.stopped, h.mode, h.isBusy, lock, alt]

theorem SameView.judged (h : SameView s t) (n : EntryId) : t.judged n = s.judged n := by
  simp only [State.judged, h.trig, h.indicatorOf]

theorem SameView.judgedLevel (h : SameView s t) (n : EntryId) (c : ChannelId) : t.judgedLevel n c = s.judgedLevel n c := by
  simp only [State.judgedLevel, h.trig, h.indicatorOf]

/-- Judging one indicator writes that indicator in the IOU. -/
theorem State.judgeIndicator_iou_eq (n : EntryId) (s : State) :
    (s.judgeIndicator n).iou = { s.iou with indicators := s.iou.indicators.set n (s.judged n) } := by
  unfold State.judgeIndicator State.judged
  dsimp only
  cases s.mu.tables.trig[n] with
  | none => rfl
  | some t => dsimp only; split <;> rfl

/-- Judging one indicator gives its level to the channel it names. -/
theorem State.judgeIndicator_channel (n : EntryId) (s : State) (c : ChannelId) :
    (s.judgeIndicator n).lco.channels[c] = { s.lco.channels[c] with
      indicator := (s.judgedLevel n c).or (s.lco.channels[c]).indicator } := by
  unfold State.judgeIndicator State.judgedLevel
  dsimp only
  cases s.mu.tables.trig[n] with
  | none => rfl
  | some t =>
    dsimp only
    cases t.hasIndicator with
    | false => simp
    | true =>
      simp only [if_true, true_and, State.onLco_lco, State.onIou_lco, Lco.setIndicator]
      by_cases e : t.channel = c.val
      · have : t.channel < 768 := e ▸ c.isLt
        obtain rfl : c = ⟨t.channel, this⟩ := Fin.ext e.symm
        simp [this, modifyAt]
      · rw [if_neg e]
        split
        · have ne : c ≠ ⟨t.channel, ‹_›⟩ := fun h => e (by rw [h])
          simpa using modifyAt_other s.lco.channels ne _
        · rfl

/-- Beside the channels, judging one indicator leaves the LCO's part. -/
theorem State.judgeIndicator_lco_rest (n : EntryId) (s : State) :
    { (s.judgeIndicator n).lco with channels := s.lco.channels } = s.lco := by
  unfold State.judgeIndicator Lco.setIndicator
  dsimp only
  (repeat' split) <;> rfl

/-- Judging one indicator leaves what the others are judged from. -/
theorem State.judgeIndicator_view (n : EntryId) (s : State) : SameView s (s.judgeIndicator n) :=
  ⟨by simp, by rw [State.judgeIndicator_iou_eq], by simp, by simp, by simp, by simp⟩

/-- Judging the indicators leaves what they are judged from. -/
theorem State.judgeIndicators_view (s : State) : SameView s s.judgeIndicators :=
  have stopped : s.judgeIndicators.iou.showStopped = s.iou.showStopped := by
    unfold State.judgeIndicators
    exact forEach_same (f := State.judgeIndicator) (g := fun s : State => s.iou.showStopped)
      (fun n s => by rw [State.judgeIndicator_iou_eq]) s
  ⟨by simp, stopped, by simp, by simp, by simp, by simp⟩

/-- Every indicator is as R35 judges it. -/
theorem State.judgeIndicators_indicators (n : EntryId) (s : State) :
    s.judgeIndicators.iou.indicators[n] = s.judged n := by
  unfold State.judgeIndicators
  refine forEach_at (f := State.judgeIndicator) (i := n) (view := fun s : State => s.iou.indicators[n]) (g := fun s => s.judged n) (fun m s ne => ?_)
    (fun s => ?_) (fun m s _ => (State.judgeIndicator_view m s).judged n) s
  · simp only [State.judgeIndicator_iou_eq, Fin.getElem_fin]
    exact Vector.getElem_set_ne _ _ (fun e => ne (Fin.ext e))
  · simp [State.judgeIndicator_iou_eq]

/-- Beside the indicators, judging them leaves the IOU's part. -/
theorem State.judgeIndicators_iou_rest (s : State) :
    { s.judgeIndicators.iou with indicators := s.iou.indicators } = s.iou := by
  have h := forEach_same (f := State.judgeIndicator)
    (g := fun t : State => { t.iou with indicators := s.iou.indicators })
    (fun n t => by rw [State.judgeIndicator_iou_eq]) s
  unfold State.judgeIndicators
  exact h

/-- Beside the channels, judging the indicators leaves the LCO's part. -/
theorem State.judgeIndicators_lco_rest (s : State) :
    { s.judgeIndicators.lco with channels := s.lco.channels } = s.lco := by
  have h := forEach_same (f := State.judgeIndicator)
    (g := fun t : State => { t.lco with channels := s.lco.channels })
    (fun n t => by
      have := State.judgeIndicator_lco_rest n t
      exact congrArg (fun x : Lco => { x with channels := s.lco.channels }) this) s
  unfold State.judgeIndicators
  exact h

/-- Two channels that agree beside their indicator level. -/
theorem Channel.eq_of_rest {x y : Channel} (h : { x with indicator := none } = { y with indicator := none }) :
    x = { y with indicator := x.indicator } := by
  cases x
  cases y
  simpa using h

/-- Beside its indicator level, judging the indicators leaves a channel. -/
theorem State.judgeIndicators_channel (c : ChannelId) (s : State) :
    s.judgeIndicators.lco.channels[c] = { s.lco.channels[c] with
      indicator := (s.judgeIndicators.lco.channels[c]).indicator } := by
  have h := forEach_same (f := State.judgeIndicator)
    (g := fun t : State => { t.lco.channels[c] with indicator := none })
    (fun n t => by rw [State.judgeIndicator_channel]) s
  have same : { s.judgeIndicators.lco.channels[c] with indicator := none } =
      { s.lco.channels[c] with indicator := none } := by
    unfold State.judgeIndicators
    exact h
  exact Channel.eq_of_rest same

/-- A channel that no entry with an indicator names keeps its level. -/
theorem State.judgeIndicators_unnamed {c : ChannelId} (h : unnamedChannel s c) :
    s.judgeIndicators.lco.channels[c] = s.lco.channels[c] := by
  unfold State.judgeIndicators
  refine forEach_same_of (f := State.judgeIndicator) (P := fun t : State => t.mu = s.mu) (g := fun t : State => t.lco.channels[c])
    (fun n t ht => by simp [ht]) (fun n t ht => ?_) s rfl
  have : t.judgedLevel n c = none := by
    unfold State.judgedLevel
    rw [ht]
    cases e : s.mu.tables.trig[n] with
    | none => rfl
    | some d =>
      dsimp only
      rw [if_neg]
      rintro ⟨hi, hc⟩
      exact h n d e hi hc
  rw [State.judgeIndicator_channel, this, Option.none_or]

/-- A channel that one entry alone names has the level of its indicator. -/
theorem State.judgeIndicators_named {c : ChannelId} {n : EntryId} {e : TrigRec} (hn : s.mu.tables.trig[n] = some e)
    (hi : e.hasIndicator = true) (hc : e.channel = c.val)
    (alone : ∀ (m : EntryId) (d : TrigRec), m ≠ n → s.mu.tables.trig[m] = some d → d.hasIndicator = true →
      d.channel ≠ c.val) :
    (s.judgeIndicators.lco.channels[c]).indicator = some (indicatorLevel e (s.indicatorOf n e)) := by
  unfold State.judgeIndicators
  refine forEach_at_of (f := State.judgeIndicator) (i := n) (P := fun t : State => t.mu = s.mu)
    (view := fun t : State => (t.lco.channels[c]).indicator)
    (g := fun t => some (indicatorLevel e (t.indicatorOf n e))) (fun m t ht => by simp [ht]) (fun m t ht ne => ?_)
    (fun t ht => ?_) (fun m t ht _ => by rw [(State.judgeIndicator_view m t).indicatorOf]) s rfl
  · have : t.judgedLevel m c = none := by
      unfold State.judgedLevel
      rw [ht]
      cases em : s.mu.tables.trig[m] with
      | none => rfl
      | some d =>
        dsimp only
        rw [if_neg]
        rintro ⟨hd, hdc⟩
        exact alone m d ne em hd hdc
    rw [State.judgeIndicator_channel, this, Option.none_or]
  · have : t.judgedLevel n c = some (indicatorLevel e (t.indicatorOf n e)) := by
      simp [State.judgedLevel, ht, hn, hi, hc]
    rw [State.judgeIndicator_channel, this, Option.some_or]

/-- R32 bars a firing as the model judges it. -/
theorem fireBarred_iff {n : EntryId} :
    fireBarred s n ↔ (s.iou.showStopped || !modeAccepts n s.iou.mode) = true := by
  unfold fireBarred modeAccepts entryLine
  by_cases h : n.val < 16
  · simp only [h, dif_pos, true_and]
    simp [Nat.not_le.mpr h]
  · simp only [h, dif_neg, not_false_eq_true, false_and, false_or]
    simp [Nat.not_lt.mp h]

/-- R35's BUSY as the model judges it. -/
theorem entryBusy_iff {n : EntryId} {e : TrigRec} :
    entryBusy s n e ↔ (s.isBusy e.scene || s.alternateBusy e || s.lockoutRuns n) = true := by
  have alt : s.alternateBusy e = true ↔ ∃ a, e.alternate = some a ∧ s.isBusy a = true := by
    unfold State.alternateBusy
    cases e.alternate <;> simp
  have lock : s.lockoutRuns n = true ↔ ∃ h : n.val < 16, 0 < (s.iou.lines[(⟨n.val, h⟩ : LineId)]).lockout := by
    unfold State.lockoutRuns entryLine
    by_cases h : n.val < 16 <;> simp [h]
  rw [entryBusy, Bool.or_eq_true, Bool.or_eq_true, alt, lock, or_assoc]

/-- After every indicator was judged, each is as R35 has it and its channel carries its level. -/
theorem State.judgeIndicators_judged (s : State) : IndicatorsJudged s.judgeIndicators := by
  have view := State.judgeIndicators_view s
  have barred : ∀ n, fireBarred s.judgeIndicators n ↔ fireBarred s n := fun n => by
    rw [fireBarred_iff, fireBarred_iff, view.stopped, view.mode]
  have busy : ∀ n e, entryBusy s.judgeIndicators n e ↔ entryBusy s n e := fun n e => by
    rw [entryBusy_iff, entryBusy_iff, view.isBusy, State.alternateBusy, State.alternateBusy, State.lockoutRuns,
      State.lockoutRuns, view.lines]
    simp only [view.isBusy]
  refine ⟨fun n hn => ?_, fun n e hn => ⟨fun hi => ?_, fun hi => ⟨s.indicatorOf n e, ?_, ?_, ?_, fun h alone => ?_⟩⟩⟩
  · rw [view.trig] at hn
    rw [State.judgeIndicators_indicators, State.judged, hn]
  · rw [view.trig] at hn
    rw [State.judgeIndicators_indicators, State.judged, hn]
    simp [hi]
  · rw [view.trig] at hn
    rw [State.judgeIndicators_indicators, State.judged, hn]
    simp [hi]
  · rw [barred, fireBarred_iff, State.indicatorOf]
    split_ifs <;> simp_all
  · rw [barred, busy, fireBarred_iff, entryBusy_iff, State.indicatorOf]
    split_ifs <;> simp_all
  · simp only [view.trig] at hn alone
    rw [State.judgeIndicators_named (c := ⟨e.channel, h⟩) hn hi rfl alone]
    cases s.indicatorOf n e <;> rfl

/-- Judged indicators stay judged while what they are judged from, and the levels the channels carry, stay. -/
theorem IndicatorsJudged.congr (h : IndicatorsJudged s) (view : SameView s t)
    (shown : t.iou.indicators = s.iou.indicators)
    (levels : ∀ c : ChannelId, (t.lco.channels[c]).indicator = (s.lco.channels[c]).indicator) : IndicatorsJudged t := by
  have barred : ∀ n, fireBarred t n ↔ fireBarred s n := fun n => by
    rw [fireBarred_iff, fireBarred_iff, view.stopped, view.mode]
  have busy : ∀ n e, entryBusy t n e ↔ entryBusy s n e := fun n e => by
    rw [entryBusy_iff, entryBusy_iff, view.isBusy, State.alternateBusy, State.alternateBusy, State.lockoutRuns,
      State.lockoutRuns, view.lines]
    simp only [view.isBusy]
  unfold IndicatorsJudged at h ⊢
  simpa only [view.trig, shown, barred, busy, levels] using h

end Sys2Proof.Machine
end

section
/-! SUPPORT. The soft reset: what each block takes, and the judgements that follow it (R126, R186). -/

namespace Sys2Proof.Machine

variable {s : State}

/-- Judging the modes marks no slot where no axis is owned. -/
theorem State.judgeAxes_seq_of_unowned (h : s.arb.owners = Vector.replicate 96 none) : s.judgeAxes.seq = s.seq := by
  unfold State.judgeAxes
  refine forEach_same_of (f := State.judgeAxis) (P := fun t : State => t.arb.owners = Vector.replicate 96 none)
    (g := fun t : State => t.seq) (fun a t ht => by simpa using ht) (fun a t ht => ?_) s h
  have unowned : t.axisOwner a = none := by simp [State.axisOwner, ht]
  have same : (t.onAxis a (Axis.enter (t.modeOf a))).axisOwner a = none := unowned
  unfold State.judgeAxis
  dsimp only
  rw [same]
  rfl

/-- The state as every block has taken the soft reset, before the judgements. -/
def State.resetTaken (stopped : Bool) (s : State) : State :=
  { s with
    sli := s.sli.softReset
    mu := s.mu.softReset
    sck := s.sck.softReset stopped
    iou := s.iou.softReset stopped
    arb := s.arb.softReset stopped
    seq := {}
    lco := s.lco.softReset
    nmx := s.nmx.softReset
    mgt := s.mgt.softReset s.mu.tables.env stopped
    ports := Vector.ofFn fun z => (s.ports[z]).softReset }

theorem State.softReset_eq (stopped : Bool) (s : State) :
    s.softReset stopped = (s.resetTaken stopped).judgeAxes.renewIndicators := rfl

/-- The REPLY of the RESET command leaves, and the soft reset is taken (R171, R186). -/
theorem exec_softReset_leaves (stop : Bool) (h : s.resetLeaves = true) : ∃ f rest, f.kind = 11 ∧ f.seq = s.sli.upSeq ∧
    f.addr = s.sli.ownAddr.zeroExtend 8 ∧
    exec (.softReset stop) s = .next ((s.onSli (Sli.departed f rest)).softReset stop) := by
  unfold State.resetLeaves at h
  obtain ⟨own, reset⟩ := (Bool.and_eq_true ..).mp h
  cases hq : s.sli.ownQueue with
  | nil => rw [hq] at reset; cases reset
  | cons r rest =>
    rw [hq] at reset
    dsimp only at reset
    have leaves : s.resetLeaves = true := by simp [State.resetLeaves, own, hq, reset]
    cases r with
    | status => cases reset
    | cueStart => cases reset
    | cueCancel => cases reset
    | reply code st tag fields =>
      let kb := { s with sli := { s.sli with ownQueue := rest } }.reportFrame rest.length (.reply code st tag fields)
      refine ⟨{ addr := s.sli.ownAddr.zeroExtend 8, kind := kb.1, seq := s.sli.upSeq, body := kb.2 }, rest, rfl, rfl, rfl,
        ?_⟩
      rw [show exec (.softReset stop) s = execSoftReset stop s from rfl, execSoftReset, if_pos leaves,
        State.inNext, if_pos own, hq]
      dsimp only
      rw [State.sendReport, reset]
      rfl

/-- Whether an axis is sending does not turn on its guard, hold, setpoint or owner. -/
theorem judgedMode_sending {x y : Axis} (present : y.present = x.present) (pos : y.pos = x.pos)
    (e : EnvRec) (fault stopped stopped' unowned unowned' fresh fresh' : Bool) :
    (judgedMode e fault stopped' unowned' fresh' y).isSending =
      (judgedMode e fault stopped unowned fresh x).isSending := by
  have sending : ∀ (stopped unowned fresh : Bool) (x : Axis), (judgedMode e fault stopped unowned fresh x).isSending =
      (e.enable && !(x.present && !inRange e x.pos) && !fault && x.present) := by
    intro stopped unowned fresh x
    unfold judgedMode
    cases e.enable with
    | false => rfl
    | true =>
      by_cases out : (x.present && !inRange e x.pos) = true
      · simp [out, AxisMode.isSending, AxisMode.isDisabled]
      · cases fault with
        | true => simp [out, AxisMode.isSending, AxisMode.isDisabled, AxisMode.isOffline]
        | false =>
          cases hp : x.present with
          | false => simp [AxisMode.isSending, AxisMode.isDisabled, AxisMode.isOffline]
          | true =>
            have within : inRange e x.pos = true := by simpa [hp] using out
            simp only [within, Bool.not_true, Bool.and_false, Bool.false_eq_true, if_false]
            (repeat' split) <;> rfl
  rw [sending, sending, present, pos]

theorem State.renewIndicators_judged (s : State) : IndicatorsJudged s.renewIndicators := State.judgeIndicators_judged _

theorem softResetAxis_eq (e : EnvRec) (x : Axis) : Axis.softReset e x = { x with
    sceneTarget := none, keyframe := none, resetHold := x.mode.isSending
    rearm := if e.guardZones = 0 then x.rearm else e.rearm
    guarded := if e.guardZones = 0 then x.guarded else decide (0 < e.rearm) } := by
  unfold Axis.softReset
  dsimp only
  split <;> rfl

/-- The judgements after a soft reset leave what the other blocks have taken. -/
theorem State.softReset_frame_blocks (stop : Bool) (s : State) :
    (s.softReset stop).sli = s.sli.softReset ∧ (s.softReset stop).mu = s.mu.softReset ∧
    (s.softReset stop).sck = s.sck.softReset stop ∧ (s.softReset stop).arb = s.arb.softReset stop ∧
    (s.softReset stop).seq = {} ∧ (s.softReset stop).nmx = s.nmx.softReset := by
  have seq : (s.resetTaken stop).judgeAxes.seq = {} := State.judgeAxes_seq_of_unowned rfl
  rw [State.softReset_eq]
  simp only [State.renewIndicators_frame, seq, State.judgeAxes_frame]
  exact ⟨rfl, rfl, rfl, rfl, trivial, rfl⟩

/-- The state as every indicator level has been released (R35). -/
def State.unlit (s : State) : State := s.onLco fun x => x.mapChannels fun _ ch => { ch with indicator := none }

theorem State.renewIndicators_eq (s : State) : s.renewIndicators = s.unlit.judgeIndicators := rfl

theorem State.unlit_channel (c : ChannelId) (s : State) :
    s.unlit.lco.channels[c] = { s.lco.channels[c] with indicator := none } := by
  simp [State.unlit, Lco.mapChannels]

@[simp] theorem State.unlit_frame (s : State) : s.unlit.mu = s.mu ∧ s.unlit.iou = s.iou ∧
    s.unlit.lco.masters = s.lco.masters ∧ s.unlit.lco.effects = s.lco.effects ∧ s.unlit.lco.cueLive = s.lco.cueLive := by
  simp [State.unlit, Lco.mapChannels]

theorem State.renewIndicators_channel (c : ChannelId) (s : State) : s.renewIndicators.lco.channels[c] =
    { s.lco.channels[c] with indicator := (s.renewIndicators.lco.channels[c]).indicator } := by
  rw [State.renewIndicators_eq, State.judgeIndicators_channel, State.unlit_channel]

theorem State.renewIndicators_unnamed {c : ChannelId} (h : unnamedChannel s c) :
    (s.renewIndicators.lco.channels[c]).indicator = none := by
  have named : unnamedChannel s.unlit c := by
    have tables : s.unlit.mu.tables = s.mu.tables := rfl
    rw [unnamedChannel, tables]
    exact h
  rw [State.renewIndicators_eq, State.judgeIndicators_unnamed named, State.unlit_channel]

theorem State.renewIndicators_lco_rest (s : State) :
    { s.renewIndicators.lco with channels := s.unlit.lco.channels } = s.unlit.lco := by
  rw [State.renewIndicators_eq]
  exact State.judgeIndicators_lco_rest s.unlit

theorem State.renewIndicators_iou_eq (s : State) :
    s.renewIndicators.iou = { s.iou with indicators := s.renewIndicators.iou.indicators } := by
  have h : { s.renewIndicators.iou with indicators := s.unlit.iou.indicators } = s.unlit.iou := by
    rw [State.renewIndicators_eq]
    exact State.judgeIndicators_iou_rest s.unlit
  simp only [State.unlit_frame] at h
  generalize s.renewIndicators.iou = x at h ⊢
  cases x
  rw [← h]

@[simp] theorem State.renewIndicators_effects (s : State) : s.renewIndicators.lco.effects = s.lco.effects ∧
    s.renewIndicators.lco.cueLive = s.lco.cueLive := by
  have h := State.renewIndicators_lco_rest s
  have effects := congrArg Lco.effects h
  have live := congrArg Lco.cueLive h
  dsimp only at effects live
  rw [effects, live]
  simp

/-- What the light channels take in a soft reset (R66, R73, R75). -/
theorem State.softReset_lco (stop : Bool) (s : State) :
    (∀ c : ChannelId, (s.softReset stop).lco.channels[c] = { s.lco.channels[c] with
      layer := {}, indicator := ((s.softReset stop).lco.channels[c]).indicator }) ∧
    (∀ c : ChannelId, unnamedChannel s c → ((s.softReset stop).lco.channels[c]).indicator = none) ∧
    (s.softReset stop).lco.masters = s.lco.masters ∧ (s.softReset stop).lco.effects = Vector.replicate 8 none ∧
    (s.softReset stop).lco.cueLive = 0 := by
  have taken : (s.resetTaken stop).judgeAxes.lco = s.lco.softReset := by
    rw [show (s.resetTaken stop).judgeAxes.lco = (s.resetTaken stop).lco by simp only [State.judgeAxes_frame]]
    rfl
  have tables : (s.resetTaken stop).judgeAxes.mu.tables = s.mu.tables := by
    rw [show (s.resetTaken stop).judgeAxes.mu = (s.resetTaken stop).mu by simp only [State.judgeAxes_frame]]
    rfl
  rw [State.softReset_eq]
  generalize (s.resetTaken stop).judgeAxes = u at taken tables
  refine ⟨fun c => ?_, fun c h => State.renewIndicators_unnamed ?_, ?_, ?_, ?_⟩
  · rw [State.renewIndicators_channel, taken]
    simp [Lco.softReset, Lco.dropAll, Lco.mapChannels]
  · rw [unnamedChannel, tables]
    exact h
  · simp [taken, Lco.softReset, Lco.dropAll, Lco.mapChannels]
  · simp [taken, Lco.softReset, Lco.dropAll]
  · simp [taken, Lco.softReset]

/-- What the IOU takes in a soft reset (R26, R38, R39). -/
theorem State.softReset_iou (stop : Bool) (s : State) : (s.softReset stop).iou =
    { s.iou.softReset stop with indicators := (s.softReset stop).iou.indicators } := by
  have taken : (s.resetTaken stop).judgeAxes.iou = s.iou.softReset stop := by
    rw [show (s.resetTaken stop).judgeAxes.iou = (s.resetTaken stop).iou by simp only [State.judgeAxes_frame]]
    rfl
  rw [State.softReset_eq]
  generalize (s.resetTaken stop).judgeAxes = u at taken
  rw [← taken]
  exact State.renewIndicators_iou_eq u

/-- What an axis takes in a soft reset: its record is set, and its mode is then judged (R112, R126). -/
theorem State.softReset_axes (stop : Bool) (s : State) (a : AxisId) : (s.softReset stop).mgt.axes[a] =
    Axis.enter ((s.resetTaken stop).modeOf a) ((s.mgt.axes[a]).softReset s.mu.tables.env[a]) := by
  have taken : (s.resetTaken stop).mgt.axes[a] = (s.mgt.axes[a]).softReset s.mu.tables.env[a] := by
    simp [State.resetTaken, Mgt.softReset]
  rw [State.softReset_eq]
  simp only [State.renewIndicators_frame]
  rw [State.judgeAxes_axes, taken]

/-- After a soft reset the modes are judged as when every block had taken it. -/
theorem State.softReset_modeOf (stop : Bool) (s : State) (a : AxisId) :
    (s.softReset stop).modeOf a = (s.resetTaken stop).modeOf a := by
  rw [← State.judgeAxes_modeOf a (s.resetTaken stop), State.softReset_eq]
  have same : SameInputs (s.resetTaken stop).judgeAxes (s.resetTaken stop).judgeAxes.renewIndicators :=
    ⟨by simp only [State.renewIndicators_frame], by simp only [State.renewIndicators_frame],
      by simp only [State.renewIndicators_frame], by simp only [State.renewIndicators_frame],
      by simp only [State.renewIndicators_frame]⟩
  exact same.modeOf (by simp only [State.renewIndicators_frame])

/-- A soft reset makes no axis sending or not (R112). -/
theorem State.softReset_sending (stop : Bool) (s : State) (a : AxisId) :
    ((s.resetTaken stop).modeOf a).isSending = (s.modeOf a).isSending := by
  rw [State.modeOf_eq, State.modeOf_eq]
  have taken : (s.resetTaken stop).mgt.axes[a] = (s.mgt.axes[a]).softReset s.mu.tables.env[a] := by
    simp [State.resetTaken, Mgt.softReset]
  have env : (s.resetTaken stop).mu.tables.env = s.mu.tables.env := rfl
  have power : (s.resetTaken stop).mgt.powerFault = s.mgt.powerFault := by
    simp only [State.resetTaken, Mgt.softReset]
  rw [taken, softResetAxis_eq, env, power]
  exact judgedMode_sending (by rfl) (by rfl) _ _ _ _ _ _ _ _

end Sys2Proof.Machine
end

section
/-! PROOF. A soft reset takes every block to its soft-reset values and keeps the rest. -/

namespace Sys2Proof.Machine

variable {s : State}

/-- A channel that no entry of the same TRIG table names. -/
theorem unnamedChannel_congr {t : State} (h : t.mu.tables.trig = s.mu.tables.trig) (c : ChannelId) :
    unnamedChannel t c ↔ unnamedChannel s c := by
  rw [unnamedChannel, unnamedChannel, h]

/-- The axes after a soft reset: records, modes and reset-hold marks (R112, R126). -/
theorem State.softReset_axis (stop : Bool) (s : State) (a : AxisId) :
    (s.softReset stop).mgt.axes[a] = { s.mgt.axes[a] with
      mode := (s.softReset stop).modeOf a, sceneTarget := none, keyframe := none
      step := if ((s.softReset stop).modeOf a).isSending then (s.mgt.axes[a]).step else 0
      resetHold := ((s.softReset stop).modeOf a).isSending && (s.mgt.axes[a]).mode.isSending
      rearm := if (s.mu.tables.env[a]).guardZones = 0 then (s.mgt.axes[a]).rearm else (s.mu.tables.env[a]).rearm
      guarded := if (s.mu.tables.env[a]).guardZones = 0 then (s.mgt.axes[a]).guarded
        else decide (0 < (s.mu.tables.env[a]).rearm) } := by
  rw [State.softReset_axes, State.softReset_modeOf, Axis.enter_eq, softResetAxis_eq]

/-- Beside the axes, what the MGT and the ports take in a soft reset (R38, R61, R128). -/
theorem State.softReset_motion (stop : Bool) (s : State) :
    (s.softReset stop).mgt.occ = Vector.replicate 4 .clear ∧ (s.softReset stop).mgt.powerFault = s.mgt.powerFault ∧
    (s.softReset stop).mgt.showStopped = stop ∧
    (∀ z : ZoneId, (s.softReset stop).ports[z] = { s.ports[z] with audio := [] }) := by
  have power : (s.resetTaken stop).mgt.powerFault = s.mgt.powerFault := by
    simp only [State.resetTaken, Mgt.softReset]
  rw [State.softReset_eq]
  simp only [State.renewIndicators_frame, State.judgeAxes_mgt, State.judgeAxes_frame]
  refine ⟨rfl, power, rfl, fun z => ?_⟩
  simp [State.resetTaken, Port.softReset]

/-- Settles O8: the REPLY leaves, every block takes its soft-reset record, and the judgements write modes and
indicators alone. -/
theorem softResetValues : Obligations.SoftResetValues := by
  unfold Obligations.SoftResetValues
  intro stop s leaves
  obtain ⟨f, rest, kind, seq, addr, taken⟩ := exec_softReset_leaves stop leaves
  refine ⟨_, f, taken, kind, seq, addr, ?_⟩
  generalize hu : s.onSli (Sli.departed f rest) = u
  have sli : u.sli = Sli.departed f rest s.sli := by rw [← hu]; rfl
  have parts : u.mu = s.mu ∧ u.sck = s.sck ∧ u.iou = s.iou ∧ u.arb = s.arb ∧ u.lco = s.lco ∧ u.nmx = s.nmx ∧
      u.mgt = s.mgt ∧ u.ports = s.ports ∧ u.pending = s.pending ∧ u.free = s.free := by
    subst hu
    simp
  have modes : ∀ a, u.modeOf a = s.modeOf a := by
    subst hu
    exact fun a => rfl
  obtain ⟨mu, sck, iou, arb, lco, nmx, mgt, ports, pending, free⟩ := parts
  obtain ⟨sli', mu', sck', arb', seq', nmx'⟩ := State.softReset_frame_blocks stop u
  obtain ⟨channels, unnamed, masters, effects, live⟩ := State.softReset_lco stop u
  obtain ⟨occ, power, stopped, audio⟩ := State.softReset_motion stop u
  have axes := State.softReset_axis stop u
  have sending : ∀ a, ((u.softReset stop).modeOf a).isSending = (s.modeOf a).isSending := fun a => by
    rw [State.softReset_modeOf, State.softReset_sending, modes]
  have iou' := State.softReset_iou stop u
  have judged : IndicatorsJudged (u.softReset stop) := State.renewIndicators_judged _
  have frame := State.softReset_frame (s := u) stop
  rw [sli] at sli'
  rw [sck] at sck'
  rw [iou] at iou'
  rw [arb] at arb'
  rw [nmx] at nmx'
  rw [lco] at channels masters
  rw [mgt] at power
  rw [ports] at audio
  rw [pending, free] at frame
  have trig : (u.softReset stop).mu.tables.trig = u.mu.tables.trig := by rw [mu', Mu.softReset]
  rw [mu] at mu'
  simp only [mu, mgt] at axes
  refine ⟨sli', mu', sck', arb', seq', iou', judged, channels, fun c h => unnamed c ?_, masters, effects, live, nmx',
    fun a => ⟨axes a, sending a⟩, occ, power, stopped, audio, frame.2, frame.1⟩
  exact (unnamedChannel_congr trig c).mp h

end Sys2Proof.Machine
end

section
/-! PROOF. The NMX's beat at the cue waits, a cue's wait and a re-arm countdown that run out (R95, R119). -/

namespace Sys2Proof.Machine

variable {s t : State} {k j : SlotId}

/-! ### Changing a play record -/

/-- A slot whose play record is changed, when it is PLAYING. -/
def Slot.onPlaying (f : PlayRec → PlayRec) : Slot → Slot
  | .playing p => .playing (f p)
  | .free l r => .free l r

theorem Slot.onPlaying_id (x : Slot) : x.onPlaying (fun p => p) = x := by cases x <;> rfl

/-- The slots after one play record was changed. -/
theorem State.onPlay_slots (k j : SlotId) (f : PlayRec → PlayRec) (s : State) :
    (s.onPlay k f).seq.slots[j] = if j = k then (s.seq.slots[k]).onPlaying f else s.seq.slots[j] := by
  cases e : s.play k with
  | none =>
    rw [State.onPlay_none e]
    obtain ⟨l, r, free⟩ := State.play_eq_none.mp e
    split
    · next ej => subst ej; rw [free]; rfl
    · rfl
  | some p =>
    rw [State.onPlay_some e, State.play_eq_some.mp e]
    split
    · next ej => subst ej; simp [Slot.onPlaying]
    · next ej =>
      simp only [State.onSeq_seq, Fin.getElem_fin]
      exact Vector.getElem_set_ne _ _ (fun h => ej (Fin.ext h.symm))

/-- Changing a play record leaves the other blocks. -/
theorem State.onPlay_rest (k : SlotId) (f : PlayRec → PlayRec) (s : State) :
    { s.onPlay k f with seq := s.seq } = s := by
  unfold State.onPlay
  split <;> rfl

/-- The slots after a slot was marked. -/
theorem State.mark_slots (k j : SlotId) (m : Mark) (s : State) : (s.mark k m).seq.slots[j] =
    if j = k then (s.seq.slots[k]).onPlaying (fun p => { p with marks := withMember p.marks m.member })
    else s.seq.slots[j] := State.onPlay_slots k j _ s

theorem State.mark_rest (k : SlotId) (m : Mark) (s : State) : { s.mark k m with seq := s.seq } = s :=
  State.onPlay_rest k _ s

theorem withMember_cueFailed (x : BitVec 4) : withMember x Mark.cueFailed.member = x ||| 2 := rfl

/-! ### The wait of a PENDING cue (R95) -/

/-- A slot's cue whose wait runs out on this beat. -/
def State.cueExpires (s : State) (k : SlotId) : Prop :=
  ∃ c, s.nmx.cues[k] = some c ∧ c.state = .pending ∧ c.remaining ≤ 1

/-- A cue after a beat. -/
def beatenCue (c : Cue) : Cue :=
  if c.state = .pending then { c with
    remaining := c.remaining - 1, state := if c.remaining ≤ 1 then .failed else .pending }
  else c

/-- A slot's cue takes a beat: it expires and its slot is marked, or it is as `beatenCue` has it. -/
theorem State.cueBeat_eq (k : SlotId) (s : State) :
    (s.cueExpires k → s.cueBeat k = (s.setCue k ((s.nmx.cues[k]).map beatenCue)).mark k .cueFailed) ∧
    (¬s.cueExpires k → s.cueBeat k = s.setCue k ((s.nmx.cues[k]).map beatenCue)) := by
  have keeps : ∀ x : Option Cue, x = s.nmx.cues[k] → s = s.setCue k x := by
    rintro x rfl
    simp [State.setCue, State.onNmx]
  unfold State.cueBeat State.cueExpires
  cases e : s.nmx.cues[k] with
  | none => exact ⟨(by rintro ⟨c, h, -⟩; cases h), fun _ => keeps _ e.symm⟩
  | some c =>
    dsimp only [Option.map_some]
    by_cases pending : c.state = .pending
    · by_cases out : c.remaining ≤ 1
      · have zero : c.remaining - 1 = 0 := by omega
        refine ⟨fun _ => ?_, fun h => absurd ⟨c, rfl, pending, out⟩ h⟩
        rw [if_pos pending, if_pos out, beatenCue, if_pos pending, if_pos out, zero]
      · refine ⟨by rintro ⟨d, h, -, hd⟩; cases h; exact absurd hd out, fun _ => ?_⟩
        rw [if_pos pending, if_neg out, beatenCue, if_pos pending, if_neg out, ← pending]
    · refine ⟨by rintro ⟨d, h, hd, -⟩; cases h; exact absurd hd pending, fun _ => ?_⟩
      rw [if_neg pending, beatenCue, if_neg pending]
      exact keeps _ e.symm

theorem State.setCue_cues (k j : SlotId) (c : Option Cue) (s : State) :
    (s.setCue k c).nmx.cues[j] = if j = k then c else s.nmx.cues[j] := by
  split
  · next e => subst e; simp [State.setCue]
  · next e =>
    simp only [State.setCue, State.onNmx_nmx, Fin.getElem_fin]
    exact Vector.getElem_set_ne _ _ (fun h => e (Fin.ext h.symm))

theorem State.cueBeat_cues (k j : SlotId) (s : State) :
    (s.cueBeat k).nmx.cues[j] = if j = k then (s.nmx.cues[k]).map beatenCue else s.nmx.cues[j] := by
  obtain ⟨expired, kept⟩ := State.cueBeat_eq k s
  by_cases h : s.cueExpires k
  · rw [expired h]
    simp only [State.mark_frame, State.setCue_cues]
  · rw [kept h, State.setCue_cues]

/-- The slots after one cue took a beat. -/
theorem State.cueBeat_slots (k j : SlotId) (s : State) :
    (j = k → s.cueExpires k → (s.cueBeat k).seq.slots[j] =
      (s.seq.slots[k]).onPlaying (fun p => { p with marks := p.marks ||| 2 })) ∧
    (j ≠ k ∨ ¬s.cueExpires k → (s.cueBeat k).seq.slots[j] = s.seq.slots[j]) := by
  obtain ⟨expired, kept⟩ := State.cueBeat_eq k s
  refine ⟨fun e h => ?_, fun h => ?_⟩
  · rw [expired h, State.mark_slots, if_pos e]
    rfl
  · by_cases hk : s.cueExpires k
    · rw [expired hk, State.mark_slots, if_neg (h.resolve_right (not_not_intro hk))]
      rfl
    · rw [kept hk]
      rfl

theorem State.cueBeat_rest (k : SlotId) (s : State) : { s.cueBeat k with nmx := s.nmx, seq := s.seq } = s := by
  obtain ⟨expired, kept⟩ := State.cueBeat_eq k s
  by_cases h : s.cueExpires k
  · rw [expired h]
    exact congrArg (fun t : State => { t with nmx := s.nmx, seq := s.seq })
      (State.mark_rest k .cueFailed (s.setCue k ((s.nmx.cues[k]).map beatenCue)))
  · rw [kept h]
    rfl

theorem State.cueBeat_nmx (k : SlotId) (s : State) :
    { (s.cueBeat k).nmx with cues := s.nmx.cues } = s.nmx := by
  obtain ⟨expired, kept⟩ := State.cueBeat_eq k s
  by_cases h : s.cueExpires k
  · rw [expired h]
    simp only [State.mark_frame]
    rfl
  · rw [kept h]
    rfl

/-- Whether a cue expires is told by the cue. -/
theorem State.cueExpires_congr (h : t.nmx.cues[k] = s.nmx.cues[k]) : t.cueExpires k ↔ s.cueExpires k := by
  rw [State.cueExpires, State.cueExpires, h]

/-- The cues after the NMX's beat. -/
theorem State.nmxBeat_cues (k : SlotId) (s : State) : s.nmxBeat.nmx.cues[k] = (s.nmx.cues[k]).map beatenCue := by
  unfold State.nmxBeat
  refine forEach_at (f := State.cueBeat) (i := k) (view := fun s : State => s.nmx.cues[k])
    (g := fun s => (s.nmx.cues[k]).map beatenCue) (fun j s ne => ?_) (fun s => ?_) (fun j s ne => ?_) s
  · rw [State.cueBeat_cues, if_neg (Ne.symm ne)]
  · rw [State.cueBeat_cues, if_pos rfl]
  · simp only [State.cueBeat_cues, if_neg (Ne.symm ne)]

/-- The slots after the NMX's beat: a slot is marked where its cue expires, and is kept elsewhere. -/
theorem State.nmxBeat_slots (k : SlotId) (s : State) :
    (s.cueExpires k → s.nmxBeat.seq.slots[k] =
      (s.seq.slots[k]).onPlaying (fun p => { p with marks := p.marks ||| 2 })) ∧
    (¬s.cueExpires k → s.nmxBeat.seq.slots[k] = s.seq.slots[k]) := by
  have other : ∀ (j : SlotId) (s : State), j ≠ k → (s.cueBeat j).nmx.cues[k] = s.nmx.cues[k] ∧
      (s.cueBeat j).seq.slots[k] = s.seq.slots[k] := fun j s ne =>
    ⟨by rw [State.cueBeat_cues, if_neg (Ne.symm ne)], (State.cueBeat_slots j k s).2 (.inl (Ne.symm ne))⟩
  classical
  have all : s.nmxBeat.seq.slots[k] = if s.cueExpires k then
      (s.seq.slots[k]).onPlaying (fun p => { p with marks := p.marks ||| 2 }) else s.seq.slots[k] := by
    unfold State.nmxBeat
    refine forEach_at (f := State.cueBeat) (i := k) (view := fun s : State => s.seq.slots[k])
      (g := fun s => if s.cueExpires k then
        (s.seq.slots[k]).onPlaying (fun p => { p with marks := p.marks ||| 2 }) else s.seq.slots[k])
      (fun j s ne => (other j s ne).2) (fun s => ?_) (fun j s ne => ?_) s
    · split
      · next h => exact (State.cueBeat_slots k k s).1 rfl h
      · next h => exact (State.cueBeat_slots k k s).2 (.inr h)
    · simp only [State.cueExpires_congr (other j s ne).1, (other j s ne).2]
  rw [all]
  exact ⟨fun h => if_pos h, fun h => if_neg h⟩

/-- What the NMX's beat leaves. -/
theorem State.nmxBeat_rest (s : State) : { s.nmxBeat.nmx with cues := s.nmx.cues } = s.nmx ∧
    { s.nmxBeat with nmx := s.nmx, seq := s.seq } = s := by
  unfold State.nmxBeat
  exact ⟨forEach_same (f := State.cueBeat) (g := fun t : State => { t.nmx with cues := s.nmx.cues })
      (fun k t => congrArg (fun x : Nmx => { x with cues := s.nmx.cues }) (State.cueBeat_nmx k t)) s,
    forEach_same (f := State.cueBeat) (g := fun t : State => { t with nmx := s.nmx, seq := s.seq })
      (fun k t => congrArg (fun x : State => { x with nmx := s.nmx, seq := s.seq }) (State.cueBeat_rest k t)) s⟩

/-- A PLAYING slot after its play record was changed. -/
theorem State.play_of_onPlaying {f : PlayRec → PlayRec} {p : PlayRec}
    (h : t.seq.slots[k] = (s.seq.slots[k]).onPlaying f) (hp : s.play k = some p) : t.play k = some (f p) := by
  rw [State.play_eq_some, h, State.play_eq_some.mp hp, Slot.onPlaying]

theorem State.play_of_slot (h : t.seq.slots[k] = s.seq.slots[k]) : t.play k = s.play k := by
  rw [State.play, State.play, h]

/-! ### The re-arm countdown (R119) -/

theorem State.judgeAxis_rest (a : AxisId) (s : State) : { s.judgeAxis a with mgt := s.mgt, seq := s.seq } = s := by
  unfold State.judgeAxis
  dsimp only
  generalize hu : s.onAxis a (Axis.enter (s.modeOf a)) = u
  have rest : { u with mgt := s.mgt, seq := s.seq } = s := by
    subst hu
    rfl
  split
  · next k _ =>
    split
    · exact (congrArg (fun x : State => { x with mgt := s.mgt, seq := s.seq })
        (State.mark_rest k .axisOffline u)).trans rest
    · exact rest
  · exact rest

/-- Settles O45, by what one cue's beat does and the fold over the eight slots. -/
theorem cueWaitAndRearmExpire : Obligations.CueWaitAndRearmExpire := by
  unfold Obligations.CueWaitAndRearmExpire
  refine ⟨fun b s => ?_, fun k c p s hc pending last hp => ?_, fun a s last => ?_⟩
  · dsimp only
    have beat : s.blockBeat b .nmx = s.nmxBeat := rfl
    rw [beat]
    obtain ⟨nmx, rest⟩ := State.nmxBeat_rest s
    refine ⟨fun k => State.nmxBeat_cues k s, fun k => ⟨fun h p hp => ?_, (State.nmxBeat_slots k s).2⟩,
      State.nmxBeat_flags s, nmx, rest⟩
    exact State.play_of_onPlaying ((State.nmxBeat_slots k s).1 h) hp
  · have expires : s.cueExpires k := ⟨c, hc, pending, by omega⟩
    have due : cueWaitDue s.nmx.cues[k] = true := by simp [cueWaitDue, hc, pending, last]
    refine ⟨s.cueBeat k, ?_, ?_, ?_, State.cueBeat_rest k s, fun j ne => ⟨?_, ?_⟩⟩
    · rw [show exec (.cueWaitExpiry k) s = execCueWaitExpiry k s from rfl, execCueWaitExpiry, if_pos due]
    · rw [State.cueBeat_cues, if_pos rfl, hc, Option.map_some, beatenCue, if_pos pending, last]
      rfl
    · exact State.play_of_onPlaying ((State.cueBeat_slots k k s).1 rfl expires) hp
    · exact State.play_of_slot ((State.cueBeat_slots k j s).2 (.inl ne))
    · rw [State.cueBeat_cues, if_neg ne]
  · have axes : ∀ b : AxisId, ((s.onAxis a Axis.countRearm).judgeAxis a).mgt.axes[b] = if b = a then
        Axis.enter ((s.onAxis a Axis.countRearm).modeOf a) { s.mgt.axes[a] with rearm := 0, guarded := false }
        else s.mgt.axes[b] := fun b => by
      have counted : Axis.countRearm s.mgt.axes[a] = { s.mgt.axes[a] with rearm := 0, guarded := false } := by
        rw [Axis.countRearm, if_neg (by rw [last]; decide), if_pos last]
      rw [State.judgeAxis_axes, State.onAxis_axes, State.onAxis_axes, if_pos rfl, counted]
      split <;> rfl
    refine ⟨(s.onAxis a Axis.countRearm).judgeAxis a, ?_, ?_, ?_, ?_, fun b ne => ?_, ?_⟩
    · rw [show exec (.rearmExpiry a) s = execRearmExpiry a s from rfl, execRearmExpiry, if_pos last]
    · rw [axes, if_pos rfl, Axis.enter_eq]
    · rw [axes, if_pos rfl, Axis.enter_eq]
    · rw [axes, if_pos rfl, Axis.enter_eq]
    · rw [axes, if_neg ne]
    · exact congrArg (fun x : State => { x with mgt := s.mgt, seq := s.seq })
        (State.judgeAxis_rest a (s.onAxis a Axis.countRearm))

end Sys2Proof.Machine
end

section
/-! PROOF. SET-HOUSE-MODE under either order of its takers (R21, R59, R161). -/

namespace Sys2Proof.Machine

variable {s : State}

/-- A walk leaves in the queue only requests that were there. -/
theorem State.walkFrom_queue (l : List Request) : ∀ (s : State) (blocked : BitVec 96),
    ∀ r ∈ (State.walkFrom l blocked s).arb.queue, r ∈ s.arb.queue := by
  induction l with
  | nil => exact fun s _ r h => h
  | cons q qs ih =>
    intro s blocked r h
    unfold State.walkFrom at h
    split at h
    · have left := ih _ _ r h
      rw [(State.depart_queue q .ineligible).1] at left
      exact List.mem_of_mem_erase left
    · split at h
      · split at h
        · have left := ih _ _ r h
          rw [State.start_queue] at left
          exact List.mem_of_mem_erase left
        · exact ih _ _ r h
      · exact ih _ _ r h

theorem State.walk_queue (r : Request) (h : r ∈ s.walk.arb.queue) : r ∈ s.arb.queue := by
  refine State.walkFrom_queue s.arb.queue s 0 r ?_
  simpa [State.walk] using h

/-- A house-mode change leaves in the queue only requests that the mode admits (R59). -/
theorem State.arbHouse_queue (m : HouseMode) (r : Request) (h : r ∈ (s.arbHouse m).arb.queue) :
    r ∈ s.arb.queue ∧ admits m r.source = true := by
  rw [State.arbHouse] at h
  have left := State.walk_queue r h
  rw [(State.departAll_queue _ _).1, List.mem_filter] at left
  simpa using left

/-- A house-mode change with nothing queued is the judgement of the indicators alone. -/
theorem State.arbHouse_nil (m : HouseMode) (h : s.arb.queue = []) :
    s.arbHouse m = (s.onArb fun x => { x with mode := m }).judgeIndicators := by
  have nil : (s.onArb fun x => { x with mode := m }).arb.queue = [] := h
  rw [State.arbHouse, State.departAll_nil nil, State.walk_nil nil]

/-! ### The story flags -/

theorem State.openClear_flags (m : HouseMode) (s : State) : (s.openClear m).seq.flags =
    if m = .opened ∧ s.mu.tables.unit.openClears = true then 0 else s.seq.flags := by
  unfold State.openClear
  split
  · have zero : ∀ x : BitVec 32, x &&& ~~~(BitVec.allOnes 32) = 0 := by simp
    exact zero _
  · rfl

theorem State.openClear_cleared (s : State) (h : s.mu.tables.unit.openClears = true) :
    s.openClear .opened = { s with seq := { s.seq with flags := 0 } } := by
  have zero : ∀ x : BitVec 32, x &&& ~~~(BitVec.allOnes 32) = 0 := by simp
  have flags : s.seq.flags &&& ~~~(BitVec.allOnes 32) = 0 := zero _
  rw [State.openClear, if_pos ⟨rfl, h⟩]
  simp only [State.clearStoryFlags, State.onSeq, flags]

/-- What a new house mode does, before the indicators are judged and a STATUS is asked for. -/
def State.houseTaken (m : HouseMode) (s : State) : Bool → State
  | true => ((s.takeMode m).openClear m).arbHouse m
  | false => ((s.takeMode m).arbHouse m).openClear m

theorem State.changeMode_of_new {m : HouseMode} (new : s.sck.mode ≠ m) (flagsFirst : Bool) :
    s.changeMode m flagsFirst = (s.houseTaken m flagsFirst).judgeIndicators.askStatus := by
  rw [State.changeMode_eq, if_neg new]
  cases flagsFirst <;> rfl

@[simp] theorem State.takeMode_frame (m : HouseMode) (s : State) : (s.takeMode m).sck = { s.sck with mode := m } ∧
    (s.takeMode m).iou = { s.iou with mode := m } ∧ (s.takeMode m).mu = s.mu ∧ (s.takeMode m).arb = s.arb ∧
    (s.takeMode m).seq = s.seq ∧ (s.takeMode m).nmx = s.nmx ∧ (s.takeMode m).mgt = s.mgt := ⟨rfl, rfl, rfl, rfl, rfl, rfl, rfl⟩

/-- The queue after the ARB has taken a mode, whichever state the flags are in. -/
theorem State.arbHouse_queue_of {u : State} (m : HouseMode) (h : u.arb.queue = s.arb.queue) (r : Request)
    (hr : r ∈ (u.arbHouse m).arb.queue) : r ∈ s.arb.queue ∧ admits m r.source = true := by
  rw [← h]
  exact State.arbHouse_queue m r hr

/-- The blocks' modes after a house-mode change, and the queue. -/
theorem State.houseTaken_modes (m : HouseMode) (flagsFirst : Bool) (s : State) :
    (s.houseTaken m flagsFirst).sck.mode = m ∧ (s.houseTaken m flagsFirst).iou.mode = m ∧
    (s.houseTaken m flagsFirst).arb.mode = m ∧ (s.houseTaken m flagsFirst).iou.lines = s.iou.lines ∧
    (s.houseTaken m flagsFirst).iou.zones = s.iou.zones ∧
    ∀ r ∈ (s.houseTaken m flagsFirst).arb.queue, r ∈ s.arb.queue ∧ admits m r.source = true := by
  have arbMode : ∀ u : State, (u.arbHouse m).arb.mode = m := fun u => by simp [State.arbHouse]
  cases flagsFirst with
  | true =>
    rw [State.houseTaken]
    exact ⟨by simp, by simp, arbMode _, by simp, by simp, fun r h => State.arbHouse_queue_of m (by simp) r h⟩
  | false =>
    rw [State.houseTaken]
    simp only [State.openClear_frame]
    exact ⟨by simp, by simp, arbMode _, by simp, by simp, fun r h => State.arbHouse_queue_of m (by simp) r h⟩

/-- Flags that are cleared after the walk are clear. -/
theorem State.houseTaken_flags_after (h : s.mu.tables.unit.openClears = true) :
    (s.houseTaken .opened false).seq.flags = 0 := by
  rw [State.houseTaken, State.openClear_flags]
  simp [h]

/-- With nothing queued a house-mode change moves no slot, no cue and no axis, and clears or keeps the flags. -/
theorem State.houseTaken_nil (m : HouseMode) (flagsFirst : Bool) (s : State) (h : s.arb.queue = []) :
    (s.houseTaken m flagsFirst).nmx = s.nmx ∧ (s.houseTaken m flagsFirst).mgt = s.mgt ∧
    (s.houseTaken m flagsFirst).seq.slots = s.seq.slots ∧ (s.houseTaken m flagsFirst).seq.flags =
      if m = .opened ∧ s.mu.tables.unit.openClears = true then 0 else s.seq.flags := by
  have taken : (s.takeMode m).arb.queue = [] := h
  cases flagsFirst with
  | false =>
    rw [State.houseTaken, State.arbHouse_nil m taken, State.openClear_flags]
    simp
  | true =>
    have nil : ((s.takeMode m).openClear m).arb.queue = [] := by simpa using taken
    rw [State.houseTaken, State.arbHouse_nil m nil]
    simp only [State.judgeIndicators_frame, State.onArb_seq, State.onArb_nmx, State.onArb_mgt, State.openClear_flags,
      State.openClear_frame, State.takeMode_frame, true_and]

/-- Flags that are cleared before the walk may as well have been clear. -/
theorem State.houseTaken_clear (h : s.mu.tables.unit.openClears = true) (u : State)
    (hu : u = { s with seq := { s.seq with flags := 0 } }) : s.houseTaken .opened true = u.houseTaken .opened true := by
  have clear : (s.takeMode .opened).openClear .opened = (u.takeMode .opened).openClear .opened := by
    subst hu
    rw [State.openClear_cleared, State.openClear_cleared]
    · rfl
    · exact h
    · exact h
  rw [State.houseTaken, State.houseTaken, clear]

/-- A house mode is read from its choice byte. -/
theorem readMode_modeByte (m : HouseMode) : readMode (u8 [BitVec.ofNat 8 (modeByte m)] 0) = some m := by
  cases m <;> rfl

/-- Settles O55. -/
theorem setHouseMode : Obligations.SetHouseMode := by
  unfold Obligations.SetHouseMode
  intro c m flagsFirst s hears fields
  have runs : ∀ u : State, u.hears c → exec (.setHouseMode c flagsFirst) u =
      .next (((u.record c.seq).changeMode m flagsFirst).reply 10 .done c.tag []) := fun u hu => by
    have read : readMode (u8 c.fields 0) = some m := by rw [fields, readMode_modeByte]
    have one : (c.fields.length == 1) = true := by rw [fields]; rfl
    simp only [exec, execSetHouseMode, one, read, Option.isSome_some, State.command_run hu]
    have field : modeField c.fields = m := by rw [modeField, read, Option.getD_some]
    rw [field, doneBy, State.answer]
  refine ⟨fun same => ?_, fun new => ?_⟩
  · have force : (s.record c.seq).sck.mode = m := same
    rw [runs s hears, State.changeMode_eq, if_pos force]
  · generalize ht : (s.record c.seq).changeMode m flagsFirst = t
    have changed : t = ((s.record c.seq).houseTaken m flagsFirst).judgeIndicators.askStatus := by
      rw [← ht, State.changeMode_of_new (s := s.record c.seq) new flagsFirst]
    obtain ⟨sck, iou, arb, lines, zones, queue⟩ := State.houseTaken_modes m flagsFirst (s.record c.seq)
    have mu : t.mu = s.mu := by rw [← ht]; simp
    have ports : t.ports = s.ports := by rw [← ht]; simp
    refine ⟨t, by rw [runs s hears, ht], ?_, ?_, ?_, ?_, ?_, ?_, ?_, ?_, mu, ?_, ?_, ports⟩
    · rw [changed]; simpa using sck
    · rw [changed]; simpa using iou
    · rw [changed]; simpa using arb
    · rw [changed]; simpa using queue
    · intro opens clears last
      rw [changed]
      simp only [State.askStatus_frame, State.judgeIndicators_frame]
      subst opens
      cases flagsFirst with
      | false => exact State.houseTaken_flags_after clears
      | true =>
        have nil := State.houseTaken_nil .opened true (s.record c.seq) (last.resolve_left (by decide))
        rw [nil.2.2.2, if_pos ⟨rfl, clears⟩]
    · rintro rfl clears rfl
      let u : State := { s with seq := { s.seq with flags := 0 } }
      have ran : exec (.setHouseMode c true) u = .next (((u.record c.seq).changeMode .opened true).reply 10 .done c.tag []) :=
        runs u hears
      have new' : (u.record c.seq).sck.mode ≠ .opened := new
      have same := State.houseTaken_clear (s := s.record c.seq) clears
        (u.record c.seq) rfl
      rw [runs s hears, ht, changed, same, ran, State.changeMode_of_new new']
    · intro keeps nil
      rw [changed]
      simp only [State.askStatus_frame, State.judgeIndicators_frame]
      rw [(State.houseTaken_nil m flagsFirst (s.record c.seq) nil).2.2.2, if_neg]
      · rfl
      · rintro ⟨opens, clears⟩
        rcases keeps with other | off
        · exact other opens
        · exact absurd (clears.symm.trans off) (by decide)
    · intro nil
      obtain ⟨nmx, mgt, slots, -⟩ := State.houseTaken_nil m flagsFirst (s.record c.seq) nil
      rw [changed]
      simp only [State.askStatus_frame, State.judgeIndicators_frame]
      refine ⟨nmx, mgt, fun k => ?_⟩
      rw [State.play, State.play]
      simp only [State.askStatus_frame, State.judgeIndicators_frame, slots]
      rfl
    · rw [changed]; simpa using lines
    · rw [changed]; simpa using zones

end Sys2Proof.Machine
end

section
/-! PROOF. The image of a STATUS, byte for byte (Section 11.3), and its departure (R173). -/

namespace Sys2Proof.Machine

variable {s : State}

/-! ### Lists, sections and conditional items -/

theorem append_congr {a a' b b' : List Byte} (h : a = a') (g : b = b') : a ++ b = a' ++ b' := by rw [h, g]

/-- A section whose contents are known. -/
theorem putSection_of {n : Nat} {id : Byte} {bs cs : List Byte} (hid : BitVec.ofNat 8 n = id) (h : bs = cs) :
    putSection n bs = [id] ++ put16 cs.length ++ cs := by rw [putSection, put8, hid, h]

/-- A list in index order whose items are known. -/
theorem putEach_of {n : Nat} {f g : Fin n → List Byte} (h : ∀ i, f i = g i) :
    putEach f = (List.finRange n).flatMap g := by rw [putEach, funext h]

theorem putOpt_some {n : Nat} (i : Fin n) : putOpt (some i) = put8 i.val := rfl

theorem putOpt_none {n : Nat} : putOpt (none : Option (Fin n)) = [255] := rfl

theorem freshByte_eq (b : Bool) : freshByte b = [if b then 0 else 1] := by cases b <;> rfl

/-- The 44 sources in index order are the zones, the streams and the axes. -/
theorem sources_eq : List.finRange 44 = (List.finRange 4).map (fun z => sourceIndex (.light z)) ++
    (List.finRange 8).map (fun t => sourceIndex (.stream t)) ++
    (List.finRange 32).map (fun a => sourceIndex (.setpoint a)) := by decide

/-- A list over the 44 sources, class by class. -/
theorem putEach_sources (f : Fin 44 → List Byte) : putEach f =
    ((List.finRange 4).flatMap fun z => f (sourceIndex (.light z))) ++
    ((List.finRange 8).flatMap fun t => f (sourceIndex (.stream t))) ++
    (List.finRange 32).flatMap fun a => f (sourceIndex (.setpoint a)) := by
  rw [putEach, sources_eq]
  simp only [List.flatMap_append, List.flatMap_map]

/-- Positions are counted over the numbers of their records. -/
theorem count_eq (test : Option CensusRec → Bool) (p : Port) :
    p.count test = ((List.finRange 12).filter fun q : PosId => test p.census[q]).length := by
  have list : p.census.toList = (List.finRange 12).map fun q : PosId => p.census[q] := by
    apply List.ext_getElem
    · simp
    · intro i h h'
      simp
  rw [Port.count, list, List.filter_map, List.length_map]
  rfl

/-! ### The items of the sections -/

theorem alarmState_eq (r : Option AlrmRec) (x : AlarmRun) :
    put8 (alarmState r x) = [if r.isNone then 0 else if x.spent then 2 else 1] := by
  unfold alarmState
  (repeat' split) <;> rfl

theorem lineBytes_eq (n : LineId) (s : State) : s.lineBytes n =
    put8 (roleByte (s.mu.tables.line[n]).role) ++ putBool (!(s.iou.lines[n]).accepted) ++
      putBool (s.iou.lines[n]).stuck ++
      if (s.mu.tables.line[n]).role = .button then [1] ++ put16 (s.iou.lines[n]).lockout else [0, 0, 0] := by
  refine append_congr rfl ?_
  split <;> rfl

theorem linkCauses_eq (sides : BitVec 2) (causes : BitVec 3) :
    putSet (sides ++ causes) = put8 (causes.toNat + 8 * sides.toNat) := by
  have sum : (sides ++ causes).toNat = causes.toNat + 8 * sides.toNat := by
    rw [BitVec.toNat_append, ← Nat.shiftLeft_add_eq_or_of_lt causes.isLt, Nat.shiftLeft_eq]
    omega
  rw [putSet, sum]
  rfl

/-- The number of the state of an effect in the image: that of its last composed beat, or a free value (log entry 13). -/
def State.effectLow (s : State) (k : SlotId) : Bool :=
  match s.lco.effects[k] with
  | some e => e.lastLow.getD (Config.uncomposedLow (s.free + k.val))
  | none => false

theorem State.effectLow_composed {k : SlotId} {e : Effect} {l : Bool} (he : s.lco.effects[k] = some e)
    (hl : e.lastLow = some l) : s.effectLow k = l := by
  rw [State.effectLow, he]
  dsimp only
  rw [hl, Option.getD_some]

/-- The image of a STATUS is composed by its layout. -/
theorem State.statusBody_image (seq : Half) (behind : Nat) (s : State) :
    StatusImage s seq behind (s.statusBody seq behind) := by
  refine ⟨s.effectLow, fun k e l he hl => State.effectLow_composed he hl, ?_⟩
  dsimp only
  rw [State.statusBody]
  refine append_congr (append_congr (append_congr (append_congr (append_congr (append_congr (append_congr (append_congr
    (append_congr (append_congr (putSection_of rfl ?link) (putSection_of rfl ?clock)) (putSection_of rfl ?inputs))
    (putSection_of rfl ?requests)) (putSection_of rfl ?owners)) (putSection_of rfl ?outcomes))
    (putSection_of rfl ?slots)) (putSection_of rfl ?light)) (putSection_of rfl ?sound)) (putSection_of rfl ?axes))
    (putSection_of rfl ?ports)
  case link =>
    rw [State.sliSection, State.noticeBytes, putEach_sources, linkCauses_eq]
    simp only [freshByte_eq, List.append_assoc]
    rfl
  case clock =>
    rw [State.clockSection]
    simp only [putEach, alarmState_eq, calendarBytes, List.append_assoc]
    generalize s.sck.source = source
    cases source <;> rfl
  case inputs =>
    refine append_congr (append_congr (append_congr (putEach_of (lineBytes_eq · s)) (putEach_of fun z => ?_)) rfl)
      (putEach_of fun n => ?_)
    · cases (s.iou.zones[z]).kind <;> rfl
    · cases s.iou.indicators[n] with
      | none => rfl
      | some i => cases i <;> rfl
  case requests =>
    rw [State.requestSection, putList, ← List.append_assoc]
    refine append_congr rfl (congrArg (List.flatMap · s.arb.queue) (funext fun r => ?_))
    generalize r.source = source
    cases source <;> rfl
  case owners =>
    refine putEach_of fun x => ?_
    cases s.arb.owners[x] <;> rfl
  case outcomes =>
    rw [State.logSection, putList]
    refine append_congr rfl (congrArg (List.flatMap · s.arb.log) (funext fun e => append_congr (append_congr
      (append_congr (append_congr rfl ?_) rfl) ?_) ?_))
    · cases e.source <;> rfl
    · cases e.kind with
      | started k => rfl
      | refused c => cases c <;> rfl
      | departed d => cases d <;> rfl
      | preempted k new => rfl
    · cases e.tag <;> rfl
  case slots =>
    refine putEach_of fun k => ?_
    unfold State.slotBytes
    cases s.seq.slots[k] with
    | playing p =>
      refine append_congr (append_congr (append_congr (append_congr (append_congr (append_congr (append_congr
        (append_congr rfl ?_) rfl) rfl) rfl) rfl) rfl) ?_) rfl
      · cases p.source <;> rfl
      · cases s.nmx.cues[k] with
        | none => rfl
        | some c => cases h : c.state <;> simp only [slotCueByte, cueStateByte, h]
    | free last reason =>
      refine append_congr (append_congr (append_congr (append_congr rfl ?_) rfl) ?_) rfl
      · cases last <;> rfl
      · cases reason <;> rfl
  case light =>
    refine append_congr (append_congr rfl rfl) (putEach_of fun k => ?_)
    unfold State.effectBytes State.effectLow
    cases s.lco.effects[k] <;> rfl
  case sound =>
    refine append_congr (append_congr (putEach_of fun t => ?_) rfl) (putEach_of fun k => ?_)
    · rw [freshByte_eq]
      rfl
    · cases s.nmx.cues[k] with
      | none => rfl
      | some c =>
        obtain ⟨number, scene, zone, stream, clip, outputs, gain, wait, remaining, state⟩ := c
        cases state <;> rfl
  case axes =>
    refine putEach_of fun a => append_congr (append_congr (append_congr (append_congr (append_congr (append_congr
      (append_congr (append_congr (append_congr (append_congr ?mode rfl) rfl) rfl) ?owner) ?target) ?key) rfl) ?fresh) rfl)
      rfl
    case mode => cases (s.mgt.axes[a]).mode <;> rfl
    case owner => cases s.axisOwner a <;> rfl
    case target =>
      cases (s.mgt.axes[a]).lastTarget with
      | none => rfl
      | some x => cases x <;> rfl
    case key => cases (s.mgt.axes[a]).keyframe <;> rfl
    case fresh => exact freshByte_eq _
  case ports =>
    refine putEach_of fun z => ?_
    unfold portBytes
    simp only [count_eq]
    cases (s.ports[z]).powerOff <;> cases (s.ports[z]).sweep <;> rfl

end Sys2Proof.Machine
end

section
/-! PROOF. A STATUS leaves (R173, R174). -/

namespace Sys2Proof.Machine

variable {s : State}

/-- The IN transmitter takes an own report when nothing is to be forwarded or a forwarded frame left last (R169). -/
theorem State.inNext_own {r : Report} {rest : List Report} (stop : Bool) (h : s.sli.ownQueue = r :: rest)
    (turn : s.sli.forward = [] ∨ s.sli.servedOwn = false) : s.inNext stop = s.sendReport stop r rest := by
  have own : s.sli.ownNext = true := by
    rcases turn with empty | forwarded
    · simp [Sli.ownNext, h, empty]
    · simp [Sli.ownNext, h, forwarded]
  rw [State.inNext, if_pos own, h]

/-- Every latched notice is clear. -/
def Sli.noNotices (x : Sli) : Sli :=
  { x with
    linkError := false, linkCauses := 0, linkSides := 0, thruOverrun := false, reportOverrun := false
    queueFull := false, lineStuck := false, stuckLines := 0, alarm := false, alarmNumbers := 0, powerFault := 0 }

/-- Clearing all seven notices in all four zones clears every latched notice. -/
theorem Sli.clearNotices_all : Sli.clearNotices (BitVec.allOnes 7) (BitVec.allOnes 4) = Sli.noNotices := by
  funext x
  have member : ∀ i, i < 7 → (BitVec.allOnes 7).getLsbD i = true := by decide
  have zones : x.powerFault &&& ~~~(BitVec.allOnes 4) = 0 := by simp
  simp only [Sli.clearNotices, Sli.noNotices, member 0 (by decide), member 1 (by decide), member 2 (by decide),
    member 3 (by decide), member 4 (by decide), member 5 (by decide), member 6 (by decide), Bool.not_true, Bool.and_false,
    if_true, zones]

/-- Settles O22: the STATUS is the image of the state as the report has left the queue. -/
theorem statusDeparture : Obligations.StatusDeparture := by
  unfold Obligations.StatusDeparture
  intro rest stop s queue turn
  let u : State := { s with sli := { s.sli with ownQueue := rest } }
  let f : Frame := { addr := s.sli.ownAddr.zeroExtend 8, kind := 9, seq := s.sli.upSeq
                     body := u.statusBody s.sli.upSeq rest.length }
  have sent : exec (.inTransmitNext stop) s = .next ((s.onSli (Sli.departed f rest)).afterDeparture stop .status false) := by
    rw [show exec (.inTransmitNext stop) s = execInTransmitNext stop s from rfl, execInTransmitNext,
      State.inNext_own stop queue turn]
    rfl
  refine ⟨_, f, sent, ?_⟩
  rw [State.afterDeparture]
  cases clear : s.mu.tables.unit.autoClear with
  | true =>
    have on : (s.onSli (Sli.departed f rest)).afterImage.mu.tables.unit.autoClear = true := clear
    rw [if_pos on, Sli.clearNotices_all]
    exact ⟨rfl, rfl, rfl, State.statusBody_image _ _ u, fun _ => ⟨rfl, rfl, rfl, rfl, rfl, rfl, rfl, rfl, rfl, rfl, rfl⟩,
      fun h => (Bool.false_ne_true h.symm).elim, rfl, rfl, rfl⟩
  | false =>
    have off : ¬(s.onSli (Sli.departed f rest)).afterImage.mu.tables.unit.autoClear = true := by
      rw [show (s.onSli (Sli.departed f rest)).afterImage.mu = s.mu from rfl, clear]
      decide
    rw [if_neg off]
    exact ⟨rfl, rfl, rfl, State.statusBody_image _ _ u, fun h => (Bool.false_ne_true h).elim,
      fun _ => ⟨rfl, rfl, rfl, rfl, rfl, rfl, rfl, rfl, rfl, rfl, rfl⟩, rfl, rfl, rfl⟩

end Sys2Proof.Machine
end

section
/-! PROOF. Commands that answer and change nothing (R22, R157, R176, R178, R179, R187). -/

namespace Sys2Proof.Machine

variable {s : State}

/-! ### Every row of a command judges its form and its range as Section 11.1 gives them -/

/-- A row judges the form and the range of a command's fields by its code and executes what is in both. -/
def RowJudges (i : Instr) (code : Byte) (c : Cmd) : Prop :=
  ∃ (form range : Bool) (run : State → Option Result × State),
    (∀ s, exec i s = .next (s.command code c form range run)) ∧ (form = true ↔ commandForm code c.fields) ∧
    (form = true → (range = true ↔ commandInRange code c.fields))

/-- A command without fields. -/
theorem isEmpty_iff_length (l : List Byte) : l.isEmpty = true ↔ l.length = 0 := by
  rw [List.isEmpty_iff, List.length_eq_zero_iff]

theorem loadForm_iff (b : List Byte) :
    loadForm b = true ↔ 10 ≤ b.length ∧ b.length = 10 + (u16 b 6 + 15) / 16 * 16 := by
  simp [loadForm, paddedLength]

theorem readMode_isSome (n : Nat) : (readMode n).isSome = true ↔ n ≤ 2 := by
  rcases n with _ | _ | _ | n
  · simp [readMode]
  · simp [readMode]
  · simp [readMode]
  · exact ⟨nofun, fun h => by omega⟩

/-- A SET-TIME's fields lie in their ranges as Section 11.1 gives them (R157). -/
theorem timeFields_inRange (code : Byte) (h : code.toNat = 6) (b : List Byte) :
    (timeFields b).inRange = true ↔ commandInRange code b := by
  unfold commandInRange
  rw [h]
  simp only [Calendar.inRange, timeFields, monthLength, List.mem_cons, List.not_mem_nil, or_false]
  exact decide_eq_true_iff

/-- The two rows of STOP-SCENE, chosen by the selector, judge its range together (R178). -/
theorem stopScene_judges (b : BeatIn) (c : Cmd) : RowJudges (commandRow b 12 c) 12 c := by
  by_cases slot : c.fields.length = 2 ∧ u8 c.fields 0 = 1
  · have row : commandRow b 12 c = .stopSceneBySlot c := if_pos slot
    rw [row]
    refine ⟨_, _, _, fun s => rfl, beq_iff_eq, fun _ => decide_eq_true_iff.trans ?_⟩
    show _ ↔ (u8 c.fields 0 = 0 ∧ u8 c.fields 1 < 48) ∨ (u8 c.fields 0 = 1 ∧ u8 c.fields 1 < 8)
    omega
  · have row : commandRow b 12 c = .stopSceneByScene c := if_neg slot
    rw [row]
    refine ⟨_, _, _, fun s => rfl, beq_iff_eq, fun form => decide_eq_true_iff.trans ?_⟩
    have len := beq_iff_eq.mp form
    show _ ↔ (u8 c.fields 0 = 0 ∧ u8 c.fields 1 < 48) ∨ (u8 c.fields 0 = 1 ∧ u8 c.fields 1 < 8)
    omega

/-- A code read from its number. -/
theorem code_of {code : Byte} {n : Nat} (h : code.toNat = n) : code = BitVec.ofNat 8 n := by
  rw [← h]
  simp

/-- A row of a code whose fields have no range. -/
theorem RowJudges.of_form {i : Instr} {code : Byte} {c : Cmd} {form : Bool} {run : State → Option Result × State}
    (row : ∀ s, exec i s = .next (s.command code c form true run)) (judged : form = true ↔ commandForm code c.fields)
    (any : commandInRange code c.fields) : RowJudges i code c :=
  ⟨form, true, run, row, judged, fun _ => ⟨fun _ => any, fun _ => rfl⟩⟩

/-- A row of a code whose fields have a range of their own. -/
theorem RowJudges.of_range {i : Instr} {code : Byte} {c : Cmd} {form range : Bool} {run : State → Option Result × State}
    (row : ∀ s, exec i s = .next (s.command code c form range run)) (judged : form = true ↔ commandForm code c.fields)
    (within : range = true ↔ commandInRange code c.fields) : RowJudges i code c :=
  ⟨form, range, run, row, judged, fun _ => within⟩

/-- The row of every code judges its command. -/
theorem commandRow_judges (b : BeatIn) (code : Byte) (c : Cmd) : RowJudges (commandRow b code c) code c := by
  unfold commandRow
  split
  · next h => rw [code_of h]; exact .of_form (fun s => rfl) (loadForm_iff _) trivial
  · next h => rw [code_of h]; exact .of_form (fun s => rfl) beq_iff_eq trivial
  · next h => rw [code_of h]; exact .of_form (fun s => rfl) (isEmpty_iff_length _) trivial
  · next h => rw [code_of h]; exact .of_range (fun s => rfl) beq_iff_eq decide_eq_true_iff
  · next h => rw [code_of h]; exact .of_range (fun s => rfl) beq_iff_eq decide_eq_true_iff
  · next h => rw [code_of h]; exact .of_range (fun s => rfl) beq_iff_eq (timeFields_inRange 6 rfl _)
  · next h => rw [code_of h]; exact .of_form (fun s => rfl) (isEmpty_iff_length _) trivial
  · next h => rw [code_of h]; exact .of_range (fun s => rfl) beq_iff_eq decide_eq_true_iff
  · next h => rw [code_of h]; exact .of_range (fun s => rfl) beq_iff_eq decide_eq_true_iff
  · next h => rw [code_of h]; exact .of_range (fun s => rfl) beq_iff_eq (readMode_isSome _)
  · next h => rw [code_of h]; exact .of_range (fun s => rfl) beq_iff_eq decide_eq_true_iff
  · next h => rw [code_of h]; exact stopScene_judges b c
  · next h => rw [code_of h]; exact .of_form (fun s => rfl) (isEmpty_iff_length _) trivial
  · next h => rw [code_of h]; exact .of_form (fun s => rfl) (isEmpty_iff_length _) trivial
  · next h => rw [code_of h]; exact .of_form (fun s => rfl) beq_iff_eq trivial
  · next h => rw [code_of h]; exact .of_form (fun s => rfl) beq_iff_eq trivial
  · next h => rw [code_of h]; exact .of_form (fun s => rfl) (isEmpty_iff_length _) trivial
  · next h => rw [code_of h]; exact .of_range (fun s => rfl) beq_iff_eq decide_eq_true_iff
  · next h => rw [code_of h]; exact .of_range (fun s => rfl) beq_iff_eq decide_eq_true_iff
  · next h => rw [code_of h]; exact .of_form (fun s => rfl) (isEmpty_iff_length _) trivial
  · next unnamed =>
    refine .of_form (fun s => rfl) ⟨nofun, fun h => ?_⟩ ?_
    · unfold commandForm at h
      split at h <;> simp_all
    · unfold commandInRange
      split <;> simp_all

/-! ### The bytes of a set -/

/-- Bit j of byte i of a number's bytes. -/
theorem byteAt_putN (n : Nat) : ∀ (x i : Nat), i < n → byteAt (putN n x) i = BitVec.ofNat 8 (x >>> (8 * i)) := by
  induction n with
  | zero => intro x i h; omega
  | succ n ih =>
    intro x i h
    cases i with
    | zero => rfl
    | succ i =>
      have next : byteAt (putN (n + 1) x) (i + 1) = byteAt (putN n (x / 256)) i := rfl
      rw [next, ih (x / 256) i (by omega), show 8 * (i + 1) = 8 + 8 * i by ring, Nat.shiftRight_add,
        Nat.shiftRight_eq_div_pow x 8]

/-- The bytes of a set hold its members. -/
theorem byteAt_putSet_flags (x : BitVec 32) (f : Fin 32) :
    (byteAt (putSet x) (f.val / 8)).getLsbD (f.val % 8) = x.getLsbD f := by
  have bytes : putSet x = putN 4 x.toNat := rfl
  rw [bytes, byteAt_putN 4 x.toNat (f.val / 8) (by omega), BitVec.getLsbD_ofNat, Nat.testBit_shiftRight,
    Nat.div_add_mod, BitVec.testBit_toNat]
  simp [Nat.mod_lt]

/-- A broadcast command that is not in form and range is passed on alone. -/
theorem State.command_broadcast_refused {c : Cmd} {code : Byte} {form range : Bool} (h : c.addr = 15)
    (g : broadcastCodes.contains code.toNat = true) (refused : (form && range) = false)
    (run : State → Option Result × State) :
    s.command code c form range run = (s.record c.seq).passOn (Cmd.frame c code) := by
  rw [State.command, State.receive_broadcast (f := Cmd.frame c code) h (agrees_broadcast h g)]
  simp [State.judgeCommand, isBroadcast, h, refused]
  rfl

/-- Settles O52. -/
theorem answersThatChangeNothing : Obligations.AnswersThatChangeNothing := by
  unfold Obligations.AnswersThatChangeNothing
  refine ⟨fun b code c s => ?_, fun code c s hears => ?_, fun c s hears empty => ⟨?_, ?_, ?_⟩⟩
  · obtain ⟨form, range, run, row, formed, within⟩ := commandRow_judges b code c
    simp only [row]
    refine ⟨fun hears => ⟨fun bad => ?_, fun good bad => ?_, fun st => rfl⟩, fun broadcast four refused => ?_⟩
    · rw [Bool.eq_false_iff.mpr (fun h => bad (formed.mp h)), State.command_form hears]
    · have isForm := formed.mpr good
      rw [isForm, Bool.eq_false_iff.mpr (fun h => bad ((within isForm).mp h)), State.command_range hears]
    · have outside : (form && range) = false := by
        rw [Bool.and_eq_false_iff, Bool.eq_false_iff, Bool.eq_false_iff]
        by_cases isForm : form = true
        · exact .inr fun h => refused.elim (· (formed.mp isForm)) (· ((within isForm).mp h))
        · exact .inl isForm
      rw [State.command_broadcast_refused broadcast (by simpa [broadcastCodes] using four) outside]
  · rw [show exec (.unknownCommand code c) s = execUnknownCommand code c s from rfl, execUnknownCommand,
      State.command_form hears]
  · rw [show exec (.readTime c) s = execReadTime c s from rfl, execReadTime, empty, List.isEmpty_nil,
      State.command_run hears]
    rfl
  · refine ⟨putSet s.seq.flags, ?_, rfl, byteAt_putSet_flags s.seq.flags⟩
    rw [show exec (.readFlags c) s = execReadFlags c s from rfl, execReadFlags, empty, List.isEmpty_nil,
      State.command_run hears]
    rfl
  · refine ⟨Config.imageSequence s.free, s.free + 8, ?_, State.statusBody_image _ _ _⟩
    rw [show exec (.readStatus c) s = execReadStatus c s from rfl, execReadStatus, empty, List.isEmpty_nil,
      State.command_run hears]
    rfl

end Sys2Proof.Machine
end

section
/-! SUPPORT. The cancellation of a cue and the end of a slot, block by block (R18, R73, R76, R100, R117). -/

namespace Sys2Proof.Machine

variable {s t : State} {k j : SlotId} {p : PlayRec}

/-! ### Asking for a STATUS twice -/

theorem Sli.askStatus_idem (x : Sli) : x.askStatus.askStatus = x.askStatus := by
  cases waiting : x.ownQueue.any Report.isStatus with
  | true => rw [Sli.askStatus_waiting waiting, Sli.askStatus_waiting waiting]
  | false =>
    by_cases room : x.ownQueue.length < 32
    · rw [Sli.askStatus_room waiting room]
      exact Sli.askStatus_waiting (by simp [Report.isStatus])
    · have full := Nat.not_lt.mp room
      rw [Sli.askStatus_full waiting full]
      exact Sli.askStatus_full (x := { x with owed := true }) waiting full

/-! ### Sets with a member removed -/

theorem withoutMember_same {w : Nat} (x : BitVec w) (i : Fin w) : (withoutMember x i).getLsbD i = false := by
  simp [withoutMember, getLsbD_single]

theorem withoutMember_other {w : Nat} (x : BitVec w) {i j : Fin w} (h : j ≠ i) :
    (withoutMember x i).getLsbD j = x.getLsbD j := by
  rw [withoutMember, BitVec.getLsbD_and, BitVec.getLsbD_not, getLsbD_single]
  simp [h]

/-! ### Cancellation of a cue (R100, R101) -/

/-- A cue whose cancellation queues no report: it is DONE, FAILED or LOST. -/
def Cue.ended (c : Cue) : Prop := c.state = .done ∨ c.state = .failed ∨ c.state = .lost

/-- A slot without a cue has none to cancel. -/
theorem State.cancelCue_none (h : s.nmx.cues[k] = none) (cause : CancelCause) : s.cancelCue k cause = s := by
  rw [State.cancelCue, h]

/-- A cue that has ended is removed alone. -/
theorem State.cancelCue_ended {c : Cue} (h : s.nmx.cues[k] = some c) (ended : c.ended) (cause : CancelCause) :
    s.cancelCue k cause = s.setCue k none := by
  rw [State.cancelCue, h]
  rcases ended with e | e | e <;> simp only [e]

/-- A REQUESTED or PENDING cue is removed with its report. -/
theorem State.cancelCue_waiting {c : Cue} (h : s.nmx.cues[k] = some c) (running : ¬c.ended) (silent : c.state ≠ .live)
    (cause : CancelCause) : s.cancelCue k cause = (s.setCue k none).join (.cueCancel (cueInfo k c) cause) := by
  rw [State.cancelCue, h]
  unfold Cue.ended at running
  cases e : c.state <;> simp_all

/-- A LIVE cue is removed with its report, leaves a ramp and leaves LIVE at the LCO. -/
theorem State.cancelCue_live {c : Cue} (h : s.nmx.cues[k] = some c) (live : c.state = .live) (cause : CancelCause) :
    s.cancelCue k cause = ((((s.setCue k none).onNmx fun x => { x with
      ramps := x.ramps.set c.stream (some { outputs := c.outputs, gain := c.gain }) }).join
        (.cueCancel (cueInfo k c) cause)).onLco (Lco.tellLive k false)) := by
  rw [State.cancelCue, h]
  simp only [live]

/-- A cue has ended, is LIVE, or waits. -/
theorem Cue.cases (c : Cue) : c.ended ∨ c.state = .live ∨ (¬c.ended ∧ c.state ≠ .live) := by
  unfold Cue.ended
  cases c.state <;> simp

theorem Cue.not_ended_of_live {c : Cue} (h : c.state = .live) : ¬c.ended := by simp [Cue.ended, h]

/-- The SLI after a slot's cue was cancelled. -/
theorem State.cancelCue_sli (cause : CancelCause) (s : State) :
    ((∀ c, s.nmx.cues[k] = some c → c.ended) → (s.cancelCue k cause).sli = s.sli) ∧
    (∀ c, s.nmx.cues[k] = some c → ¬c.ended → (s.cancelCue k cause).sli = s.sli.join (.cueCancel (cueInfo k c) cause)) := by
  refine ⟨fun all => ?_, fun c hc running => ?_⟩
  · cases h : s.nmx.cues[k] with
    | none => rw [State.cancelCue_none h]
    | some c => rw [State.cancelCue_ended h (all c h)]; rfl
  · by_cases live : c.state = .live
    · rw [State.cancelCue_live hc live]; rfl
    · rw [State.cancelCue_waiting hc running live]; rfl

/-- The cues after a slot's cue was cancelled. -/
theorem State.cancelCue_cues (cause : CancelCause) (s : State) (j : SlotId) :
    (s.cancelCue k cause).nmx.cues[j] = if j = k then none else s.nmx.cues[j] := by
  cases h : s.nmx.cues[k] with
  | none =>
    rw [State.cancelCue_none h]
    split
    · next e => rw [e, h]
    · rfl
  | some c =>
    rcases c.cases with ended | live | ⟨running, silent⟩
    · rw [State.cancelCue_ended h ended, State.setCue_cues]
    · rw [State.cancelCue_live h live, ← State.setCue_cues k j none s]; rfl
    · rw [State.cancelCue_waiting h running silent, ← State.setCue_cues k j none s]; rfl

/-- The ramps and the LIVE marks after a slot's cue was cancelled: a LIVE cue leaves a ramp and its mark, no other. -/
theorem State.cancelCue_live_marks (cause : CancelCause) (s : State) :
    (∀ c, s.nmx.cues[k] = some c → c.state = .live →
      (s.cancelCue k cause).nmx.ramps = s.nmx.ramps.set c.stream (some { outputs := c.outputs, gain := c.gain }) ∧
      (s.cancelCue k cause).lco = s.lco.tellLive k false) ∧
    ((∀ c, s.nmx.cues[k] = some c → c.state ≠ .live) →
      (s.cancelCue k cause).nmx.ramps = s.nmx.ramps ∧ (s.cancelCue k cause).lco = s.lco) := by
  refine ⟨fun c hc live => ?_, fun silent => ?_⟩
  · rw [State.cancelCue_live hc live]
    exact ⟨rfl, rfl⟩
  · cases h : s.nmx.cues[k] with
    | none => rw [State.cancelCue_none h]; exact ⟨rfl, rfl⟩
    | some c =>
      by_cases ended : c.ended
      · rw [State.cancelCue_ended h ended]; exact ⟨rfl, rfl⟩
      · rw [State.cancelCue_waiting h ended (silent c h)]; exact ⟨rfl, rfl⟩

/-- Beside the cues and the ramps, cancelling a cue leaves the NMX. -/
theorem State.cancelCue_nmx_rest (cause : CancelCause) (s : State) :
    (s.cancelCue k cause).nmx.duck = s.nmx.duck ∧ (s.cancelCue k cause).nmx.present = s.nmx.present ∧
    (s.cancelCue k cause).nmx.nextCue = s.nmx.nextCue := by
  cases h : s.nmx.cues[k] with
  | none => rw [State.cancelCue_none h]; exact ⟨rfl, rfl, rfl⟩
  | some c =>
    rcases c.cases with ended | live | ⟨running, silent⟩
    · rw [State.cancelCue_ended h ended]; exact ⟨rfl, rfl, rfl⟩
    · rw [State.cancelCue_live h live]; exact ⟨rfl, rfl, rfl⟩
    · rw [State.cancelCue_waiting h running silent]; exact ⟨rfl, rfl, rfl⟩

/-- Beside the LIVE marks, cancelling a cue leaves the LCO. -/
theorem State.cancelCue_lco (cause : CancelCause) (s : State) :
    (s.cancelCue k cause).lco = { s.lco with cueLive := (s.cancelCue k cause).lco.cueLive } := by
  by_cases live : ∃ c, s.nmx.cues[k] = some c ∧ c.state = .live
  · obtain ⟨c, hc, live⟩ := live
    rw [((State.cancelCue_live_marks cause s).1 c hc live).2]
    rfl
  · rw [((State.cancelCue_live_marks cause s).2 fun c hc h => live ⟨c, hc, h⟩).2]

/-- The LIVE marks of the other slots stay when a cue is cancelled. -/
theorem State.cancelCue_live_other (cause : CancelCause) (s : State) (h : j ≠ k) :
    (s.cancelCue k cause).lco.cueLive.getLsbD j = s.lco.cueLive.getLsbD j := by
  by_cases live : ∃ c, s.nmx.cues[k] = some c ∧ c.state = .live
  · obtain ⟨c, hc, live⟩ := live
    rw [((State.cancelCue_live_marks cause s).1 c hc live).2]
    exact withoutMember_other _ h
  · rw [((State.cancelCue_live_marks cause s).2 fun c hc h => live ⟨c, hc, h⟩).2]

/-- A cue is cancelled as R100 and R101 say, when a STATUS is then asked for. -/
theorem State.cancelCue_cancelled (cause : CancelCause) (s : State) :
    CueCancelled k cause s (s.cancelCue k cause).askStatus := by
  obtain ⟨quiet, told⟩ := State.cancelCue_sli (k := k) cause s
  obtain ⟨live, silent⟩ := State.cancelCue_live_marks (k := k) cause s
  obtain ⟨duck, present, next⟩ := State.cancelCue_nmx_rest (k := k) cause s
  have sli : (s.cancelCue k cause).askStatus.sli = (s.cancelCue k cause).sli.askStatus := rfl
  refine ⟨State.cancelCue_cues cause s, fun all => ?_, fun c hc running => ⟨fun room => ?_, fun full => ?_⟩,
    fun c hc h => ⟨(live c hc h).1, ?_⟩, fun h => ⟨(silent h).1, ?_⟩, fun j h => State.cancelCue_live_other cause s h,
    duck, present, next⟩
  · rw [sli, quiet all]
  · rw [sli, told c hc running, Sli.join_room _ room]
  · rw [sli, told c hc running, Sli.join_full _ full, Sli.askStatus_idem]
  · simp only [State.askStatus_frame]
    rw [(live c hc h).2]
    exact withoutMember_same _ _
  · simp only [State.askStatus_frame]
    rw [(silent h).2]

/-- A cancellation is told by the SLI, the NMX and the LIVE marks alone. -/
theorem CueCancelled.congr {s' t' : State} {cause : CancelCause} (h : CueCancelled k cause s t) (sli : s'.sli = s.sli)
    (nmx : s'.nmx = s.nmx) (live : s'.lco.cueLive = s.lco.cueLive) (sli' : t'.sli = t.sli) (nmx' : t'.nmx = t.nmx)
    (live' : t'.lco.cueLive = t.lco.cueLive) : CueCancelled k cause s' t' := by
  unfold CueCancelled at h ⊢
  rw [sli, nmx, live, sli', nmx', live']
  exact h

end Sys2Proof.Machine
end

section
/-! SUPPORT. The end of a slot, block by block, and the release of its claims (R18, R50, R76, R117). -/

namespace Sys2Proof.Machine

variable {s t : State} {k j : SlotId} {p : PlayRec}

/-! ### What the lights, the cue and the axes take from the end of a slot -/

/-- The lights as a slot ends: its groups that are not kept are released, its effect is cleared (R73, R76). -/
@[irreducible] def Lco.slotEnded (k : SlotId) (groups : BitVec 48) (fade : Nat) (x : Lco) : Lco :=
  (x.releaseGroups k groups fade).clearEffect k

theorem Lco.slotEnded_channels (groups : BitVec 48) (fade : Nat) (x : Lco) (c : ChannelId) :
    (x.slotEnded k groups fade).channels[c] =
      if groups.getLsbD (channelGroup c) && x.channels[c].layer.owner == some k then releaseLayer fade x.channels[c]
      else x.channels[c] := by
  unfold Lco.slotEnded
  simp [Lco.clearEffect, Lco.releaseGroups, Lco.mapChannels]

theorem Lco.slotEnded_effects (groups : BitVec 48) (fade : Nat) (x : Lco) (j : SlotId) :
    (x.slotEnded k groups fade).effects[j] = if j = k then none else x.effects[j] := by
  have effects : (x.slotEnded k groups fade).effects = x.effects.set k none := by
    unfold Lco.slotEnded
    simp only [Lco.clearEffect, Lco.releaseGroups, Lco.mapChannels]
  rw [effects]
  split
  · next e => rw [e, Fin.getElem_fin]; exact Vector.getElem_set_self ..
  · next e => rw [Fin.getElem_fin]; exact Vector.getElem_set_ne _ _ (fun h => e (Fin.ext h.symm))

theorem Lco.slotEnded_rest (groups : BitVec 48) (fade : Nat) (x : Lco) :
    (x.slotEnded k groups fade).masters = x.masters ∧ (x.slotEnded k groups fade).cueLive = x.cueLive := by
  unfold Lco.slotEnded
  simp only [Lco.clearEffect, Lco.releaseGroups, Lco.mapChannels, true_and]

/-- A slot's record and lights as it ends, before its cue is cancelled. -/
def State.slotDark (k : SlotId) (p : PlayRec) (reason : EndReason) (kept : Claims) (s : State) : State :=
  (s.onSeq fun x => { x with slots := x.slots.set k (.free (some p.scene) reason) }).onLco
    (Lco.slotEnded k (p.claims.groups &&& ~~~kept.groups) (s.endFade p reason))

theorem State.slotDark_frame (reason : EndReason) (kept : Claims) (s : State) :
    (s.slotDark k p reason kept).sli = s.sli ∧ (s.slotDark k p reason kept).nmx = s.nmx ∧
    (s.slotDark k p reason kept).mgt = s.mgt ∧ (s.slotDark k p reason kept).lco =
      s.lco.slotEnded k (p.claims.groups &&& ~~~kept.groups) (s.endFade p reason) := ⟨rfl, rfl, rfl, rfl⟩

/-- The end of a PLAYING slot, in the order of its steps. -/
theorem State.endSlot_some (hp : s.play k = some p) (reason : EndReason) (kept : Claims) :
    s.endSlot k reason kept = (((s.slotDark k p reason kept).cancelCue k reason.cause).onMgt
      (Mgt.mapAxes (p.claims.axes &&& ~~~kept.axes) Axis.drop)).askStatus := by
  rw [State.endSlot, hp, State.slotDark]
  unfold Lco.slotEnded
  rfl

/-- The LCO, the NMX and the SLI after the end of a slot are as the cancellation of its cue leaves them. -/
theorem State.endSlot_cancelled (hp : s.play k = some p) (reason : EndReason) (kept : Claims) :
    (s.endSlot k reason kept).lco = ((s.slotDark k p reason kept).cancelCue k reason.cause).lco ∧
    (s.endSlot k reason kept).nmx = ((s.slotDark k p reason kept).cancelCue k reason.cause).nmx ∧
    (s.endSlot k reason kept).sli = ((s.slotDark k p reason kept).cancelCue k reason.cause).sli.askStatus := by
  rw [State.endSlot_some hp]
  simp only [State.askStatus, State.onSli_sli, State.onSli_lco, State.onSli_nmx, State.onMgt_sli, State.onMgt_lco,
    State.onMgt_nmx, and_self]

/-- The lights after the end of a slot, but for the LIVE marks. -/
theorem State.endSlot_lco (hp : s.play k = some p) (reason : EndReason) (kept : Claims) :
    (s.endSlot k reason kept).lco = { s.lco.slotEnded k (p.claims.groups &&& ~~~kept.groups) (s.endFade p reason) with
      cueLive := (s.endSlot k reason kept).lco.cueLive } := by
  rw [(State.endSlot_cancelled hp reason kept).1, State.cancelCue_lco, (State.slotDark_frame reason kept s).2.2.2]

/-- The axes after the end of a slot: those of its claims that are not kept lose keyframe and scene target. -/
theorem State.endSlot_axes (hp : s.play k = some p) (reason : EndReason) (kept : Claims) (a : AxisId) :
    (s.endSlot k reason kept).mgt.axes[a] =
      if (p.claims.axes &&& ~~~kept.axes).getLsbD a then Axis.drop s.mgt.axes[a] else s.mgt.axes[a] := by
  have mgt : (s.endSlot k reason kept).mgt = Mgt.mapAxes (p.claims.axes &&& ~~~kept.axes) Axis.drop s.mgt := by
    rw [State.endSlot_some hp]
    simp only [State.askStatus_frame, State.onMgt_mgt, State.cancelCue_frame, (State.slotDark_frame reason kept s).2.2.1]
  rw [mgt]
  simp only [Mgt.mapAxes, Fin.getElem_fin, Vector.getElem_ofFn]

/-- Beside the axes, the end of a slot leaves the MGT. -/
theorem State.endSlot_mgt_rest (reason : EndReason) (kept : Claims) :
    { (s.endSlot k reason kept).mgt with axes := s.mgt.axes } = s.mgt := by
  cases hp : s.play k with
  | none => rw [State.endSlot_none hp]
  | some p =>
    rw [State.endSlot_some hp]
    simp only [State.askStatus_frame, State.onMgt_mgt, State.cancelCue_frame, (State.slotDark_frame reason kept s).2.2.1,
      Mgt.mapAxes]

/-- The cue of a slot that ends is cancelled, and a STATUS asked for. -/
theorem State.endSlot_cue (hp : s.play k = some p) (reason : EndReason) (kept : Claims) :
    CueCancelled k reason.cause s (s.endSlot k reason kept) := by
  obtain ⟨lco, nmx, sli⟩ := State.endSlot_cancelled hp reason kept
  have cancelled := State.cancelCue_cancelled (k := k) reason.cause (s.slotDark k p reason kept)
  obtain ⟨sli', nmx', mgt', lco'⟩ := State.slotDark_frame (k := k) (p := p) reason kept s
  refine cancelled.congr sli'.symm nmx'.symm (by rw [lco', (Lco.slotEnded_rest _ _ _).2]) ?_ ?_ ?_
  · rw [sli]; rfl
  · rw [nmx]; simp only [State.askStatus_frame]
  · rw [lco]; simp only [State.askStatus_frame]

/-! ### The release of the claims (R50) -/

theorem State.releaseClaims_axes (s : State) (a : AxisId) : (s.releaseClaims k p).mgt.axes[a] =
    Axis.enter ((s.onArb (Arb.release k p.claims.mask)).modeOf a) s.mgt.axes[a] := by
  rw [State.releaseClaims, State.judgeAxes_axes]
  rfl

theorem State.releaseClaims_modeOf (s : State) (a : AxisId) :
    (s.releaseClaims k p).modeOf a = (s.onArb (Arb.release k p.claims.mask)).modeOf a :=
  State.judgeAxes_modeOf a _

/-- Beside the owners, the release of claims leaves the ARB. -/
theorem State.releaseClaims_arb_eq (s : State) : (s.releaseClaims k p).arb =
    { s.arb with owners := (s.releaseClaims k p).arb.owners } := by
  rw [State.releaseClaims]
  simp only [State.judgeAxes_frame, State.onArb_arb]
  rfl

/-- A slot has ended and the ARB has taken its release. -/
def State.ended (k : SlotId) (p : PlayRec) (reason : EndReason) (s : State) : State :=
  (s.endSlot k reason {}).releaseClaims k p

theorem State.freeSlot_ended (hp : s.play k = some p) (reason : EndReason) :
    s.freeSlot k reason = s.ended k p reason := State.freeSlot_some hp reason

theorem BitVec.and_not_empty {w : Nat} (x : BitVec w) : x &&& ~~~(0 : BitVec w) = x := by
  ext i
  simp

/-- The axes that an end drops, once the release has judged their modes. -/
theorem State.ended_axes (hp : s.play k = some p) (reason : EndReason) (a : AxisId) :
    (s.ended k p reason).mgt.axes[a] = { s.mgt.axes[a] with
      mode := (s.ended k p reason).modeOf a
      step := if ((s.ended k p reason).modeOf a).isSending then (s.mgt.axes[a]).step else 0
      resetHold := ((s.ended k p reason).modeOf a).isSending && (s.mgt.axes[a]).resetHold
      keyframe := if p.claims.axes.getLsbD a then none else (s.mgt.axes[a]).keyframe
      sceneTarget := if p.claims.axes.getLsbD a then none else (s.mgt.axes[a]).sceneTarget } := by
  have all : p.claims.axes &&& ~~~({} : Claims).axes = p.claims.axes := BitVec.and_not_empty _
  rw [State.ended, State.releaseClaims_axes, ← State.releaseClaims_modeOf, State.endSlot_axes hp, all, Axis.enter_eq]
  cases p.claims.axes.getLsbD a <;> rfl

/-- What an end with its release leaves, and what it takes from the end alone. -/
theorem State.ended_frame (reason : EndReason) (s : State) :
    (s.ended k p reason).sli = (s.endSlot k reason {}).sli ∧ (s.ended k p reason).nmx = (s.endSlot k reason {}).nmx ∧
    (s.ended k p reason).lco = (s.endSlot k reason {}).lco ∧ (s.ended k p reason).mu = s.mu ∧
    (s.ended k p reason).sck = s.sck ∧ (s.ended k p reason).iou = s.iou ∧ (s.ended k p reason).ports = s.ports ∧
    (s.ended k p reason).free = s.free ∧ (s.ended k p reason).pending = s.pending ∧
    (s.ended k p reason).seq.flags = s.seq.flags ∧ (s.ended k p reason).seq.bare = (s.endSlot k reason {}).seq.bare := by
  unfold State.ended
  simp only [State.releaseClaims_frame, State.releaseClaims_flags, State.releaseClaims_bare, State.endSlot_frame,
    State.endSlot_flags, true_and]
  exact ⟨by simp only [State.releaseClaims, State.judgeAxes_frame, State.onArb_sli], by simp only [State.releaseClaims, State.judgeAxes_frame, State.onArb_nmx],
    by simp only [State.releaseClaims, State.judgeAxes_frame, State.onArb_lco], trivial⟩

/-- The channels and the effects after an end. -/
theorem State.ended_lco (hp : s.play k = some p) (reason : EndReason) :
    (∀ c : ChannelId, (s.ended k p reason).lco.channels[c] =
      if p.claims.groups.getLsbD (channelGroup c) && s.lco.channels[c].layer.owner == some k then
        releaseLayer (s.endFade p reason) s.lco.channels[c] else s.lco.channels[c]) ∧
    (∀ j : SlotId, (s.ended k p reason).lco.effects[j] = if j = k then none else s.lco.effects[j]) ∧
    (s.ended k p reason).lco.masters = s.lco.masters := by
  have all : p.claims.groups &&& ~~~({} : Claims).groups = p.claims.groups := BitVec.and_not_empty _
  rw [(State.ended_frame reason s).2.2.1, State.endSlot_lco hp, all]
  exact ⟨Lco.slotEnded_channels _ _ _, Lco.slotEnded_effects _ _ _, (Lco.slotEnded_rest _ _ _).1⟩

theorem releaseLayer_layer (fade : Nat) (ch : Channel) :
    releaseLayer fade ch = { ch with layer := releasedLayer fade ch } := by
  unfold releaseLayer releasedLayer
  split <;> rfl

/-- The end of a slot for a reason other than SHOW-STOP, with its release, is as `SlotEnded` has it. -/
theorem State.slotEnded (hp : s.play k = some p) {reason : EndReason} (notStop : reason ≠ .showStop) :
    SlotEnded k p reason reason.cause s (s.ended k p reason) := by
  obtain ⟨channels, effects, masters⟩ := State.ended_lco hp reason
  obtain ⟨sli, nmx, lco, mu, sck, iou, ports, free, pending, flags, bare⟩ := State.ended_frame (k := k) (p := p) reason s
  have slots : ∀ j, (s.ended k p reason).seq.bare j = if j = k then .free (some p.scene) reason else s.seq.bare j :=
    fun j => by rw [bare, State.endSlot_bare hp]
  have released : ∀ c : ChannelId, (s.ended k p reason).lco.channels[c] = { s.lco.channels[c] with
      layer := if p.claims.groups.getLsbD (channelGroup c) = true ∧ (s.lco.channels[c]).layer.owner = some k then
        releasedLayer (s.endFade p reason) s.lco.channels[c] else (s.lco.channels[c]).layer } := fun c => by
    rw [channels, releaseLayer_layer]
    simp only [Bool.and_eq_true, beq_iff_eq]
    split <;> rfl
  refine ⟨State.slot_of_bare (by rw [slots, if_pos rfl]), fun j q ne hq => ?_, fun sc c hsc => ?_, effects, ?_,
    State.ended_axes hp reason, fun x => ?_, flags, ?_, ?_, mu, sck, ports, masters, fun c => ?_⟩
  · exact State.play_bare_congr (by rw [slots, if_neg ne]) hq
  · have fade : s.endFade p reason = sc.releaseFade := by rw [State.endFade, if_neg notStop, hsc]
    rw [released, fade]
  · exact (State.endSlot_cue hp reason {}).congr rfl rfl rfl sli nmx (by rw [lco])
  · have arb : (s.endSlot k reason {}).arb = s.arb := by simp only [State.endSlot_frame]
    rw [State.ended, State.releaseClaims_owners, arb]
    simp only [Bool.and_eq_true, beq_iff_eq]
  · have arb : (s.endSlot k reason {}).arb = s.arb := by simp only [State.endSlot_frame]
    rw [State.ended, State.releaseClaims_arb_eq, arb]
  · rw [iou]
  · rw [released]

end Sys2Proof.Machine
end

section
/-! SUPPORT. The outcome log, departures from the queue, and the end of a slot under a judgement of the indicators. -/

namespace Sys2Proof.Machine

variable {s t u : State} {k j : SlotId} {p : PlayRec}

/-! ### The last entries of a list -/

/-- The last n of a list. -/
def lastOf {α : Type} (n : Nat) (l : List α) : List α := l.drop (l.length - n)

/-- The last n of a list that was cut to its last n before more joined it. -/
theorem lastOf_append {α : Type} (n : Nat) (l es : List α) : lastOf n (lastOf n l ++ es) = lastOf n (l ++ es) := by
  have cut : lastOf n l ++ es = (l ++ es).drop (l.length - n) := by
    rw [lastOf, List.drop_append_of_le_length (Nat.sub_le _ _)]
  rw [cut, lastOf, List.drop_drop, lastOf]
  congr 1
  simp only [List.length_drop, List.length_append]
  omega

theorem Arb.enter_log (i : SceneId) (src : Source) (n : Nat) (o : OutcomeKind) (tag : Option Half) (x : Arb) :
    x.enter i src n o tag = { x with
      log := lastOf 16 (x.log ++ [{ number := x.nextNumber, scene := i, source := src, priority := n, kind := o, tag }])
      nextNumber := x.nextNumber + 1 } := rfl

/-! ### A STATUS is asked for -/

/-- A STATUS waits in the own-report queue or is owed. -/
def Sli.asked (x : Sli) : Prop := .status ∈ x.ownQueue ∨ x.owed = true

theorem Sli.askStatus_asked (x : Sli) : x.askStatus.asked := by
  cases waiting : x.ownQueue.any Report.isStatus with
  | true =>
    rw [Sli.askStatus_waiting waiting]
    obtain ⟨r, hr, is⟩ := List.any_eq_true.mp waiting
    cases r with
    | status => exact .inl hr
    | cueStart => cases is
    | cueCancel => cases is
    | reply => cases is
  | false =>
    by_cases room : x.ownQueue.length < 32
    · rw [Sli.askStatus_room waiting room]
      exact .inl (by simp)
    · rw [Sli.askStatus_full waiting (Nat.not_lt.mp room)]
      exact .inr rfl

/-! ### Departures (R48, R64) -/

theorem State.depart_arb_eq (r : Request) (d : Departure) (s : State) : (s.depart r d).arb = { s.arb with
    queue := s.arb.queue.erase r
    log := lastOf 16 (s.arb.log ++ [{ number := s.arb.nextNumber, scene := r.scene, source := r.source
                                      priority := r.priority, kind := .departed d, tag := r.tag }])
    nextNumber := s.arb.nextNumber + 1 } := rfl

theorem State.depart_rest (r : Request) (d : Departure) (s : State) :
    { s.depart r d with arb := s.arb, sli := s.sli } = s := rfl

/-- The entry of a request that leaves under an outcome number. -/
def departureEntry (d : Departure) (n : Half) (r : Request) : LogEntry :=
  { number := n, scene := r.scene, source := r.source, priority := r.priority, kind := .departed d, tag := r.tag }

/-- The entries of requests that leave in this order, from an outcome number on. -/
def departureEntries (d : Departure) : Half → List Request → List LogEntry
  | _, [] => []
  | n, r :: rs => departureEntry d n r :: departureEntries d (n + 1) rs

theorem departureEntries_eq (d : Departure) (rs : List Request) : ∀ n : Half,
    rs.zipIdx.map (fun (r, i) => departureEntry d (n + BitVec.ofNat 16 i) r) = departureEntries d n rs := by
  induction rs with
  | nil => exact fun n => rfl
  | cons r rs ih =>
    intro n
    have shift : ∀ i : Nat, n + BitVec.ofNat 16 (i + 1) = n + 1 + BitVec.ofNat 16 i := fun i => by bv_omega
    rw [List.zipIdx_cons, List.map_cons, List.zipIdx_succ, List.map_map, departureEntries, ← ih (n + 1)]
    refine congrArg₂ List.cons (by simp) (List.map_congr_left fun x _ => ?_)
    simp only [Function.comp, shift]

theorem departuresLogged_eq (d : Departure) (rs : List Request) (x : Arb) : departuresLogged d rs x =
    if rs = [] then x.log else lastOf 16 (x.log ++ departureEntries d x.nextNumber rs) := by
  rw [← departureEntries_eq]
  rfl

/-- The ARB after requests have left one by one. -/
theorem State.departs_arb (d : Departure) (rs : List Request) : ∀ s : State,
    (rs.foldl (fun s r => s.depart r d) s).arb = { s.arb with
      queue := rs.foldl List.erase s.arb.queue
      log := departuresLogged d rs s.arb
      nextNumber := s.arb.nextNumber + BitVec.ofNat 16 rs.length } := by
  induction rs with
  | nil => intro s; simp [departuresLogged]
  | cons r rs ih =>
    intro s
    have numbers : s.arb.nextNumber + 1 + BitVec.ofNat 16 rs.length =
        s.arb.nextNumber + BitVec.ofNat 16 (r :: rs).length := by
      rw [List.length_cons]
      bv_omega
    have log : departuresLogged d rs (s.depart r d).arb = departuresLogged d (r :: rs) s.arb := by
      rw [departuresLogged_eq, departuresLogged_eq, if_neg (List.cons_ne_nil r rs), State.depart_arb_eq, departureEntries]
      dsimp only
      split
      · next nil => rw [nil]; rfl
      · rw [lastOf_append, List.append_assoc]
        rfl
    rw [List.foldl_cons, ih, log, State.depart_arb_eq]
    dsimp only
    rw [numbers, List.foldl_cons]

/-- The ARB after every queued request of which a test holds has left. -/
theorem State.departAll_arb_eq (test : Request → Bool) (d : Departure) (s : State) : (s.departAll test d).arb = { s.arb with
    queue := s.arb.queue.filter fun r => !test r
    log := departuresLogged d (s.arb.queue.filter test) s.arb
    nextNumber := s.arb.nextNumber + BitVec.ofNat 16 (s.arb.queue.filter test).length } := by
  rw [State.departAll, State.departs_arb, foldl_erase_filter]

theorem State.departAll_rest (test : Request → Bool) (d : Departure) (s : State) :
    { s.departAll test d with arb := s.arb, sli := s.sli } = s := by
  unfold State.departAll
  exact foldl_same (f := fun s r => State.depart r d s) (g := fun u : State => { u with arb := s.arb, sli := s.sli })
    (fun _ _ => rfl) _ s

/-- A departure asks for a STATUS. -/
theorem State.departs_asked (d : Departure) (rs : List Request) : ∀ s : State, rs ≠ [] ∨ s.sli.asked →
    (rs.foldl (fun s r => s.depart r d) s).sli.asked := by
  induction rs with
  | nil => exact fun s h => h.resolve_left (fun h => h rfl)
  | cons r rs ih => exact fun s _ => ih (s.depart r d) (.inr (Sli.askStatus_asked _))

/-! ### A judgement of the indicators after the end of a slot -/

theorem State.judgeIndicators_inputs (s : State) : SameInputs s s.judgeIndicators :=
  ⟨by simp only [State.judgeIndicators_frame], by simp only [State.judgeIndicators_frame],
    by simp only [State.judgeIndicators_frame], by simp only [State.judgeIndicators_frame],
    by simp only [State.judgeIndicators_frame]⟩

theorem State.judgeIndicators_modeOf (a : AxisId) (s : State) : s.judgeIndicators.modeOf a = s.modeOf a :=
  (State.judgeIndicators_inputs s).modeOf (by simp only [State.judgeIndicators_frame])

theorem State.judgeIndicators_effects (s : State) : s.judgeIndicators.lco.effects = s.lco.effects ∧
    s.judgeIndicators.lco.cueLive = s.lco.cueLive := by
  have h := State.judgeIndicators_lco_rest s
  have effects := congrArg Lco.effects h
  have live := congrArg Lco.cueLive h
  dsimp only at effects live
  exact ⟨effects, live⟩

theorem State.judgeIndicators_layer (c : ChannelId) (s : State) :
    (s.judgeIndicators.lco.channels[c]).layer = (s.lco.channels[c]).layer := by
  rw [State.judgeIndicators_channel]

theorem State.judgeIndicators_play (k : SlotId) (s : State) : s.judgeIndicators.play k = s.play k :=
  State.play_of_slot (by simp only [State.judgeIndicators_frame])

theorem State.judgeIndicators_iou_eq (s : State) :
    s.judgeIndicators.iou = { s.iou with indicators := s.judgeIndicators.iou.indicators } := by
  have h := State.judgeIndicators_iou_rest s
  generalize s.judgeIndicators.iou = x at h ⊢
  cases x
  rw [← h]

/-- A slot's end stays as it is while the indicators are judged (R35). -/
theorem SlotEnded.judged {reason : EndReason} {cause : CancelCause} (h : SlotEnded k p reason cause s u) :
    SlotEnded k p reason cause s u.judgeIndicators := by
  obtain ⟨slot, others, layers, effects, cue, axes, owners, flags, arb, iou, mu, sck, ports, masters, channels⟩ := h
  refine ⟨?_, fun j q ne hq => ?_, fun sc c hsc => ?_, fun j => ?_, ?_, fun a => ?_, fun x => ?_, ?_, ?_, ?_, ?_, ?_, ?_,
    ?_, fun c => ?_⟩
  · simpa only [State.judgeIndicators_frame] using slot
  · simpa only [State.judgeIndicators_play] using others j q ne hq
  · rw [State.judgeIndicators_layer, layers sc c hsc]
  · rw [(State.judgeIndicators_effects u).1, effects]
  · exact cue.congr rfl rfl rfl (by simp only [State.judgeIndicators_frame]) (by simp only [State.judgeIndicators_frame])
      (State.judgeIndicators_effects u).2
  · simpa only [State.judgeIndicators_modeOf, State.judgeIndicators_frame] using axes a
  · simpa only [State.judgeIndicators_frame] using owners x
  · simpa only [State.judgeIndicators_frame] using flags
  · simpa only [State.judgeIndicators_frame] using arb
  · rw [State.judgeIndicators_iou_eq, iou]
  · simpa only [State.judgeIndicators_frame] using mu
  · simpa only [State.judgeIndicators_frame] using sck
  · simpa only [State.judgeIndicators_frame] using ports
  · rw [State.judgeIndicators_lights, masters]
  · rw [State.judgeIndicators_channel, channels]

end Sys2Proof.Machine
end

section
/-! PROOF. STOP-SCENE by scene and by slot (R60, R178). -/

namespace Sys2Proof.Machine

variable {s : State} {k : SlotId} {p : PlayRec}

/-- The end of a slot STOPPED or ABANDONED, with its release, and the walk. -/
theorem State.endAndWalk_some (hp : s.play k = some p) (reason : EndReason) :
    s.endAndWalk k reason = (s.ended k p reason).walk := by
  rw [State.endAndWalk, State.freeSlot_ended hp]

theorem State.ended_queue (reason : EndReason) (s : State) : (s.ended k p reason).arb.queue = s.arb.queue := by
  rw [State.ended, State.releaseClaims_queue]
  simp only [State.endSlot_frame]

/-- With nothing queued, an end and its walk are the end and the judgement of the indicators. -/
theorem State.endAndWalk_ended (hp : s.play k = some p) (nil : s.arb.queue = []) {reason : EndReason}
    (notStop : reason ≠ .showStop) : SlotEnded k p reason reason.cause s (s.endAndWalk k reason) ∧
      IndicatorsJudged (s.endAndWalk k reason) := by
  rw [State.endAndWalk_some hp, State.walk_nil (by rw [State.ended_queue, nil])]
  exact ⟨(State.slotEnded hp notStop).judged, State.judgeIndicators_judged _⟩

/-- The entry that joined last is the last of the log. -/
theorem lastOf_getLast {α : Type} (n : Nat) (l : List α) (e : α) : (lastOf (n + 1) (l ++ [e])).getLast? = some e := by
  have cut : lastOf (n + 1) (l ++ [e]) = l.drop (l.length - n) ++ [e] := by
    rw [lastOf, List.length_append, List.length_singleton, Nat.add_sub_add_right,
      List.drop_append_of_le_length (Nat.sub_le _ _)]
  rw [cut, List.getLast?_concat]

theorem State.answer_some (code : Byte) (tag : Half) (x : Result) (t : State) :
    State.answer code tag (some x, t) = t.reply code x.1 tag x.2 := rfl

/-- A byte that holds a small number reads as it. -/
theorem toNat_byte {n : Nat} (h : n < 256) : (BitVec.ofNat 8 n).toNat = n := by
  rw [BitVec.toNat_ofNat]
  exact Nat.mod_eq_of_lt h

/-- STOP-SCENE naming a scene is answered with what `stopScene` has done (R178). -/
theorem exec_stopSceneByScene {c : Cmd} {i : SceneId} (hears : s.hears c) (fields : c.fields = [0, BitVec.ofNat 8 i.val])
    {r : StopResult} {t : State} {bytes : List Byte} (run : (s.record c.seq).stopScene i = (r, t))
    (result : r.result = (.done, bytes)) : exec (.stopSceneByScene c) s = .next (t.reply 12 .done c.tag bytes) := by
  have named : u8 c.fields 1 = i.val := by
    rw [fields]
    exact toNat_byte (by omega)
  have form : (c.fields.length == 2) = true := by rw [fields]; rfl
  have range : decide (u8 c.fields 0 = 0 ∧ u8 c.fields 1 < 48) = true := by
    rw [named, fields]
    exact decide_eq_true ⟨rfl, i.isLt⟩
  have read : Fin.ofNat 48 (u8 c.fields 1) = i := by rw [named]; exact Fin.ofNat_val_eq_self i
  rw [show exec (.stopSceneByScene c) s = execStopSceneByScene c s from rfl, execStopSceneByScene, form, range, read,
    State.command_run hears, State.runStopScene, run, State.answer_some, result]

/-- STOP-SCENE naming a slot is answered with what `stopSlot` has done (R178). -/
theorem exec_stopSceneBySlot {c : Cmd} {k : SlotId} (hears : s.hears c) (fields : c.fields = [1, BitVec.ofNat 8 k.val])
    {r : StopResult} {t : State} {bytes : List Byte} (run : (s.record c.seq).stopSlot k = (r, t))
    (result : r.result = (.done, bytes)) : exec (.stopSceneBySlot c) s = .next (t.reply 12 .done c.tag bytes) := by
  have named : u8 c.fields 1 = k.val := by
    rw [fields]
    exact toNat_byte (by omega)
  have form : (c.fields.length == 2) = true := by rw [fields]; rfl
  have range : decide (u8 c.fields 0 = 1 ∧ u8 c.fields 1 < 8) = true := by
    rw [named, fields]
    exact decide_eq_true ⟨rfl, k.isLt⟩
  have read : Fin.ofNat 8 (u8 c.fields 1) = k := by rw [named]; exact Fin.ofNat_val_eq_self k
  rw [show exec (.stopSceneBySlot c) s = execStopSceneBySlot c s from rfl, execStopSceneBySlot, form, range, read,
    State.command_run hears, State.runStopSlot, run, State.answer_some, result]

theorem State.stopScene_playing {i : SceneId} (h : s.playingSlot i = some k) :
    s.stopScene i = (.ended k, s.endAndWalk k .stopped) := by rw [State.stopScene, h]

theorem State.stopScene_queued {i : SceneId} (h : s.playingSlot i = none) (queued : s.isQueued i = true) :
    s.stopScene i = (.removed, (s.departAll (fun r => r.scene == i) .stopped).walk) := by
  rw [State.stopScene, h]
  simp only [queued, if_true]

theorem State.stopScene_nothing {i : SceneId} (h : s.playingSlot i = none) (queued : s.isQueued i = false) :
    s.stopScene i = (.nothing, s) := by
  rw [State.stopScene, h]
  simp only [queued, Bool.false_eq_true, if_false]

theorem State.stopSlot_playing (h : s.play k = some p) : s.stopSlot k = (.ended k, s.endAndWalk k .stopped) := by
  rw [State.stopSlot, h]

theorem State.stopSlot_free (h : s.play k = none) : s.stopSlot k = (.nothing, s) := by rw [State.stopSlot, h]

/-- Settles O38: each case of STOP-SCENE is an equation of `stopScene` or `stopSlot`. -/
theorem stopScene : Obligations.StopScene := by
  unfold Obligations.StopScene
  refine ⟨fun k p s hp => ⟨s.ended k p .stopped, State.slotEnded hp (by decide), State.endAndWalk_some hp _⟩,
    fun c i s hears fields => ⟨fun k hk => ?_, fun k p hk hp nil => ?_, fun free queued => ?_, fun r free hr queue => ?_,
      fun free queued => ?_⟩, fun c k s hears fields => ⟨fun p hp => ?_, fun p hp nil => ?_, fun free => ?_⟩⟩
  · exact exec_stopSceneByScene hears fields (State.stopScene_playing (s := s.record c.seq) hk) rfl
  · obtain ⟨q, hq, scene⟩ := State.playingSlot_some hk
    obtain ⟨ended, judged⟩ := State.endAndWalk_ended (s := s.record c.seq) (reason := .stopped) hp nil (by decide)
    have same : q = p := Option.some.inj (hq.symm.trans hp)
    exact ⟨_, exec_stopSceneByScene hears fields (State.stopScene_playing (s := s.record c.seq) hk) rfl, same ▸ scene,
      ended, judged⟩
  · let u := (s.record c.seq).departAll (fun r => r.scene == i) .stopped
    have asked : u.sli.asked := by
      refine State.departs_asked _ _ _ (.inl ?_)
      obtain ⟨r, hr, hi⟩ := State.isQueued_iff.mp queued
      exact List.ne_nil_of_mem (List.mem_filter.mpr ⟨hr, beq_iff_eq.mpr hi⟩)
    exact ⟨u, exec_stopSceneByScene hears fields (State.stopScene_queued (s := s.record c.seq) free queued) rfl,
      State.departAll_arb_eq _ _ _, asked,
      congrArg (fun u : State => { u with arb := s.arb, sli := s.sli }) (State.departAll_rest _ _ (s.record c.seq))⟩
  · have queued : s.isQueued i = true := State.isQueued_iff.mpr ⟨r, by rw [queue]; exact List.mem_singleton_self r, hr⟩
    have named : s.arb.queue.filter (fun r => r.scene == i) = [r] := by simp [queue, hr]
    have others : s.arb.queue.filter (fun r => !(r.scene == i)) = [] := by simp [queue, hr]
    have arb := State.departAll_arb_eq (fun r => r.scene == i) .stopped (s.record c.seq)
    have rest := State.departAll_rest (fun r => r.scene == i) .stopped (s.record c.seq)
    have ran := exec_stopSceneByScene hears fields (State.stopScene_queued (s := s.record c.seq) free queued) rfl
    generalize (s.record c.seq).departAll (fun r => r.scene == i) .stopped = u at arb rest ran
    have kept : (s.record c.seq).arb = s.arb := rfl
    rw [kept, named, others, departuresLogged_eq, if_neg (List.cons_ne_nil _ _)] at arb
    have nil : u.arb.queue = [] := by rw [arb]
    rw [State.walk_nil nil] at ran
    refine ⟨u.judgeIndicators, ran, ?_, ?_, ?_, departureEntry .stopped s.arb.nextNumber r, ?_, hr, rfl⟩
    · simp only [State.judgeIndicators_frame, nil]
    · have seq := congrArg State.seq rest
      dsimp only at seq
      simp only [State.judgeIndicators_frame]
      exact seq
    · simp only [State.judgeIndicators_frame, arb]
    · simp only [State.judgeIndicators_frame, arb, departureEntries]
      exact lastOf_getLast _ _ _
  · exact exec_stopSceneByScene hears fields (State.stopScene_nothing (s := s.record c.seq) free queued) rfl
  · exact exec_stopSceneBySlot hears fields (State.stopSlot_playing (s := s.record c.seq) hp) rfl
  · exact ⟨_, exec_stopSceneBySlot hears fields (State.stopSlot_playing (s := s.record c.seq) hp) rfl,
      State.endAndWalk_ended (s := s.record c.seq) hp nil (by decide)⟩
  · exact exec_stopSceneBySlot hears fields (State.stopSlot_free (s := s.record c.seq) free) rfl

end Sys2Proof.Machine
end

section
/-! SUPPORT. The parts of a segment, block by block (R10 to R15). -/

namespace Sys2Proof.Machine

variable {s t u : State} {k j : SlotId} {p : PlayRec} {sc : SceneRec}

/-! ### The look part (R11, R70) -/

/-- One pair of a look, on a channel. -/
theorem Lco.lookPair_channels (groups : BitVec 48) (len : Nat) (x : Lco) (q : Nat × Nat) (c : ChannelId) :
    (x.lookPair k groups len q).channels[c] = if q.1 = c.val ∧ groups.getLsbD (channelGroup c) = true then
      lookLayer k q.2 len x.channels[c] else x.channels[c] := by
  unfold Lco.lookPair
  by_cases inside : q.1 < 768
  · rw [dif_pos inside]
    by_cases same : q.1 = c.val
    · have named : (⟨q.1, inside⟩ : ChannelId) = c := Fin.ext same
      have group : groups.getLsbD (q.1 / 16) = groups.getLsbD (channelGroup c) := by rw [same]; rfl
      rw [group]
      cases groups.getLsbD (channelGroup c) with
      | true =>
        rw [if_pos rfl, if_pos ⟨same, rfl⟩, named]
        exact modifyAt_same ..
      | false => rw [if_neg Bool.false_ne_true, if_neg (fun h => Bool.false_ne_true h.2)]
    · have other : ¬(q.1 = c.val ∧ groups.getLsbD (channelGroup c) = true) := fun h => same h.1
      have ne : c ≠ ⟨q.1, inside⟩ := fun h => same (congrArg Fin.val h).symm
      rw [if_neg other]
      split
      · exact modifyAt_other _ ne _
      · rfl
  · have other : ¬(q.1 = c.val ∧ groups.getLsbD (channelGroup c) = true) := fun h => inside (h.1 ▸ c.isLt)
    rw [dif_neg inside, if_neg other]

/-- Pairs that do not name a channel of the held groups leave it. -/
theorem Lco.lookPairs_other {groups : BitVec 48} {c : ChannelId} (len : Nat) (l : List (Nat × Nat))
    (h : groups.getLsbD (channelGroup c) = false ∨ ∀ q ∈ l, q.1 ≠ c.val) : ∀ x : Lco,
    (l.foldl (Lco.lookPair k groups len) x).channels[c] = x.channels[c] := by
  induction l with
  | nil => exact fun x => rfl
  | cons q qs ih =>
    intro x
    have rest : groups.getLsbD (channelGroup c) = false ∨ ∀ q ∈ qs, q.1 ≠ c.val :=
      h.imp_right fun all q hq => all q (List.mem_cons_of_mem _ hq)
    have first : ¬(q.1 = c.val ∧ groups.getLsbD (channelGroup c) = true) := by
      rintro ⟨same, held⟩
      rcases h with out | all
      · exact Bool.false_ne_true (out.symm.trans held)
      · exact all q List.mem_cons_self same
    rw [List.foldl_cons, ih rest, Lco.lookPair_channels, if_neg first]

/-- A look that does not name a channel of the held groups leaves it. -/
theorem Lco.applyLook_other {groups : BitVec 48} {c : ChannelId} {r : LookRec} (len : Nat) (x : Lco)
    (h : groups.getLsbD (channelGroup c) = false ∨ ∀ q ∈ r.pairs, q.1 ≠ c.val) :
    (x.applyLook k groups r len).channels[c] = x.channels[c] := Lco.lookPairs_other len r.pairs h x

/-- A look that names a channel of the held groups once starts its fade. -/
theorem Lco.applyLook_named {groups : BitVec 48} {c : ChannelId} {r : LookRec} {l : Nat} {xs ys : List (Nat × Nat)}
    (len : Nat) (x : Lco) (pairs : r.pairs = xs ++ (c.val, l) :: ys) (once : ∀ q ∈ xs ++ ys, q.1 ≠ c.val)
    (held : groups.getLsbD (channelGroup c) = true) :
    (x.applyLook k groups r len).channels[c] = lookLayer k l len x.channels[c] := by
  have before := fun q hq => once q (List.mem_append_left ys hq)
  have after := fun q hq => once q (List.mem_append_right xs hq)
  rw [Lco.applyLook, pairs, List.foldl_append, List.foldl_cons, Lco.lookPairs_other len ys (.inr after),
    Lco.lookPair_channels, if_pos ⟨rfl, held⟩, Lco.lookPairs_other len xs (.inr before)]

/-- Beside the layer, a look leaves a channel; beside the channels, it leaves the LCO. -/
theorem Lco.applyLook_rest (groups : BitVec 48) (r : LookRec) (len : Nat) (x : Lco) (c : ChannelId) :
    { (x.applyLook k groups r len).channels[c] with layer := {} } = { x.channels[c] with layer := ({} : Layer) } ∧
    { x.applyLook k groups r len with channels := x.channels } = x := by
  have pair : ∀ (x y : Lco) (q : Nat × Nat),
      { (x.lookPair k groups len q).channels[c] with layer := {} } = { x.channels[c] with layer := ({} : Layer) } ∧
      { x.lookPair k groups len q with channels := y.channels } = { x with channels := y.channels } := by
    intro x y q
    rw [Lco.lookPair_channels]
    refine ⟨by split <;> rfl, ?_⟩
    unfold Lco.lookPair
    (repeat' split) <;> rfl
  exact ⟨foldl_same (g := fun x : Lco => { x.channels[c] with layer := ({} : Layer) }) (fun y q => (pair y x q).1) r.pairs x,
    foldl_same (g := fun y : Lco => { y with channels := x.channels }) (fun y q => (pair y x q).2) r.pairs x⟩

/-- Two channels that agree beside their layer. -/
theorem Channel.eq_of_layer {x y : Channel} (h : { x with layer := {} } = { y with layer := ({} : Layer) }) :
    x = { y with layer := x.layer } := by
  cases x
  cases y
  simpa using h

/-! ### The new cue (R13, R94) -/

/-- A slot's new cue. -/
def freshCue (n : Half) (scene : SceneId) (home : ZoneId) (x : CuePart) (st : CueState) : Cue :=
  { number := n, scene, zone := home, stream := x.stream, clip := x.clip, outputs := x.outputs, gain := x.gain
    wait := x.wait, remaining := x.wait, state := st }

/-- The NMX once a slot's new cue is written. -/
def Nmx.cueWritten (k : SlotId) (c : Cue) (x : Nmx) : Nmx :=
  { x with cues := x.cues.set k (some c), nextCue := x.nextCue + 1 }

/-- A new cue whose CUE START joins the queue. -/
theorem State.newCue_room (scene : SceneId) (home : ZoneId) (x : CuePart)
    (room : (s.cancelCue k .replaced).sli.ownQueue.length < 32) :
    s.newCue k scene home x = ((s.cancelCue k .replaced).onNmx (Nmx.cueWritten k
      (freshCue (s.cancelCue k .replaced).nmx.nextCue scene home x .requested))).join
        (.cueStart (cueInfo k (freshCue (s.cancelCue k .replaced).nmx.nextCue scene home x .requested))) := by
  have has : (s.cancelCue k .replaced).hasReportRoom = true := decide_eq_true room
  unfold State.newCue
  dsimp only
  rw [has]
  rfl

/-- A new cue whose CUE START is dropped. -/
theorem State.newCue_full (scene : SceneId) (home : ZoneId) (x : CuePart)
    (full : 32 ≤ (s.cancelCue k .replaced).sli.ownQueue.length) :
    s.newCue k scene home x = (((s.cancelCue k .replaced).onNmx (Nmx.cueWritten k
      (freshCue (s.cancelCue k .replaced).nmx.nextCue scene home x .failed))).join
        (.cueStart (cueInfo k (freshCue (s.cancelCue k .replaced).nmx.nextCue scene home x .failed)))).mark k
          .cueFailed := by
  have none : (s.cancelCue k .replaced).hasReportRoom = false := decide_eq_false (Nat.not_lt.mpr full)
  unfold State.newCue
  dsimp only
  rw [none]
  rfl

/-! ### Keyframes (R14, R118) -/

/-- The keyframe that an entry starts on an axis. -/
def startKey (e : KeyEntry) (x : Axis) : Axis :=
  { x with keyframe := some { start := x.pos, target := e.target, travel := e.travel, elapsed := 0 } }

theorem State.giveKey_axes (e : KeyEntry) (a : AxisId) (s : State) : (s.giveKey k e).mgt.axes[a] =
    if a = e.axis then startKey e s.mgt.axes[e.axis] else s.mgt.axes[a] := by
  have mgt : (s.giveKey k e).mgt = (s.onAxis e.axis (startKey e)).mgt := by
    unfold State.giveKey
    dsimp only
    split
    · simp only [State.mark_frame]
      rfl
    · rfl
  rw [mgt, State.onAxis_axes]

/-- Beside the axes, keyframes leave the MGT. -/
theorem State.giveKey_mgt_rest (e : KeyEntry) (x : Mgt) (s : State) :
    { (s.giveKey k e).mgt with axes := x.axes } = { s.mgt with axes := x.axes } := by
  unfold State.giveKey
  dsimp only
  split
  · simp only [State.mark_frame]
    rfl
  · rfl

/-- Keyframe entries for other axes leave an axis. -/
theorem State.giveKeys_other {a : AxisId} (ks : List KeyEntry) (h : ∀ e ∈ ks, e.axis ≠ a) : ∀ s : State,
    (ks.foldl (fun s e => s.giveKey k e) s).mgt.axes[a] = s.mgt.axes[a] := by
  induction ks with
  | nil => exact fun s => rfl
  | cons e es ih =>
    intro s
    rw [List.foldl_cons, ih (fun d hd => h d (List.mem_cons_of_mem _ hd)), State.giveKey_axes,
      if_neg (Ne.symm (h e List.mem_cons_self))]

/-- What keyframe entries never change of an axis. -/
theorem State.giveKeys_rest (ks : List KeyEntry) (a : AxisId) (s : State) :
    { (ks.foldl (fun s e => s.giveKey k e) s).mgt.axes[a] with keyframe := none } =
      { s.mgt.axes[a] with keyframe := none } :=
  foldl_same (f := fun s e => State.giveKey k e s) (g := fun s : State => { s.mgt.axes[a] with keyframe := none })
    (fun s e => by
      rw [State.giveKey_axes]
      split
      · next h => rw [h]; rfl
      · rfl) ks s

/-- The keyframe of an axis is that of the last entry which names it. -/
theorem State.giveKeys_last {e : KeyEntry} (xs ys : List KeyEntry) (last : ∀ d ∈ ys, d.axis ≠ e.axis) (s : State) :
    ((xs ++ e :: ys).foldl (fun s e => s.giveKey k e) s).mgt.axes[e.axis] = startKey e s.mgt.axes[e.axis] := by
  rw [List.foldl_append, List.foldl_cons, State.giveKeys_other ys last, State.giveKey_axes, if_pos rfl]
  have before := State.giveKeys_rest (k := k) xs e.axis s
  generalize (xs.foldl (fun s e => s.giveKey k e) s).mgt.axes[e.axis] = x at before ⊢
  generalize s.mgt.axes[e.axis] = y at before ⊢
  cases x
  cases y
  simp only [Axis.mk.injEq] at before
  simp [startKey, before]

end Sys2Proof.Machine
end

section
/-! SUPPORT. The parts of a segment handed out together (R10 to R15). -/

namespace Sys2Proof.Machine

variable {s t u : State} {k j : SlotId} {p : PlayRec} {sc : SceneRec}

/-- A vector after one index was written. -/
theorem getElem_set_at {α : Type} {n : Nat} (v : Vector α n) (k j : Fin n) (x : α) :
    (v.set k x)[j] = if j = k then x else v[j] := by
  split
  · next e => rw [e]; exact Vector.getElem_set_self ..
  · next e => exact Vector.getElem_set_ne _ _ (fun h => e (Fin.ext h.symm))

/-! ### Marks that a slot gains (R16) -/

/-- A play record that has at most gained marks. -/
def Grown (p q : PlayRec) : Prop :=
  q = { p with marks := q.marks } ∧ ∀ i : Fin 4, p.marks.getLsbD i = true → q.marks.getLsbD i = true

theorem Grown.refl (p : PlayRec) : Grown p p := ⟨rfl, fun _ h => h⟩

theorem Grown.trans {p q r : PlayRec} (h : Grown p q) (g : Grown q r) : Grown p r := by
  refine ⟨?_, fun i hi => g.2 i (h.2 i hi)⟩
  have hq := h.1
  have hr := g.1
  rw [hq] at hr
  exact hr

/-- A slot that plays goes on with its record, at most with more marks. -/
def State.Grows (k : SlotId) (s t : State) : Prop := ∀ p, s.play k = some p → ∃ q, t.play k = some q ∧ Grown p q

theorem State.Grows.of_slot (h : t.seq.slots[k] = s.seq.slots[k]) : State.Grows k s t :=
  fun p hp => ⟨p, (State.play_of_slot h).trans hp, Grown.refl p⟩

theorem State.Grows.trans (h : State.Grows k s t) (g : State.Grows k t u) : State.Grows k s u := by
  intro p hp
  obtain ⟨q, hq, pq⟩ := h p hp
  obtain ⟨r, hr, qr⟩ := g q hq
  exact ⟨r, hr, pq.trans qr⟩

/-- A marked slot has its mark. -/
theorem State.mark_marked (m : Mark) (hp : s.play k = some p) :
    ∃ q, (s.mark k m).play k = some q ∧ Grown p q ∧ q.marks.getLsbD m.member = true := by
  refine ⟨_, State.play_of_onPlaying ((State.mark_slots k k m s).trans (if_pos rfl)) hp, ⟨rfl, fun i hi => ?_⟩, ?_⟩
  · rw [withMember, BitVec.getLsbD_or, hi, Bool.true_or]
  · rw [withMember, BitVec.getLsbD_or, getLsbD_single, decide_eq_true rfl, Bool.or_true]

theorem State.mark_grows (m : Mark) (s : State) : State.Grows k s (s.mark k m) := fun _ hp =>
  have ⟨q, hq, grown, _⟩ := State.mark_marked m hp
  ⟨q, hq, grown⟩

theorem State.mark_slots_other (m : Mark) (h : j ≠ k) (s : State) : (s.mark k m).seq.slots[j] = s.seq.slots[j] := by
  rw [State.mark_slots, if_neg h]

/-! ### The look and effect parts -/

theorem State.lookPart_missing {i : Fin 64} {fade : Nat} (groups : BitVec 48) (h : s.mu.tables.look[i] = none) :
    s.lookPart k groups (some (i, fade)) = s.mark k .lookMissing := by
  unfold State.lookPart
  dsimp only
  rw [h]

theorem State.lookPart_held {i : Fin 64} {fade : Nat} {r : LookRec} (groups : BitVec 48)
    (h : s.mu.tables.look[i] = some r) :
    s.lookPart k groups (some (i, fade)) = s.onLco (Lco.applyLook k groups r fade) := by
  unfold State.lookPart
  dsimp only
  rw [h]

/-- A look part marks its slot or writes the LCO. -/
theorem State.lookPart_cases (groups : BitVec 48) (l : Option (Fin 64 × Nat)) (s : State) :
    s.lookPart k groups l = s ∨ s.lookPart k groups l = s.mark k .lookMissing ∨
      ∃ r fade, s.lookPart k groups l = s.onLco (Lco.applyLook k groups r fade) := by
  cases l with
  | none => exact .inl rfl
  | some x =>
    cases h : s.mu.tables.look[x.1] with
    | none => exact .inr (.inl (State.lookPart_missing groups h))
    | some r => exact .inr (.inr ⟨r, x.2, State.lookPart_held groups h⟩)

theorem State.lookPart_grows (groups : BitVec 48) (l : Option (Fin 64 × Nat)) (s : State) :
    State.Grows k s (s.lookPart k groups l) := by
  rcases State.lookPart_cases (k := k) groups l s with h | h | ⟨r, fade, h⟩ <;> rw [h]
  · exact .of_slot rfl
  · exact State.mark_grows _ s
  · exact .of_slot rfl

theorem State.lookPart_slots_other (groups : BitVec 48) (l : Option (Fin 64 × Nat)) (h : j ≠ k) (s : State) :
    (s.lookPart k groups l).seq.slots[j] = s.seq.slots[j] := by
  rcases State.lookPart_cases (k := k) groups l s with e | e | ⟨r, fade, e⟩ <;> rw [e]
  · exact State.mark_slots_other _ h s
  · rfl

/-- Beside the layers, a look part leaves the LCO. -/
theorem State.lookPart_lco_rest (groups : BitVec 48) (l : Option (Fin 64 × Nat)) (s : State) (c : ChannelId) :
    (s.lookPart k groups l).lco.channels[c] = { s.lco.channels[c] with
      layer := ((s.lookPart k groups l).lco.channels[c]).layer } ∧
    (s.lookPart k groups l).lco.effects = s.lco.effects ∧ (s.lookPart k groups l).lco.cueLive = s.lco.cueLive := by
  rcases State.lookPart_cases (k := k) groups l s with e | e | ⟨r, fade, e⟩ <;> rw [e]
  · exact ⟨rfl, rfl, rfl⟩
  · simp only [State.mark_frame]
    exact ⟨trivial, trivial, trivial⟩
  · obtain ⟨channel, rest⟩ := Lco.applyLook_rest (k := k) groups r fade s.lco c
    have effects := congrArg Lco.effects rest
    have live := congrArg Lco.cueLive rest
    dsimp only at effects live
    rw [State.onLco_lco]
    exact ⟨Channel.eq_of_layer channel, effects, live⟩

/-- The effect of an effect part (R12). -/
theorem State.effectPart_effects (e : Option EffectPart) (s : State) (j : SlotId) : (s.effectPart k e).lco.effects[j] =
    if j = k then e.bind fun x => (s.mu.tables.fx[x.pattern]).map fun _ =>
      { pattern := x.pattern, targets := x.targets, depth := x.depth, phase := 0, count := 0, lastLow := none }
    else s.lco.effects[j] := by
  have set : ∀ (v : Option Effect), (s.lco.effects.set k v)[j] = if j = k then v else s.lco.effects[j] :=
    fun v => getElem_set_at _ _ _ v
  cases e with
  | none => exact set none
  | some x =>
    unfold State.effectPart
    dsimp only [Option.bind_some]
    cases h : s.mu.tables.fx[x.pattern] with
    | none => exact set none
    | some r => exact set _

theorem State.effectPart_rest (e : Option EffectPart) (s : State) :
    (s.effectPart k e).lco.channels = s.lco.channels ∧ (s.effectPart k e).lco.cueLive = s.lco.cueLive ∧
    (s.effectPart k e).seq = s.seq := by
  unfold State.effectPart
  (repeat' split) <;> exact ⟨rfl, rfl, rfl⟩

/-! ### The cue part -/

/-- The SLI's queue once a cue was cancelled REPLACED. -/
theorem State.cancelled_queue (s : State) :
    ((∀ c, s.nmx.cues[k] = some c → c.ended) → (s.cancelCue k .replaced).sli = s.sli) ∧
    (∀ c, s.nmx.cues[k] = some c → ¬c.ended → s.sli.ownQueue.length < 32 → (s.cancelCue k .replaced).sli.ownQueue =
      s.sli.ownQueue ++ [.cueCancel (cueInfo k c) .replaced]) := by
  obtain ⟨quiet, told⟩ := State.cancelCue_sli (k := k) .replaced s
  exact ⟨quiet, fun c hc running room => by rw [told c hc running, Sli.join_room _ room]⟩

/-- Handing a report to a full queue leaves the queue. -/
theorem Sli.join_full_queue {x : Sli} (r : Report) (h : 32 ≤ x.ownQueue.length) :
    (x.join r).ownQueue = x.ownQueue ∧ (x.join r).reportOverrun = true := by
  have asked : ∀ y : Sli, 32 ≤ y.ownQueue.length →
      y.askStatus.ownQueue = y.ownQueue ∧ y.askStatus.reportOverrun = y.reportOverrun := by
    intro y full
    cases waiting : y.ownQueue.any Report.isStatus with
    | true => rw [Sli.askStatus_waiting waiting]; exact ⟨rfl, rfl⟩
    | false => rw [Sli.askStatus_full waiting full]; exact ⟨rfl, rfl⟩
  rw [Sli.join_full r h]
  exact asked { x with reportOverrun := true } h

/-- What a new cue writes, whatever the queue. -/
theorem State.newCue_nmx (scene : SceneId) (home : ZoneId) (x : CuePart) (s : State) :
    (s.newCue k scene home x).nmx.nextCue = s.nmx.nextCue + 1 ∧
    (∀ j : SlotId, j ≠ k → (s.newCue k scene home x).nmx.cues[j] = s.nmx.cues[j]) ∧
    (s.newCue k scene home x).nmx.duck = s.nmx.duck ∧ (s.newCue k scene home x).nmx.present = s.nmx.present ∧
    (s.newCue k scene home x).nmx.ramps = (s.cancelCue k .replaced).nmx.ramps ∧
    (s.newCue k scene home x).lco = (s.cancelCue k .replaced).lco := by
  obtain ⟨duck, present, next⟩ := State.cancelCue_nmx_rest (k := k) .replaced s
  have written : ∃ c, (s.newCue k scene home x).nmx = (s.cancelCue k .replaced).nmx.cueWritten k c ∧
      (s.newCue k scene home x).lco = (s.cancelCue k .replaced).lco := by
    by_cases room : (s.cancelCue k .replaced).sli.ownQueue.length < 32
    · rw [State.newCue_room scene home x room]
      exact ⟨_, rfl, rfl⟩
    · rw [State.newCue_full scene home x (Nat.not_lt.mp room)]
      simp only [State.mark_frame]
      exact ⟨_, rfl, rfl⟩
  obtain ⟨c, nmx, lco⟩ := written
  rw [nmx, lco]
  refine ⟨congrArg (· + 1) next, fun j h => ?_, duck, present, rfl, rfl⟩
  have other : ((s.cancelCue k .replaced).nmx.cueWritten k c).cues[j] = (s.cancelCue k .replaced).nmx.cues[j] :=
    (getElem_set_at _ k j _).trans (if_neg h)
  rw [other, State.cancelCue_cues, if_neg h]

/-- A new cue whose CUE START has room is REQUESTED. -/
theorem State.newCue_requested (scene : SceneId) (home : ZoneId) (x : CuePart)
    (room : (s.cancelCue k .replaced).sli.ownQueue.length < 32) :
    (s.newCue k scene home x).nmx.cues[k] = some (freshCue s.nmx.nextCue scene home x .requested) ∧
    (s.newCue k scene home x).sli.ownQueue = (s.cancelCue k .replaced).sli.ownQueue ++
      [.cueStart (cueInfo k (freshCue s.nmx.nextCue scene home x .requested))] := by
  have next := (State.cancelCue_nmx_rest (k := k) .replaced s).2.2
  rw [State.newCue_room scene home x room, next]
  refine ⟨Vector.getElem_set_self .., ?_⟩
  exact congrArg Sli.ownQueue (Sli.join_room _ room)

/-- A new cue whose CUE START is dropped is FAILED, and its slot is marked. -/
theorem State.newCue_failed (scene : SceneId) (home : ZoneId) (x : CuePart)
    (full : 32 ≤ (s.cancelCue k .replaced).sli.ownQueue.length) :
    (s.newCue k scene home x).nmx.cues[k] = some (freshCue s.nmx.nextCue scene home x .failed) ∧
    (s.newCue k scene home x).sli.ownQueue = (s.cancelCue k .replaced).sli.ownQueue ∧
    (s.newCue k scene home x).sli.reportOverrun = true ∧
    ∀ p, s.play k = some p → ∃ q, (s.newCue k scene home x).play k = some q ∧ Grown p q ∧ q.marks.getLsbD 1 = true := by
  have next := (State.cancelCue_nmx_rest (k := k) .replaced s).2.2
  rw [State.newCue_full scene home x full, next]
  simp only [State.mark_frame]
  obtain ⟨queue, overrun⟩ := Sli.join_full_queue
    (.cueStart (cueInfo k (freshCue s.nmx.nextCue scene home x .failed))) full
  refine ⟨Vector.getElem_set_self .., queue, overrun, fun p hp => State.mark_marked .cueFailed ?_⟩
  have slots : (s.cancelCue k .replaced).seq = s.seq := by simp only [State.cancelCue_frame]
  have same : (s.cancelCue k .replaced).play k = some p := (State.play_of_slot (by rw [slots])).trans hp
  exact same

theorem State.newCue_slots (scene : SceneId) (home : ZoneId) (x : CuePart) (s : State) :
    State.Grows k s (s.newCue k scene home x) ∧
    ∀ j : SlotId, j ≠ k → (s.newCue k scene home x).seq.slots[j] = s.seq.slots[j] := by
  have seq : (s.cancelCue k .replaced).seq = s.seq := by simp only [State.cancelCue_frame]
  by_cases room : (s.cancelCue k .replaced).sli.ownQueue.length < 32
  · rw [State.newCue_room scene home x room]
    have same : (((s.cancelCue k .replaced).onNmx (Nmx.cueWritten k
      (freshCue (s.cancelCue k .replaced).nmx.nextCue scene home x .requested))).join
        (.cueStart (cueInfo k (freshCue (s.cancelCue k .replaced).nmx.nextCue scene home x .requested)))).seq = s.seq := seq
    exact ⟨.of_slot (by rw [same]), fun j _ => by rw [same]⟩
  · rw [State.newCue_full scene home x (Nat.not_lt.mp room)]
    generalize hv : ((s.cancelCue k .replaced).onNmx (Nmx.cueWritten k
      (freshCue (s.cancelCue k .replaced).nmx.nextCue scene home x .failed))).join
        (.cueStart (cueInfo k (freshCue (s.cancelCue k .replaced).nmx.nextCue scene home x .failed))) = v
    have same : v.seq = s.seq := by rw [← hv]; exact seq
    exact ⟨State.Grows.trans (.of_slot (by rw [same])) (State.mark_grows _ v), fun j h => by
      rw [State.mark_slots_other _ h, same]⟩

theorem State.cuePart_slots (scene : SceneId) (home : ZoneId) (c : Option CuePart) (s : State) :
    State.Grows k s (s.cuePart k scene home c) ∧
    ∀ j : SlotId, j ≠ k → (s.cuePart k scene home c).seq.slots[j] = s.seq.slots[j] := by
  cases c with
  | none => exact ⟨.of_slot rfl, fun _ _ => rfl⟩
  | some x => exact State.newCue_slots scene home x s

/-- Beside the LIVE marks, a cue part leaves the LCO. -/
theorem State.cuePart_lco (scene : SceneId) (home : ZoneId) (c : Option CuePart) (s : State) :
    (s.cuePart k scene home c).lco = { s.lco with cueLive := (s.cuePart k scene home c).lco.cueLive } ∧
    (∀ j : SlotId, j ≠ k ∨ c = none → (s.cuePart k scene home c).lco.cueLive.getLsbD j = s.lco.cueLive.getLsbD j) := by
  cases c with
  | none => exact ⟨rfl, fun _ _ => rfl⟩
  | some x =>
    have lco := (State.newCue_nmx (k := k) scene home x s).2.2.2.2.2
    have same : s.cuePart k scene home (some x) = s.newCue k scene home x := rfl
    rw [same, lco]
    exact ⟨State.cancelCue_lco _ s, fun j h => State.cancelCue_live_other _ s (h.resolve_right (Option.some_ne_none x))⟩

/-! ### The keyframe and flag parts -/

theorem State.giveKey_slots (e : KeyEntry) (s : State) : State.Grows k s (s.giveKey k e) ∧
    (∀ j : SlotId, j ≠ k → (s.giveKey k e).seq.slots[j] = s.seq.slots[j]) ∧
    ((s.mgt.axes[e.axis]).mode.isOffline = true → ∀ p, s.play k = some p → ∃ q, (s.giveKey k e).play k = some q ∧
      Grown p q ∧ q.marks.getLsbD 3 = true) := by
  have mode : ((s.onAxis e.axis (startKey e)).mgt.axes[e.axis]).mode = (s.mgt.axes[e.axis]).mode := by
    rw [State.onAxis_axes, if_pos rfl]
    rfl
  have given : s.giveKey k e = if ((s.mgt.axes[e.axis]).mode).isOffline then
      (s.onAxis e.axis (startKey e)).mark k .axisOffline else s.onAxis e.axis (startKey e) := by
    rw [← mode]
    rfl
  rw [given]
  split
  · next offline =>
    refine ⟨State.Grows.trans (.of_slot rfl) (State.mark_grows _ (s.onAxis e.axis (startKey e))),
      fun j h => State.mark_slots_other _ h _, fun _ p hp => ?_⟩
    exact State.mark_marked .axisOffline (s := s.onAxis e.axis (startKey e)) hp
  · next sending => exact ⟨.of_slot rfl, fun _ _ => rfl, fun h => absurd h sending⟩

theorem State.giveKeys_slots (ks : List KeyEntry) : ∀ s : State,
    State.Grows k s (ks.foldl (fun s e => s.giveKey k e) s) ∧
    ∀ j : SlotId, j ≠ k → (ks.foldl (fun s e => s.giveKey k e) s).seq.slots[j] = s.seq.slots[j] := by
  induction ks with
  | nil => exact fun s => ⟨.of_slot rfl, fun _ _ => rfl⟩
  | cons e es ih =>
    intro s
    obtain ⟨grows, others, -⟩ := State.giveKey_slots (k := k) e s
    obtain ⟨grows', others'⟩ := ih (s.giveKey k e)
    exact ⟨grows.trans grows', fun j h => (others' j h).trans (others j h)⟩

/-- An entry of an axis that is OFFLINE marks the slot. -/
theorem State.giveKeys_offline (e : KeyEntry) (xs ys : List KeyEntry) (hp : s.play k = some p)
    (offline : (s.mgt.axes[e.axis]).mode.isOffline = true) :
    ∃ q, ((xs ++ e :: ys).foldl (fun s e => s.giveKey k e) s).play k = some q ∧ q.marks.getLsbD 3 = true := by
  rw [List.foldl_append, List.foldl_cons]
  obtain ⟨q, hq, -⟩ := (State.giveKeys_slots (k := k) xs s).1 p hp
  have rest := State.giveKeys_rest (k := k) xs e.axis s
  generalize xs.foldl (fun s e => s.giveKey k e) s = v at hq rest
  have mode : (v.mgt.axes[e.axis]).mode = (s.mgt.axes[e.axis]).mode := by
    have modes := congrArg Axis.mode rest
    exact modes
  obtain ⟨r, hr, -, marked⟩ := (State.giveKey_slots (k := k) e v).2.2 (by rw [mode]; exact offline) q hq
  obtain ⟨o, ho, grown⟩ := (State.giveKeys_slots (k := k) ys (v.giveKey k e)).1 r hr
  exact ⟨o, ho, grown.2 3 marked⟩

theorem State.keyPart_slots (ks : Option (List KeyEntry)) (s : State) : State.Grows k s (s.keyPart k ks) ∧
    ∀ j : SlotId, j ≠ k → (s.keyPart k ks).seq.slots[j] = s.seq.slots[j] := by
  cases ks with
  | none => exact ⟨.of_slot rfl, fun _ _ => rfl⟩
  | some l => exact State.giveKeys_slots l s

theorem State.flagPart_seq (f : Option (Bool × Fin 32)) (s : State) : (s.flagPart f).seq.slots = s.seq.slots ∧
    (s.flagPart f).seq.flags = match f with
      | some (true, i) => s.seq.flags ||| single i
      | some (false, i) => s.seq.flags &&& ~~~(single i)
      | none => s.seq.flags := by
  rcases f with _ | ⟨_ | _, i⟩ <;> exact ⟨rfl, rfl⟩

end Sys2Proof.Machine
end

section
/-! SUPPORT. A segment's parts as `PartsHanded` has them (R10 to R16). -/

namespace Sys2Proof.Machine

variable {s t u v : State} {k j : SlotId} {p q r : PlayRec} {sc : SceneRec} {g : Segment}

/-- A mark that a slot has stays. -/
theorem State.Grows.bit (h : State.Grows k s t) (hs : s.play k = some p) (ht : t.play k = some q) {i : Fin 4}
    (set : p.marks.getLsbD i = true) : q.marks.getLsbD i = true := by
  obtain ⟨r, hr, grown⟩ := h p hs
  have same : r = q := Option.some.inj (hr.symm.trans ht)
  exact same ▸ grown.2 i set

/-! ### The states between the parts -/

/-- The state once the look and the effect are handed out. -/
def State.lit (k : SlotId) (p : PlayRec) (g : Segment) (s : State) : State :=
  (s.lookPart k p.claims.groups g.look).effectPart k g.effect

/-- The state once the cue is handed out. -/
def State.cued (k : SlotId) (p : PlayRec) (sc : SceneRec) (g : Segment) (s : State) : State :=
  (s.lit k p g).cuePart k p.scene sc.home g.cue

theorem State.segmentParts_eq (k : SlotId) (p : PlayRec) (sc : SceneRec) (g : Segment) (s : State) :
    s.segmentParts k p sc g = ((s.cued k p sc g).keyPart k g.keys).flagPart g.flag := rfl

@[simp] theorem State.lit_frame (s : State) : (s.lit k p g).sli = s.sli ∧ (s.lit k p g).mu = s.mu ∧
    (s.lit k p g).nmx = s.nmx ∧ (s.lit k p g).mgt = s.mgt ∧ (s.lit k p g).seq.flags = s.seq.flags ∧
    (s.lit k p g).lco.cueLive = s.lco.cueLive ∧ (s.lit k p g).lco.masters = s.lco.masters := by
  have look := (State.lookPart_lco_rest (k := k) p.claims.groups g.look s ⟨0, by decide⟩).2.2
  have effect := (State.effectPart_rest (k := k) g.effect (s.lookPart k p.claims.groups g.look))
  refine ⟨by simp [State.lit], by simp [State.lit], by simp [State.lit], by simp [State.lit], ?_, ?_, by simp [State.lit]⟩
  · rw [State.lit, effect.2.2]
    simp
  · rw [State.lit, effect.2.1, look]

theorem State.lit_channels (s : State) : (s.lit k p g).lco.channels = (s.lookPart k p.claims.groups g.look).lco.channels :=
  (State.effectPart_rest g.effect _).1

theorem State.lit_effects (s : State) (j : SlotId) : (s.lit k p g).lco.effects[j] =
    if j = k then g.effect.bind fun x => (s.mu.tables.fx[x.pattern]).map fun _ =>
      { pattern := x.pattern, targets := x.targets, depth := x.depth, phase := 0, count := 0, lastLow := none }
    else s.lco.effects[j] := by
  have mu : (s.lookPart k p.claims.groups g.look).mu = s.mu := by simp only [State.lookPart_frame]
  rw [State.lit, State.effectPart_effects, mu,
    (State.lookPart_lco_rest (k := k) p.claims.groups g.look s ⟨0, by decide⟩).2.1]

theorem State.lit_slots (s : State) : (s.lit k p g).seq.slots = (s.lookPart k p.claims.groups g.look).seq.slots := by
  rw [State.lit, (State.effectPart_rest g.effect _).2.2]

/-- What is left to be done of a segment's parts changes the flags and the axes alone. -/
theorem State.segmentParts_rest (s : State) : (s.segmentParts k p sc g).lco = (s.cued k p sc g).lco ∧
    (s.segmentParts k p sc g).nmx = (s.cued k p sc g).nmx ∧ (s.segmentParts k p sc g).sli = (s.cued k p sc g).sli ∧
    (s.segmentParts k p sc g).mgt = ((s.cued k p sc g).keyPart k g.keys).mgt := by
  rw [State.segmentParts_eq]
  simp only [State.flagPart_frame, State.keyPart_frame, true_and]

theorem State.cued_mgt (s : State) : (s.cued k p sc g).mgt = s.mgt := by
  simp only [State.cued, State.cuePart_frame, State.lit_frame]

/-! ### The slots -/

theorem State.lit_grows (s : State) : State.Grows k s (s.lit k p g) :=
  (State.lookPart_grows p.claims.groups g.look s).trans (.of_slot (by rw [State.lit_slots]))

theorem State.cued_grows (s : State) : State.Grows k s (s.cued k p sc g) :=
  (State.lit_grows s).trans (State.cuePart_slots p.scene sc.home g.cue _).1

theorem State.keyed_grows (s : State) : State.Grows k (s.cued k p sc g) (s.segmentParts k p sc g) :=
  (State.keyPart_slots g.keys _).1.trans (.of_slot (by rw [State.segmentParts_eq, (State.flagPart_seq g.flag _).1]))

theorem State.segmentParts_grows (s : State) : State.Grows k s (s.segmentParts k p sc g) :=
  (State.cued_grows s).trans (State.keyed_grows s)

/-- The parts of a segment leave the other slots. -/
theorem State.segmentParts_slots_other (h : j ≠ k) (s : State) :
    (s.segmentParts k p sc g).seq.slots[j] = s.seq.slots[j] := by
  rw [State.segmentParts_eq, (State.flagPart_seq g.flag _).1, (State.keyPart_slots g.keys _).2 j h, State.cued,
    (State.cuePart_slots p.scene sc.home g.cue _).2 j h, State.lit_slots, State.lookPart_slots_other _ _ h]

/-- The flag action of a segment (R15). -/
theorem State.segmentParts_flags_eq (s : State) : (s.segmentParts k p sc g).seq.flags = match g.flag with
    | some (true, f) => s.seq.flags ||| single f
    | some (false, f) => s.seq.flags &&& ~~~(single f)
    | none => s.seq.flags := by
  have flags : ((s.cued k p sc g).keyPart k g.keys).seq.flags = s.seq.flags := by simp [State.cued]
  have acted := (State.flagPart_seq g.flag ((s.cued k p sc g).keyPart k g.keys)).2
  rw [flags] at acted
  exact acted

/-! ### The lights -/

/-- Beside the layers, the effect of the slot and the LIVE marks, the parts of a segment leave the LCO. -/
theorem State.segmentParts_lco (s : State) :
    (∀ c : ChannelId, (s.segmentParts k p sc g).lco.channels[c] = (s.lookPart k p.claims.groups g.look).lco.channels[c]) ∧
    (∀ c : ChannelId, (s.segmentParts k p sc g).lco.channels[c] = { s.lco.channels[c] with
      layer := ((s.segmentParts k p sc g).lco.channels[c]).layer }) ∧
    (∀ j : SlotId, (s.segmentParts k p sc g).lco.effects[j] = (s.lit k p g).lco.effects[j]) ∧
    (∀ j : SlotId, j ≠ k ∨ g.cue = none →
      (s.segmentParts k p sc g).lco.cueLive.getLsbD j = s.lco.cueLive.getLsbD j) := by
  obtain ⟨lco, live⟩ := State.cuePart_lco (k := k) p.scene sc.home g.cue (s.lit k p g)
  have whole : (s.segmentParts k p sc g).lco = { (s.lit k p g).lco with cueLive := (s.cued k p sc g).lco.cueLive } :=
    (State.segmentParts_rest s).1.trans lco
  have channels : ∀ c : ChannelId, (s.segmentParts k p sc g).lco.channels[c] =
      (s.lookPart k p.claims.groups g.look).lco.channels[c] := fun c => by rw [whole, State.lit_channels]
  refine ⟨channels, fun c => ?_, fun j => by rw [whole], fun j h => ?_⟩
  · rw [channels]
    exact (State.lookPart_lco_rest p.claims.groups g.look s c).1
  · rw [(State.segmentParts_rest s).1]
    exact (live j h).trans (by rw [(State.lit_frame s).2.2.2.2.2.1])

/-! ### The parts together -/

/-- What a cue part does, from the state before the parts. -/
theorem State.segmentParts_cue {x : CuePart} (hx : g.cue = some x) (s : State) :
    (s.segmentParts k p sc g).nmx = ((s.lit k p g).newCue k p.scene sc.home x).nmx ∧
    (s.segmentParts k p sc g).sli = ((s.lit k p g).newCue k p.scene sc.home x).sli ∧
    (s.segmentParts k p sc g).lco.cueLive = ((s.lit k p g).cancelCue k .replaced).lco.cueLive := by
  obtain ⟨lco, nmx, sli, -⟩ := State.segmentParts_rest (k := k) (p := p) (sc := sc) (g := g) s
  have cued : s.cued k p sc g = (s.lit k p g).newCue k p.scene sc.home x := by
    rw [State.cued, hx]
    rfl
  rw [lco, nmx, sli, cued]
  exact ⟨rfl, rfl, by rw [(State.newCue_nmx p.scene sc.home x _).2.2.2.2.2]⟩

/-- The new cue that a segment's cue part makes, with its reports (R13, R94, R100). -/
theorem State.segmentParts_newCue {x : CuePart} {p' : PlayRec} (hp : s.play k = some p) (hx : g.cue = some x)
    (hp' : (s.segmentParts k p sc g).play k = some p') :
    let t := s.segmentParts k p sc g
    let new := freshCue s.nmx.nextCue p.scene sc.home x
    t.nmx.nextCue = s.nmx.nextCue + 1 ∧
    (s.nmx.cues[k] = none → s.sli.ownQueue.length < 32 → t.nmx.cues[k] = some (new .requested) ∧
      t.sli.ownQueue = s.sli.ownQueue ++ [.cueStart (cueInfo k (new .requested))]) ∧
    (s.nmx.cues[k] = none → 32 ≤ s.sli.ownQueue.length → t.nmx.cues[k] = some (new .failed) ∧
      t.sli.ownQueue = s.sli.ownQueue ∧ t.sli.reportOverrun = true ∧ p'.marks.getLsbD 1 = true) ∧
    (∀ old, s.nmx.cues[k] = some old → old.ended → s.sli.ownQueue.length < 32 →
      t.nmx.cues[k] = some (new .requested) ∧
      t.sli.ownQueue = s.sli.ownQueue ++ [.cueStart (cueInfo k (new .requested))]) ∧
    (∀ old, s.nmx.cues[k] = some old → old.state = .requested ∨ old.state = .pending ∨ old.state = .live →
      s.sli.ownQueue.length < 31 → t.nmx.cues[k] = some (new .requested) ∧
      t.sli.ownQueue = s.sli.ownQueue ++ [.cueCancel (cueInfo k old) .replaced,
        .cueStart (cueInfo k (new .requested))]) ∧
    (∀ old, s.nmx.cues[k] = some old → old.state = .live →
      t.nmx.ramps = s.nmx.ramps.set old.stream (some { outputs := old.outputs, gain := old.gain }) ∧
      t.lco.cueLive.getLsbD k = false) ∧
    ((∀ old, s.nmx.cues[k] = some old → old.state ≠ .live) → t.nmx.ramps = s.nmx.ramps ∧
      t.lco.cueLive.getLsbD k = s.lco.cueLive.getLsbD k) ∧
    (∀ j : SlotId, j ≠ k → t.nmx.cues[j] = s.nmx.cues[j]) ∧ t.nmx.duck = s.nmx.duck ∧ t.nmx.present = s.nmx.present := by
  intro t new
  obtain ⟨nmx, sli, live⟩ := State.segmentParts_cue (k := k) (p := p) (sc := sc) hx s
  obtain ⟨next, others, duck, present, ramps, -⟩ := State.newCue_nmx (k := k) p.scene sc.home x (s.lit k p g)
  obtain ⟨quiet, told⟩ := State.cancelled_queue (k := k) (s.lit k p g)
  obtain ⟨lives, silent⟩ := State.cancelCue_live_marks (k := k) .replaced (s.lit k p g)
  obtain ⟨sli₀, -, nmx₀, -, -, live₀, -⟩ := State.lit_frame (k := k) (p := p) (g := g) s
  have requested := State.newCue_requested (s := s.lit k p g) (k := k) p.scene sc.home x
  have failed := State.newCue_failed (s := s.lit k p g) (k := k) p.scene sc.home x
  rw [nmx₀] at next others duck present lives silent quiet told requested failed
  rw [sli₀] at quiet told
  have quietly : (∀ c, s.nmx.cues[k] = some c → c.ended) → s.sli.ownQueue.length < 32 →
      t.nmx.cues[k] = some (new .requested) ∧
      t.sli.ownQueue = s.sli.ownQueue ++ [.cueStart (cueInfo k (new .requested))] := by
    intro all room
    rw [nmx, sli]
    rw [quiet all] at requested
    exact requested room
  refine ⟨by rw [nmx, next], fun none room => ?_, fun none full => ?_, fun old hc ended room => ?_,
    fun old hc running room => ?_, fun old hc h => ?_, fun h => ?_, fun j h => by rw [nmx, others j h], by rw [nmx, duck],
    by rw [nmx, present]⟩
  · exact quietly (fun c hc => by rw [none] at hc; cases hc) room
  · rw [quiet (fun c hc => by rw [none] at hc; cases hc)] at failed
    obtain ⟨cue, queue, overrun, marked⟩ := failed full
    obtain ⟨q, hq, -⟩ := State.lit_grows (p := p) (g := g) s p hp
    obtain ⟨r, hr, -, set⟩ := marked q hq
    have cued : s.cued k p sc g = (s.lit k p g).newCue k p.scene sc.home x := by
      rw [State.cued, hx]
      rfl
    rw [nmx, sli]
    exact ⟨cue, queue, overrun, (State.keyed_grows s).bit (i := 1) (cued ▸ hr) hp' set⟩
  · exact quietly (fun c hc' => by rw [hc] at hc'; cases hc'; exact ended) room
  · have runs : ¬old.ended := by
      rcases running with h | h | h <;> simp [Cue.ended, h]
    have queue := told old hc runs (by omega)
    rw [queue] at requested
    obtain ⟨cue, joined⟩ := requested (by rw [List.length_append, List.length_singleton]; omega)
    rw [nmx, sli, joined, List.append_assoc]
    exact ⟨cue, rfl⟩
  · obtain ⟨hr, hl⟩ := lives old hc h
    rw [nmx, ramps, hr, live, hl]
    exact ⟨rfl, withoutMember_same _ _⟩
  · obtain ⟨hr, hl⟩ := silent h
    rw [nmx, ramps, hr, live, hl, live₀]
    exact ⟨rfl, rfl⟩

/-- The parts of a segment are handed out as `PartsHanded` has it. -/
theorem State.segmentParts_handed (hp : s.play k = some p) (sc : SceneRec) (g : Segment) :
    ∃ p', (s.segmentParts k p sc g).play k = some p' ∧ Grown p p' ∧
      PartsHanded k p sc g s (s.segmentParts k p sc g) p' := by
  obtain ⟨p', hp', grown⟩ := State.segmentParts_grows (p := p) (sc := sc) (g := g) s p hp
  obtain ⟨looked, layered, effects, live⟩ := State.segmentParts_lco (k := k) (p := p) (sc := sc) (g := g) s
  obtain ⟨-, nmx, -, mgt⟩ := State.segmentParts_rest (k := k) (p := p) (sc := sc) (g := g) s
  refine ⟨p', hp', grown, grown.2, State.segmentParts_flags_eq s, fun none c => ?_, fun i fade hl missing => ⟨?_, fun c => ?_⟩,
    fun i fade r hl held => ⟨fun c l xs ys pairs once claimed => ?_, fun c out => ?_⟩, fun e he fx => ?_, fun gone => ?_,
    fun none => ?_, fun x hx => ?_, live, ?_, layered, fun none => ?_, fun ks hks => ⟨fun e xs ys split last => ⟨?_, fun offline => ?_⟩, fun a absent => ?_⟩⟩
  · rw [looked, none]; rfl
  · obtain ⟨q, hq, -, marked⟩ := State.mark_marked .lookMissing hp
    have lit : (s.lit k p g).play k = some q := by
      refine (State.play_of_slot ?_).trans hq
      rw [State.lit_slots, hl, State.lookPart_missing _ missing]
    exact ((State.cuePart_slots p.scene sc.home g.cue _).1.trans (State.keyed_grows s)).bit lit hp' marked
  · rw [looked, hl, State.lookPart_missing _ missing]
    simp only [State.mark_frame]
  · rw [looked, hl, State.lookPart_held _ held, State.onLco_lco, Lco.applyLook_named fade _ pairs once claimed]
    rfl
  · rw [looked, hl, State.lookPart_held _ held, State.onLco_lco, Lco.applyLook_other fade _ out]
  · obtain ⟨r, hr⟩ := Option.isSome_iff_exists.mp fx
    rw [effects, State.lit_effects, if_pos rfl, he, Option.bind_some, hr, Option.map_some]
  · rw [effects, State.lit_effects, if_pos rfl]
    rcases gone with none | ⟨e, he, empty⟩
    · rw [none, Option.bind_none]
    · rw [he, Option.bind_some, empty, Option.map_none]
  · rw [nmx, State.cued, none]
    exact (State.lit_frame s).2.2.1
  · exact State.segmentParts_newCue hp hx hp'
  · simp
  · rw [mgt, none]
    exact State.cued_mgt s
  · rw [mgt, hks, split]
    exact (State.giveKeys_last xs ys last _).trans (by rw [State.cued_mgt]; rfl)
  · obtain ⟨q, hq, -⟩ := State.cued_grows (p := p) (sc := sc) (g := g) s p hp
    obtain ⟨r, hr, marked⟩ := State.giveKeys_offline e xs ys hq (by rw [State.cued_mgt]; exact offline)
    have keyed : ((s.cued k p sc g).keyPart k g.keys).play k = some r := by rw [hks, split]; exact hr
    have tail : State.Grows k ((s.cued k p sc g).keyPart k g.keys) (s.segmentParts k p sc g) :=
      .of_slot (by rw [State.segmentParts_eq, (State.flagPart_seq g.flag _).1])
    exact tail.bit (i := 3) keyed hp' marked
  · rw [mgt, hks]
    exact (State.giveKeys_other ks absent _).trans (by rw [State.cued_mgt])

end Sys2Proof.Machine
end

section
/-! SUPPORT. The own-report queue under reports that join it, and the beginning of a segment as a whole (R10, R171). -/

namespace Sys2Proof.Machine

variable {s t u v : State} {k j : SlotId} {p q r : PlayRec} {sc : SceneRec} {g : Segment} {x y z : Sli}

/-! ### Reports that join -/

/-- Reports have joined the queue, and beside it and its marks nothing of the SLI has changed. -/
structure Sli.Extends (x y : Sli) : Prop where
  rest : { y with ownQueue := x.ownQueue, owed := x.owed, reportOverrun := x.reportOverrun } = x
  queue : x.ownQueue <+: y.ownQueue

theorem Sli.Extends.refl (x : Sli) : x.Extends x := ⟨rfl, List.prefix_rfl⟩

theorem Sli.Extends.trans (h : x.Extends y) (g : y.Extends z) : x.Extends z := by
  refine ⟨?_, h.queue.trans g.queue⟩
  rw [← h.rest, ← g.rest]

theorem Sli.askStatus_extends (x : Sli) : x.Extends x.askStatus := by
  refine ⟨?_, ?_⟩
  · have rest := Sli.askStatus_rest x
    unfold Sli.askStatus
    (repeat' split) <;> rfl
  · unfold Sli.askStatus
    (repeat' split)
    · exact List.prefix_rfl
    · exact List.prefix_append ..
    · exact List.prefix_rfl

theorem Sli.join_extends (r : Report) (x : Sli) : x.Extends (x.join r) := by
  by_cases room : x.ownQueue.length < 32
  · rw [Sli.join_room r room]
    exact ⟨rfl, List.prefix_append ..⟩
  · rw [Sli.join_full r (Nat.not_lt.mp room)]
    obtain ⟨rest, queue⟩ := Sli.askStatus_extends { x with reportOverrun := true }
    refine ⟨?_, queue⟩
    exact congrArg (fun y : Sli => { y with reportOverrun := x.reportOverrun }) rest

theorem State.cancelCue_extends (cause : CancelCause) (s : State) : s.sli.Extends (s.cancelCue k cause).sli := by
  obtain ⟨quiet, told⟩ := State.cancelCue_sli (k := k) cause s
  by_cases running : ∃ c, s.nmx.cues[k] = some c ∧ ¬c.ended
  · obtain ⟨c, hc, running⟩ := running
    rw [told c hc running]
    exact Sli.join_extends _ _
  · rw [quiet fun c hc => by_contra fun h => running ⟨c, hc, h⟩]
    exact .refl _

theorem State.newCue_extends (scene : SceneId) (home : ZoneId) (x : CuePart) (s : State) :
    s.sli.Extends (s.newCue k scene home x).sli := by
  refine (State.cancelCue_extends (k := k) .replaced s).trans ?_
  by_cases room : (s.cancelCue k .replaced).sli.ownQueue.length < 32
  · rw [State.newCue_room scene home x room]
    exact Sli.join_extends _ _
  · rw [State.newCue_full scene home x (Nat.not_lt.mp room)]
    simp only [State.mark_frame]
    exact Sli.join_extends _ _

theorem State.segmentParts_extends (s : State) : s.sli.Extends (s.segmentParts k p sc g).sli := by
  rw [(State.segmentParts_rest s).2.2.1]
  have lit := (State.lit_frame (k := k) (p := p) (g := g) s).1
  unfold State.cued
  cases g.cue with
  | none => exact lit ▸ .refl _
  | some x => exact lit ▸ State.newCue_extends (k := k) p.scene sc.home x (s.lit k p g)

/-! ### The beginning of a segment -/

/-- The parts of a segment turn on the slot's claims and scene alone. -/
theorem State.segmentParts_congr (claims : q.claims = p.claims) (scene : q.scene = p.scene) (s : State) :
    s.segmentParts k q sc g = s.segmentParts k p sc g := by
  unfold State.segmentParts
  rw [claims, scene]

/-- The blocks of a state that differs from another in its slots alone. -/
theorem State.parts_of_seq (seq : { u with seq := s.seq } = s) :
    u.lco = s.lco ∧ u.mu = s.mu ∧ u.nmx = s.nmx ∧ u.sli = s.sli ∧ u.mgt = s.mgt :=
  ⟨(congrArg State.lco seq :), (congrArg State.mu seq :), (congrArg State.nmx seq :), (congrArg State.sli seq :),
    (congrArg State.mgt seq :)⟩

/-- Parts handed out of a state are handed out of one that differs in its slots alone. -/
theorem PartsHanded.congr (h : PartsHanded k p sc g s t r) (seq : { u with seq := s.seq } = s)
    (flags : u.seq.flags = s.seq.flags) (marks : q.marks = p.marks) (claims : q.claims = p.claims)
    (scene : q.scene = p.scene) : PartsHanded k q sc g u t r := by
  obtain ⟨lco, mu, nmx, sli, mgt⟩ := State.parts_of_seq seq
  unfold PartsHanded at h ⊢
  rw [marks, claims, scene, flags, lco, mu, nmx, sli, mgt]
  exact h

/-- A segment begins for a slot whose record has moved: the record, the parts and what stays. -/
theorem State.beginSegment_handed {f : PlayRec → PlayRec} {i : Nat} (hp : s.play k = some p)
    (marks : (f p).marks = p.marks) (claims : (f p).claims = p.claims) (scene : (f p).scene = p.scene)
    (hs : s.scene p.scene = some sc) (hg : sc.segments[i]? = some g) :
    ∃ p', ((s.onPlay k f).beginSegment k i).play k = some p' ∧ p' = { f p with segment := i, marks := p'.marks } ∧
      PartsHanded k p sc g s ((s.onPlay k f).beginSegment k i) p' := by
  have moved : (s.onPlay k f).play k = some (f p) := by rw [State.onPlay_play_same, hp, Option.map_some]
  have same : (s.onPlay k f).scene (f p).scene = some sc := by simpa [State.scene, scene] using hs
  have begun := State.beginSegment_eq moved same hg
  generalize hu : (s.onPlay k f).onPlay k (fun p => { p with segment := i }) = u at begun
  have record : u.play k = some { f p with segment := i } := by
    rw [← hu, State.onPlay_play_same, moved, Option.map_some]
  have seq : { u with seq := s.seq } = s := by
    rw [← hu]
    exact (congrArg (fun w : State => { w with seq := s.seq }) (State.onPlay_rest k _ (s.onPlay k f))).trans
      (State.onPlay_rest k f s)
  have flags : u.seq.flags = s.seq.flags := by rw [← hu]; simp
  obtain ⟨p', hp', grown, handed⟩ := State.segmentParts_handed record sc g
  have parts : u.segmentParts k { f p with segment := i } sc g = u.segmentParts k (f p) sc g :=
    State.segmentParts_congr rfl rfl u
  rw [parts] at hp' handed
  rw [begun]
  exact ⟨p', hp', grown.1, handed.congr (by rw [← seq]) flags.symm marks.symm claims.symm scene.symm⟩

/-- What the beginning of a segment leaves, of the other slots and of the SLI. -/
theorem State.beginSegment_others (i : Nat) (s : State) :
    (∀ j : SlotId, j ≠ k → (s.beginSegment k i).seq.slots[j] = s.seq.slots[j] ∧
      (s.beginSegment k i).lco.effects[j] = s.lco.effects[j] ∧ (s.beginSegment k i).nmx.cues[j] = s.nmx.cues[j]) ∧
    s.sli.Extends (s.beginSegment k i).sli := by
  rcases State.beginSegment_cases k i s with none | ⟨p, sc, g, hp, hs, hg, begun⟩
  · rw [none]
    exact ⟨fun _ _ => ⟨rfl, rfl, rfl⟩, .refl _⟩
  · rw [begun]
    generalize hu : s.onPlay k (fun p => { p with segment := i }) = u
    have seq : { u with seq := s.seq } = s := hu ▸ State.onPlay_rest k _ s
    obtain ⟨lco, -, nmx, sli, -⟩ := State.parts_of_seq seq
    refine ⟨fun j h => ⟨?_, ?_, ?_⟩, sli ▸ State.segmentParts_extends u⟩
    · rw [State.segmentParts_slots_other h, ← hu, State.onPlay_slots, if_neg h]
    · rw [(State.segmentParts_lco u).2.2.1, State.lit_effects, if_neg h, lco]
    · cases hc : g.cue with
      | none =>
        rw [(State.segmentParts_rest u).2.1, State.cued, hc]
        exact (congrArg (fun x : Nmx => x.cues[j]) (State.lit_frame u).2.2.1).trans (by rw [nmx])
      | some x =>
        rw [(State.segmentParts_cue hc u).1, (State.newCue_nmx p.scene sc.home x _).2.1 j h,
          (State.lit_frame u).2.2.1, nmx]

end Sys2Proof.Machine
end

section
/-! PROOF. A segment begins; the SEQ's beat (R8 to R15, R19); FIRE-TRIGGER (R31 to R34). -/

namespace Sys2Proof.Machine

variable {s t u : State} {k j : SlotId} {p q : PlayRec} {sc : SceneRec} {g : Segment}

/-! ### A segment that begins on a beat -/

/-- The turn of a slot whose next segment starts at its next position. -/
theorem State.slotBeat_segment (hp : s.play k = some p) (hs : s.scene p.scene = some sc)
    (hg : sc.segments[p.segment + 1]? = some g) (starts : g.start = p.position + 1) (short : p.position + 1 ≠ sc.length) :
    s.slotBeat k = (s.onPlay k fun p => { p with position := p.position + 1 }).beginSegment k (p.segment + 1) := by
  have next : nextSegment p sc (p.position + 1) = some g := by
    rw [nextSegment, hg]
    exact if_pos starts
  have turn : s.slotAdvance k =
      (s.onPlay k fun p => { p with position := p.position + 1 }).beginSegment k (p.segment + 1) := by
    rw [State.slotAdvance, hp]
    dsimp only
    rw [hs]
    dsimp only
    rw [if_neg short, next]
  have none : s.completion k = none := by
    rw [State.completion, hp]
    dsimp only
    rw [hs]
    exact if_neg fun h => short h.1
  rw [State.slotBeat, none, turn]
  rfl

theorem exec_segmentBegin (hp : s.play k = some p) (hs : s.scene p.scene = some sc)
    (hg : sc.segments[p.segment + 1]? = some g) (starts : g.start = p.position + 1) (short : p.position + 1 ≠ sc.length) :
    exec (.segmentBegin k) s =
      .next ((s.onPlay k fun p => { p with position := p.position + 1 }).beginSegment k (p.segment + 1)) := by
  have due : (s.segmentDue k && !s.playEnds k) = true := by
    simp [State.segmentDue, State.playEnds, hp, hs, nextSegment, hg, starts, short]
  rw [show exec (.segmentBegin k) s = execSegmentBegin k s from rfl, execSegmentBegin, if_pos due,
    State.slotBeat_segment hp hs hg starts short]

/-! ### The SEQ's beat where no next scene is requested -/

/-- What a slot's turn makes of it, but for marks. -/
def State.turned (k : SlotId) (s : State) : Slot :=
  match s.play k with
  | some p => match s.scene p.scene with
    | some sc => advancedSlot p sc
    | none => s.seq.bare k
  | none => s.seq.bare k

theorem State.slotAdvance_turned (k : SlotId) (s : State) : (s.slotAdvance k).seq.bare k = s.turned k := by
  unfold State.turned
  cases hp : s.play k with
  | none =>
    dsimp only
    rw [State.slotAdvance_idle fun p sc h => by rw [hp] at h; cases h]
  | some p =>
    dsimp only
    cases hs : s.scene p.scene with
    | none =>
      dsimp only
      rw [State.slotAdvance_idle fun q sc h => by rw [hp] at h; cases h; rw [hs]; simp]
    | some sc =>
      dsimp only
      rw [State.slotAdvance_bare hp hs, if_pos rfl]

/-- What a slot's turn makes of it is told by the slot, but for marks, and its scene. -/
theorem State.turned_congr (bare : t.seq.bare k = s.seq.bare k) (mu : t.mu = s.mu) : t.turned k = s.turned k := by
  have scene : ∀ i, t.scene i = s.scene i := fun i => by rw [State.scene, State.scene, mu]
  unfold State.turned
  cases hp : s.play k with
  | none => rw [State.play_none_congr bare hp]; exact bare
  | some p =>
    obtain ⟨q, hq, same⟩ := State.play_bare_congr bare hp
    have named : q.scene = p.scene := by rw [same]
    rw [hq]
    dsimp only
    rw [named, scene]
    cases s.scene p.scene with
    | none => exact bare
    | some sc =>
      dsimp only
      rw [same]
      rfl

/-- The slots once every slot has had its turn. -/
theorem State.turns_bare (k : SlotId) (s : State) : (forEach 8 State.slotAdvance s).seq.bare k = s.turned k := by
  refine forEach_at (f := State.slotAdvance) (i := k) (view := fun s : State => s.seq.bare k) (g := State.turned k)
    (fun j s ne => State.slotAdvance_bare_other (Ne.symm ne)) (fun s => State.slotAdvance_turned k s)
    (fun j s ne => State.turned_congr (State.slotAdvance_bare_other (Ne.symm ne)) (by simp only [State.slotAdvance_frame])) s

/-- A slot that has not had its turn is as it was, but for marks. -/
theorem State.turnOf_bare {m : SlotId} (h : j ≤ m) (s : State) : (s.turnOf j).seq.bare m = s.seq.bare m := by
  have before : ∀ i ∈ (List.finRange 8).take j, i ≠ m := by
    intro i hi same
    obtain ⟨n, hn, hin⟩ := List.mem_take_iff_getElem.mp hi
    have number : i.val = n := by rw [← hin]; simp
    have early : n < j.val := (lt_min_iff.mp hn).1
    have late : j.val ≤ m.val := h
    rw [same] at number
    omega
  rw [State.turnOf]
  generalize (List.finRange 8).take j = l at before
  induction l generalizing s with
  | nil => rfl
  | cons i is ih =>
    rw [List.foldl_cons, ih _ (fun n hn => before n (List.mem_cons_of_mem _ hn)),
      State.slotAdvance_bare_other (Ne.symm (before i List.mem_cons_self))]

/-- Every next scene is played by a slot of higher number. -/
def State.nextsPlayed (s : State) : Prop :=
  ∀ (j : SlotId) (q : PlayRec) (d : SceneRec) (i : SceneId), s.play j = some q → s.scene q.scene = some d →
    d.next = some i → ∃ (m : SlotId) (r : PlayRec), j < m ∧ s.play m = some r ∧ r.scene = i

/-- A scene that a slot plays is playing. -/
theorem State.isPlaying_of_play (hp : s.play k = some p) : s.isPlaying p.scene = true := by
  unfold State.isPlaying
  cases h : s.playingSlot p.scene with
  | some _ => rfl
  | none => exact absurd rfl (State.playingSlot_none.mp h k p hp)

/-- Where every next scene is played by a slot of higher number, no completion requests one (R19). -/
theorem State.nextsPlayed_requests (h : s.nextsPlayed) {c : Completion} (hc : (s.turnOf j).completion j = some c) :
    c.request = none := by
  obtain ⟨q, d, hq, hd, -, -, rfl⟩ := (State.completion_eq_some _ _ _).mp hc
  obtain ⟨q', hq', same⟩ := State.play_bare_congr (State.turnOf_bare le_rfl s).symm hq
  have scene : s.scene q'.scene = some d := by
    rw [same]
    simpa [State.scene] using hd
  cases hr : State.nextToRequest d ((s.turnOf j).slotAdvance j) with
  | none => rfl
  | some i =>
    obtain ⟨next, idle⟩ := (State.nextToRequest_eq_some _ _ _).mp hr
    obtain ⟨m, r, lt, hm, hi⟩ := h j q' d i hq' scene next
    have kept : ((s.turnOf j).slotAdvance j).seq.bare m = s.seq.bare m := by
      rw [State.slotAdvance_bare_other (Ne.symm (ne_of_lt lt)), State.turnOf_bare (le_of_lt lt)]
    obtain ⟨r', hr', same'⟩ := State.play_bare_congr kept hm
    have plays := State.isPlaying_of_play hr'
    rw [same', show ({ r with marks := r'.marks } : PlayRec).scene = i from hi] at plays
    rw [State.isBusy, plays, Bool.true_or] at idle
    cases idle

/-- A completion without a request is handed over with nothing queued. -/
theorem State.handOver_quiet {c : Option Completion} (none : ∀ d, c = some d → d.request = none)
    (nil : s.arb.queue = []) : (s.handOver k c).seq.bare = s.seq.bare ∧ (s.handOver k c).arb.queue = [] ∧
      (s.handOver k c).arb.log = s.arb.log ∧ (s.handOver k c).arb.nextNumber = s.arb.nextNumber := by
  cases c with
  | none => exact ⟨rfl, nil, rfl, rfl⟩
  | some d =>
    have released : (s.releaseClaims k d.play).arb.queue = [] := by rw [State.releaseClaims_queue, nil]
    have walked : s.handOver k (some d) = (s.releaseClaims k d.play).judgeIndicators := by
      rw [State.handOver, none d rfl]
      exact State.walk_nil released
    rw [walked]
    simp only [State.judgeIndicators_frame, State.releaseClaims_bare, released, true_and]
    rw [State.releaseClaims_arb_eq]
    exact ⟨rfl, rfl⟩

/-- The SEQ's beat where every next scene is played by a slot of higher number and nothing is queued: the slots have had
their turns and the ARB has taken no request. -/
theorem State.seqBeat_quiet (h : s.nextsPlayed) (nil : s.arb.queue = []) :
    (∀ k, s.seqBeat.seq.bare k = s.turned k) ∧ s.seqBeat.arb.queue = [] ∧ s.seqBeat.arb.log = s.arb.log ∧
    s.seqBeat.arb.nextNumber = s.arb.nextNumber := by
  have arb : (forEach 8 State.slotAdvance s).arb = s.arb :=
    forEach_same (f := State.slotAdvance) (g := fun s : State => s.arb) (fun k s => by simp only [State.slotAdvance_frame]) s
  have quiet := fun (k : SlotId) (t : State) (ht : t.arb.queue = []) =>
    State.handOver_quiet (s := t) (k := k) (c := (s.turnOf k).completion k) (fun c hc => State.nextsPlayed_requests h hc) ht
  have keep : ∀ (k : SlotId) (t : State), t.arb.queue = [] →
      (t.handOver k ((s.turnOf k).completion k)).arb.queue = [] := fun k t ht => (quiet k t ht).2.1
  have start : (forEach 8 State.slotAdvance s).arb.queue = [] := by rw [arb, nil]
  unfold State.seqBeat
  refine ⟨fun k => ?_, ?_, ?_, ?_⟩
  · rw [← State.turns_bare]
    exact congrFun (forEach_same_of (f := fun k t => State.handOver k ((s.turnOf k).completion k) t)
      (P := fun t : State => t.arb.queue = []) (g := fun t : State => t.seq.bare) keep
      (fun k t ht => (quiet k t ht).1) _ start) k
  · rw [← nil, ← arb]
    exact forEach_same_of (f := fun k t => State.handOver k ((s.turnOf k).completion k) t)
      (P := fun t : State => t.arb.queue = []) (g := fun t : State => t.arb.queue) keep
      (fun k t ht => (quiet k t ht).2.1.trans ht.symm) _ start
  · rw [← arb]
    exact forEach_same_of (f := fun k t => State.handOver k ((s.turnOf k).completion k) t)
      (P := fun t : State => t.arb.queue = []) (g := fun t : State => t.arb.log) keep
      (fun k t ht => (quiet k t ht).2.2.1) _ start
  · rw [← arb]
    exact forEach_same_of (f := fun k t => State.handOver k ((s.turnOf k).completion k) t)
      (P := fun t : State => t.arb.queue = []) (g := fun t : State => t.arb.nextNumber) keep
      (fun k t ht => (quiet k t ht).2.2.2) _ start

/-- Settles O41. -/
theorem segmentBegins : Obligations.SegmentBegins := by
  unfold Obligations.SegmentBegins
  refine ⟨fun k p sc g s hp hs hg starts short => ?_, fun b k p sc s nil nexts hp hs => ?_⟩
  · obtain ⟨p', hp', record, handed⟩ := State.beginSegment_handed (f := fun p => { p with position := p.position + 1 })
      hp rfl rfl rfl hs hg
    obtain ⟨others, -⟩ := State.beginSegment_others (k := k) (p.segment + 1)
      (s.onPlay k fun p => { p with position := p.position + 1 })
    generalize ht : (s.onPlay k fun p => { p with position := p.position + 1 }).beginSegment k (p.segment + 1) = t at *
    refine ⟨t, p', by rw [exec_segmentBegin hp hs hg starts short, ht], hp', by rw [record], by rw [record],
      by rw [record], by rw [record], by rw [record], handed, fun j ne => ⟨?_, ?_⟩, ?_, ?_, ?_, ?_⟩
    · exact State.play_of_slot ((others j ne).1.trans (by rw [State.onPlay_slots, if_neg ne]))
    · rw [(others j ne).2.1]
      simp only [State.onPlay_frame]
    · rw [← ht]; simp only [State.beginSegment_frame, State.onPlay_frame]
    · rw [← ht]; simp only [State.beginSegment_frame, State.onPlay_frame]
    · rw [← ht]; simp only [State.beginSegment_frame, State.onPlay_frame]
    · rw [← ht]; simp only [State.beginSegment_frame, State.onPlay_frame]
  · have beat : s.blockBeat b .seq = s.seqBeat := rfl
    rw [beat]
    obtain ⟨slots, queue, log, next⟩ := State.seqBeat_quiet nexts nil
    have slot : s.seqBeat.seq.bare k = advancedSlot p sc := by
      rw [slots, State.turned, hp]
      dsimp only
      rw [hs]
    refine ⟨⟨queue, log, next⟩, fun ends few once => ?_, fun ends more => ?_, fun short => ?_⟩
    · have last : playsOn p sc = false := decide_eq_false (by omega)
      rw [advancedSlot, if_pos ends, last, if_neg Bool.false_ne_true] at slot
      exact State.slot_of_bare slot
    · have on : playsOn p sc = true := decide_eq_true (by omega)
      rw [advancedSlot, if_pos ends, on, if_pos rfl] at slot
      exact State.play_of_bare (p := { p with position := 0, segment := 0, plays := p.plays - 1 }) slot
    · rw [advancedSlot, if_neg short] at slot
      obtain ⟨q, hq, same⟩ := State.play_of_bare (p := { p with
        position := p.position + 1
        segment := if (nextSegment p sc (p.position + 1)).isSome then p.segment + 1 else p.segment }) slot
      refine ⟨q, hq, ?_⟩
      rw [same, nextSegment]
      cases sc.segments[p.segment + 1]? with
      | none => rfl
      | some g => dsimp only; split <;> rfl

/-! ### FIRE-TRIGGER -/

end Sys2Proof.Machine
end

section
/-! PROOF. FIRE-TRIGGER and what an accepted firing does (R7, R30 to R34). -/

namespace Sys2Proof.Machine

variable {s t u : State} {k j : SlotId} {p q : PlayRec} {sc : SceneRec} {g : Segment}

/-! ### An accepted firing (R33, R34) -/

theorem State.act_playing {e : TrigRec} (h : s.playingSlot e.scene = some k) (source : Source) :
    s.act e source = (.done, match e.behaviour with
      | .ignore => s
      | .restart => s.restartSlot k
      | .stop => s.endAndWalk k .stopped) := by
  rw [State.act, h]
  dsimp only
  cases e.behaviour <;> rfl

theorem State.act_queued {e : TrigRec} (h : s.playingSlot e.scene = none) (queued : s.isQueued e.scene = true)
    (source : Source) : s.act e source = (.done, s) := by
  rw [State.act, h]
  exact if_pos queued

theorem State.act_requests {e : TrigRec} (h : s.playingSlot e.scene = none) (idle : s.isQueued e.scene = false)
    {source : Source} {ans : Answer} (asked : s.request e.scene source none none = (ans, u)) :
    s.act e source = u.takeAnswer e source ans := by
  have not : ¬s.isQueued e.scene = true := by rw [idle]; exact Bool.false_ne_true
  rw [State.act, h]
  dsimp only
  rw [if_neg not, asked]

/-- Any answer but INELIGIBLE is the outcome. -/
theorem State.takeAnswer_other {ans : Answer} (h : ans ≠ .refused .ineligible) (e : TrigRec) (source : Source)
    (s : State) : s.takeAnswer e source ans = (ans.outcome, s) := by
  unfold State.takeAnswer
  split
  · exact absurd rfl h
  · rfl

/-- INELIGIBLE is the outcome where there is no alternate that is free. -/
theorem State.takeAnswer_kept {e : TrigRec}
    (h : e.alternate = none ∨ ∃ a, e.alternate = some a ∧ s.isBusy a = true) (source : Source) :
    s.takeAnswer e source (.refused .ineligible) = (.refused .ineligible, s) := by
  unfold State.takeAnswer
  rcases h with none | ⟨a, ha, busy⟩
  · rw [none]; rfl
  · rw [ha]
    exact if_pos busy

/-- A free alternate is asked for, and its answer is the outcome. -/
theorem State.takeAnswer_alternate {e : TrigRec} {a : SceneId} {source : Source} {ans : Answer}
    (ha : e.alternate = some a) (idle : s.isBusy a = false) (asked : s.request a source none none = (ans, u)) :
    s.takeAnswer e source (.refused .ineligible) = (ans.outcome, u) := by
  have not : ¬s.isBusy a = true := by rw [idle]; exact Bool.false_ne_true
  unfold State.takeAnswer
  rw [ha]
  dsimp only
  rw [if_neg not, asked]

/-- An accepted firing is acted on by the steps of R33 and R34. -/
theorem State.act_acted (e : TrigRec) (source : Source) (s : State) :
    Acted e source s (s.act e source).1 (s.act e source).2 := by
  refine ⟨fun k playing => ?_, fun free queued => ?_, fun free idle ans u asked => ⟨fun other => ?_,
    fun ineligible => ⟨fun kept => ?_, fun a ans' v ha ready again => ?_⟩⟩⟩
  · rw [State.act_playing playing]
    exact ⟨rfl, fun h => by rw [h], fun h => by rw [h], fun h => by rw [h]⟩
  · rw [State.act_queued free queued]
    exact ⟨rfl, rfl⟩
  · rw [State.act_requests free idle asked, State.takeAnswer_other other]
    exact ⟨rfl, rfl⟩
  · rw [State.act_requests free idle asked, ineligible, State.takeAnswer_kept kept]
    exact ⟨rfl, rfl⟩
  · rw [State.act_requests free idle asked, ineligible, State.takeAnswer_alternate ha ready again]
    exact ⟨rfl, rfl⟩

/-! ### A restart (R7) -/

theorem State.restartSlot_some (hp : s.play k = some p) (hs : s.scene p.scene = some sc) : s.restartSlot k =
    (s.onPlay k fun p => { p with position := 0, plays := sc.repeats }).beginSegment k 0 := by
  rw [State.restartSlot, hp]
  dsimp only
  rw [hs]

theorem State.restartSlot_others (s : State) :
    (∀ j : SlotId, j ≠ k → (s.restartSlot k).seq.slots[j] = s.seq.slots[j] ∧
      (s.restartSlot k).lco.effects[j] = s.lco.effects[j] ∧ (s.restartSlot k).nmx.cues[j] = s.nmx.cues[j]) ∧
    s.sli.Extends (s.restartSlot k).sli := by
  unfold State.restartSlot
  split
  · split
    · next p _ sc _ =>
      obtain ⟨others, extends_⟩ := State.beginSegment_others (k := k) 0
        (s.onPlay k fun p => { p with position := 0, plays := sc.repeats })
      obtain ⟨lco, -, nmx, sli, -⟩ := State.parts_of_seq
        (State.onPlay_rest k (fun p => { p with position := 0, plays := sc.repeats }) s)
      refine ⟨fun j ne => ⟨(others j ne).1.trans (by rw [State.onPlay_slots, if_neg ne]),
        (others j ne).2.1.trans (by rw [lco]), (others j ne).2.2.trans (by rw [nmx])⟩, sli ▸ extends_⟩
    · exact ⟨fun _ _ => ⟨rfl, rfl, rfl⟩, .refl _⟩
  · exact ⟨fun _ _ => ⟨rfl, rfl, rfl⟩, .refl _⟩

/-! ### The command -/

/-- FIRE-TRIGGER is answered with the outcome of the firing (R31). -/
theorem exec_fireTrigger {c : Cmd} {n : LineId} (hears : s.hears c) (fields : c.fields = [BitVec.ofNat 8 n.val])
    {r : FireResult} (fired : (s.record c.seq).fireVirtual n = (r, t)) :
    exec (.fireTrigger c) s = .next (t.reply 18 r.result.1 c.tag r.result.2) := by
  have named : u8 c.fields 0 = n.val := by
    rw [fields]
    exact toNat_byte (by omega)
  have form : (c.fields.length == 1) = true := by rw [fields]; rfl
  have range : decide (u8 c.fields 0 < 16) = true := by
    rw [named]
    exact decide_eq_true n.isLt
  have read : Fin.ofNat 16 (u8 c.fields 0) = n := by rw [named]; exact Fin.ofNat_val_eq_self n
  rw [show exec (.fireTrigger c) s = execFireTrigger c s from rfl, execFireTrigger, form, range, read,
    State.command_run hears, State.runFire, fired, State.answer_some]

theorem FireResult.result_fields (r : FireResult) : r.result.2 = [] := by cases r <;> rfl

/-- A virtual trigger is accepted in OPEN and CLOSED (R32). -/
theorem modeAccepts_virtual (n : LineId) (m : HouseMode) : modeAccepts (virtualEntry n) m = !(m == .service) := by
  have late : ¬(virtualEntry n).val < 16 := by
    simp [virtualEntry]
  unfold modeAccepts entryLine
  rw [dif_neg late]
  cases m <;> rfl

theorem State.fireVirtual_stopped (h : s.iou.showStopped = true) (n : LineId) : s.fireVirtual n = (.stopped, s) := by
  rw [State.fireVirtual, State.fire, if_pos h]

theorem State.fireVirtual_notReady (running : s.iou.showStopped = false) {n : LineId}
    (h : s.iou.mode = .service ∨ s.mu.tables.trig[virtualEntry n] = none) : s.fireVirtual n = (.notReady, s) := by
  have not : ¬s.iou.showStopped = true := by rw [running]; exact Bool.false_ne_true
  rw [State.fireVirtual, State.fire, if_neg not, modeAccepts_virtual]
  by_cases service : s.iou.mode = .service
  · rw [service]; rfl
  · rw [h.resolve_left service]
    split <;> rfl

theorem State.fireVirtual_acts (running : s.iou.showStopped = false) (open_ : s.iou.mode ≠ .service) {n : LineId}
    {e : TrigRec} (he : s.mu.tables.trig[virtualEntry n] = some e) : s.fireVirtual n = s.act e (.virtual n) := by
  have not : ¬s.iou.showStopped = true := by rw [running]; exact Bool.false_ne_true
  have accepts : ¬(!modeAccepts (virtualEntry n) s.iou.mode) = true := by
    rw [modeAccepts_virtual]
    cases h : s.iou.mode <;> simp_all
  rw [State.fireVirtual, State.fire, if_neg not, if_neg accepts, he]

/-- Settles O57. -/
theorem fireTrigger : Obligations.FireTrigger := by
  unfold Obligations.FireTrigger
  intro c n s hears fields
  refine ⟨fun stopped => ?_, fun running closed => ?_, fun e running open_ he => ?_⟩
  · exact exec_fireTrigger hears fields (State.fireVirtual_stopped (s := s.record c.seq) stopped n)
  · exact exec_fireTrigger hears fields (State.fireVirtual_notReady (s := s.record c.seq) running closed)
  · have acts := State.fireVirtual_acts (s := s.record c.seq) running open_ he
    have run : ∀ r t, (s.record c.seq).act e (.virtual n) = (r, t) →
        exec (.fireTrigger c) s = .next (t.reply 18 r.result.1 c.tag []) := by
      intro r t acted
      rw [exec_fireTrigger hears fields (acts.trans acted), FireResult.result_fields]
    refine ⟨fun k hk => ⟨fun h => ?_, fun h => ?_, fun h => ?_⟩, fun free queued => ?_,
      fun free idle ans t asked => ⟨fun other => ?_, fun ineligible => ⟨fun kept => ?_, fun a ans' t' ha ready again => ?_⟩⟩⟩
    · exact run .done _ ((State.act_playing (s := s.record c.seq) hk _).trans (by rw [h]))
    · obtain ⟨p, hp, scene⟩ := State.playingSlot_some hk
      obtain ⟨others, extends_⟩ := State.restartSlot_others (k := k) (s.record c.seq)
      refine ⟨(s.record c.seq).restartSlot k, p,
        run .done _ ((State.act_playing (s := s.record c.seq) hk _).trans (by rw [h])), rfl, hp, scene, ?_, ?_, ?_, ?_, ?_,
        ?_, others, fun sc g hs hg => ?_⟩
      · exact (congrArg Sli.lastTaken extends_.rest :)
      · simp
      · simp
      · simp
      · simp
      · simp
      · have same : (s.record c.seq).scene p.scene = some sc := by rw [scene]; exact hs
        obtain ⟨q, hq, record, handed⟩ := State.beginSegment_handed (s := s.record c.seq)
          (f := fun p => { p with position := 0, plays := sc.repeats }) hp rfl rfl rfl same hg
        rw [State.restartSlot_some (s := s.record c.seq) hp same]
        refine ⟨q, hq, by rw [record], ?_⟩
        exact handed
    · exact run .done _ ((State.act_playing (s := s.record c.seq) hk _).trans (by rw [h]))
    · exact run .done _ (State.act_queued (s := s.record c.seq) free queued _)
    · exact run _ _ ((State.act_requests (s := s.record c.seq) free idle asked).trans (State.takeAnswer_other other ..))
    · refine run (.refused .ineligible) _ ((State.act_requests (s := s.record c.seq) free idle asked).trans ?_)
      rw [ineligible, State.takeAnswer_kept kept]
    · refine run _ _ ((State.act_requests (s := s.record c.seq) free idle asked).trans ?_)
      rw [ineligible, State.takeAnswer_alternate ha ready again]

end Sys2Proof.Machine
end

section
/-! SUPPORT. A request that arrives while nothing is queued: the queue it makes, the slot it takes and the walk that starts
it or lets it wait (R42, R43, R51 to R57). -/

namespace Sys2Proof.Machine

variable {s t u : State} {k j new : SlotId} {p q : PlayRec} {sc : SceneRec} {r : Request}

/-! ### The request in the queue -/

/-- What an accepted request makes of the state before its walk. -/
def State.inserted (r : Request) (s : State) : State :=
  (s.onArb fun x => { x with queue := insertRequest r x.queue }).askStatus

@[simp] theorem State.inserted_frame (r : Request) (s : State) : (s.inserted r).seq = s.seq ∧
    (s.inserted r).lco = s.lco ∧ (s.inserted r).nmx = s.nmx ∧ (s.inserted r).mgt = s.mgt ∧ (s.inserted r).iou = s.iou ∧
    (s.inserted r).mu = s.mu ∧ (s.inserted r).sck = s.sck ∧ (s.inserted r).ports = s.ports :=
  ⟨rfl, rfl, rfl, rfl, rfl, rfl, rfl, rfl⟩

theorem State.inserted_arb (r : Request) (s : State) :
    (s.inserted r).arb = { s.arb with queue := insertRequest r s.arb.queue } := rfl

theorem State.inserted_sli (r : Request) (s : State) : (s.inserted r).sli = s.sli.askStatus := rfl

theorem State.arrive_accepted (h : s.refusal r = none) : s.arrive r = (s.inserted r).walk.settle r := by
  rw [State.arrive, State.judgeInsert_accepted h]
  rfl

/-- A request is not counted as queued in the tests of its own scene (R45). -/
theorem State.inserted_eligible (nil : s.arb.queue = []) : (s.inserted r).eligible r.scene = s.eligible r.scene := by
  have queued (i : SceneId) : (i == r.scene || !(s.inserted r).isQueued i) = (i == r.scene || !s.isQueued i) := by
    by_cases h : i = r.scene
    · simp [h]
    · have before : s.isQueued i = false := by simp [State.isQueued, nil]
      have after : (s.inserted r).isQueued i = false := by
        simp [State.isQueued, State.inserted_arb, nil, insertRequest, Ne.symm h]
      rw [before, after]
  have value (x : TestKind) : (s.inserted r).testValue r.scene x = s.testValue r.scene x := by
    cases x with
    | sceneIdle i => exact congrArg (fun b => !s.isPlaying i && b) (queued i)
    | flagSet | flagClear | zoneOccupied | zoneClear | mode => rfl
  have fold : (s.inserted r).foldTest r.scene = s.foldTest r.scene := by
    funext b x
    rw [State.foldTest, State.foldTest, value]
  have tests (l : List Test) : (s.inserted r).foldTests r.scene l = s.foldTests r.scene l := by
    cases l with
    | nil => rfl
    | cons x xs => rw [State.foldTests, State.foldTests, value, fold]
  have scene : (s.inserted r).scene r.scene = s.scene r.scene := rfl
  rw [State.eligible, State.eligible, scene]
  cases s.scene r.scene with
  | none => rfl
  | some sc => exact congrArg (fun b => (sc.claims.streams &&& s.mu.tables.route.ambient == 0) && b) (tests sc.tests)

/-! ### The slot -/

theorem ownsClaim_iff {c : Claims} : ownsClaim s c k ↔ k ∈ s.preemptSet c := State.mem_preemptSet.symm

/-- The slot that a start takes is the lowest that is FREE or ends for it (R55). -/
theorem State.startSlot_lowest {c : Claims} (may : mayUse s c k) (lower : ∀ j : SlotId, j < k → ¬mayUse s c j) :
    s.startSlot c = some k := by
  have test (j : SlotId) : (s.isFree j || (s.preemptSet c).contains j) = true ↔ mayUse s c j := by
    rw [Bool.or_eq_true, State.isFree_iff, List.contains_iff_mem, mayUse, ownsClaim_iff, or_comm]
  unfold State.startSlot
  rw [List.find?_eq_some_iff_getElem]
  refine ⟨(test k).mpr may, k.val, by simp, by simp, fun j hj => ?_⟩
  have := mt (test ⟨j, by omega⟩).mp (lower ⟨j, by omega⟩ hj)
  simpa using this

/-- The slot test fails where no slot can be used. -/
theorem State.startSlot_none {c : Claims} (h : ∀ k : SlotId, ¬mayUse s c k) : s.startSlot c = none := by
  cases e : s.startSlot c with
  | none => rfl
  | some k =>
    refine absurd ?_ (h k)
    rw [mayUse, ownsClaim_iff]
    exact (State.startSlot_some e).symm

/-- With nothing blocked, the claims decide alone whether a request can start. -/
theorem State.canStart_free (test : s.resourceTest r sc = true) : s.canStart 0 r sc = s.startSlot sc.claims := by
  have zero : sc.claims.mask &&& (0 : BitVec 96) = 0 := BitVec.and_zero
  rw [State.canStart, if_pos ⟨zero, test⟩]

theorem State.canStart_blocked (test : s.resourceTest r sc = false) (b : BitVec 96) : s.canStart b r sc = none := by
  rw [State.canStart, if_neg fun h => by rw [test] at h; exact Bool.false_ne_true h.2]

/-! ### The walk of one request -/

theorem State.walk_starts (queue : t.arb.queue = [r]) (eligible : t.eligible r.scene = true)
    (scene : t.scene r.scene = some sc) (slot : t.canStart 0 r sc = some new) :
    t.walk = (t.start new r sc).judgeIndicators := by
  rw [State.walk, queue, State.walkFrom]
  simp only [eligible, scene, slot, Bool.not_true, Bool.false_eq_true, if_false, State.walkFrom]

theorem State.walk_waits (queue : t.arb.queue = [r]) (eligible : t.eligible r.scene = true)
    (scene : t.scene r.scene = some sc) (slot : t.canStart 0 r sc = none) : t.walk = t.judgeIndicators := by
  rw [State.walk, queue, State.walkFrom]
  simp only [eligible, scene, slot, Bool.not_true, Bool.false_eq_true, if_false, State.walkFrom]

/-- The slot of a start plays the request from position 0. -/
theorem State.start_play (new : SlotId) (r : Request) (sc : SceneRec) (t : State) :
    ∃ q, (t.start new r sc).play new = some q ∧ q = { startedRec r sc with marks := q.marks } :=
  State.play_of_bare (by rw [State.start_bare, if_pos rfl]; rfl)

/-- The slot of a start plays the scene, and no other slot does if none did. -/
theorem State.start_playingSlot (idle : t.isPlaying r.scene = false) (new : SlotId) (sc : SceneRec) :
    (t.start new r sc).playingSlot r.scene = some new := by
  obtain ⟨q, hq, same⟩ := State.start_play new r sc t
  cases e : (t.start new r sc).playingSlot r.scene with
  | none => exact absurd (by rw [same]; rfl) (State.playingSlot_none.mp e new q hq)
  | some m =>
    by_contra other
    have other : m ≠ new := fun h => other (h ▸ rfl)
    obtain ⟨x, hx, scene⟩ := State.playingSlot_some e
    have bare := State.start_bare new r sc t m
    rw [if_neg other] at bare
    have none : t.playingSlot r.scene = none := by simpa [State.isPlaying] using idle
    have kept : (t.start new r sc).seq.bare m = t.seq.bare m := by
      split at bare
      · split at bare
        · rw [State.play_eq_none.mpr ⟨_, _, State.slot_of_bare bare⟩] at hx
          cases hx
        · exact bare
      · exact bare
    obtain ⟨y, hy, e⟩ := State.play_bare_congr kept.symm hx
    exact State.playingSlot_none.mp none m y hy (by rw [e]; exact scene)

/-- The scene Arbiter's part of a start: the claims are taken, and the request leaves the queue and is entered. -/
theorem State.start_arb_eq (new : SlotId) (r : Request) (sc : SceneRec) (s : State) : (s.start new r sc).arb =
    Arb.enter r.scene r.source r.priority (.started new) r.tag
      { ((s.preemptSet sc.claims).foldl (State.preemptOne new sc.claims) s).arb.takeClaims new sc.claims.mask
          (s.preemptSet sc.claims) with queue := s.arb.queue.erase r } := by
  rw [State.start_eq]
  simp only [State.beginSegment_frame, State.readied, State.askStatus_frame, State.judgeAxes_frame,
    State.occupySlot_frame, State.onMgt_arb, State.enter, State.onArb_arb, State.onLco_arb]
  rw [show (Arb.takeClaims new sc.claims.mask (s.preemptSet sc.claims)
      ((s.preemptSet sc.claims).foldl (State.preemptOne new sc.claims) s).arb).queue = s.arb.queue by
    rw [(Arb.takeClaims_received _ _ _ _).2.2.2.1, (State.preemptAll_queue _ _ _).1]]

theorem State.start_logged (new : SlotId) (r : Request) (sc : SceneRec) (s : State) :
    ∃ e : LogEntry, (s.start new r sc).arb.log.getLast? = some e ∧ e.scene = r.scene ∧ e.source = r.source ∧
      e.kind = .started new ∧ e.tag = r.tag := by
  rw [State.start_arb_eq, Arb.enter_log]
  exact ⟨_, lastOf_getLast _ _ _, rfl, rfl, rfl, rfl⟩

/-- A request that arrives with nothing queued and can start plays (R43). -/
theorem State.arrive_starts (nil : s.arb.queue = []) (accepted : s.refusal r = none)
    (scene : s.scene r.scene = some sc) (slot : s.canStart 0 r sc = some new) :
    s.arrive r = (.started new, ((s.inserted r).start new r sc).judgeIndicators) := by
  obtain ⟨-, -, idle, eligible, -, -⟩ := State.refusal_none accepted
  have queue : (s.inserted r).arb.queue = [r] := by rw [State.inserted_arb, nil]; rfl
  have walked : (s.inserted r).walk = ((s.inserted r).start new r sc).judgeIndicators :=
    State.walk_starts queue ((State.inserted_eligible nil).trans eligible) scene slot
  have plays : ((s.inserted r).start new r sc).judgeIndicators.playingSlot r.scene = some new := by
    rw [State.playingSlot_congr (s := (s.inserted r).start new r sc) (by simp only [State.judgeIndicators_frame])]
    refine State.start_playingSlot (t := s.inserted r) ?_ new sc
    rw [State.isBusy, Bool.or_eq_false_iff] at idle
    exact idle.1
  rw [State.arrive_accepted accepted, walked, State.settle, plays]

end Sys2Proof.Machine
end

section
/-! PROOF. The end of a play (R9, R18, R19). -/

namespace Sys2Proof.Machine

variable {s t u : State} {k j new : SlotId} {p q : PlayRec} {sc sn : SceneRec} {r : Request} {i : SceneId} {m : SlotId}

theorem playsOn_iff : playsOn p sc = true ↔ 1 < p.plays ∨ sc.repeats = 0 := by
  rw [playsOn, decide_eq_true_iff]
  omega

theorem playsOn_last (few : p.plays ≤ 1) (counted : sc.repeats ≠ 0) : playsOn p sc = false := by
  rw [← Bool.not_eq_true, playsOn_iff]
  omega

theorem exec_playEnd (hp : s.play k = some p) (hs : s.scene p.scene = some sc) (hl : p.position + 1 = sc.length) :
    exec (.playEnd k) s = .next (s.slotBeat k) := by
  have ends : s.playEnds k = true := by simp [State.playEnds, hp, hs, hl]
  rw [show exec (.playEnd k) s = execPlayEnd k s from rfl, execPlayEnd, if_pos ends]

/-! ### The two ends of a play -/

/-- A play that is not the last wraps. -/
theorem State.slotBeat_wraps (hp : s.play k = some p) (hs : s.scene p.scene = some sc) (hl : p.position + 1 = sc.length)
    (on : playsOn p sc = true) : s.slotBeat k =
      (s.onPlay k fun p => { p with position := 0, segment := 0, plays := p.plays - 1 }).beginSegment k 0 := by
  have none : s.completion k = none := by simp [State.completion, hp, hs, on]
  rw [State.slotBeat, none, State.slotAdvance_end hp hs hl, State.endPlay_on on]
  rfl

/-- The last play's end, and its release. -/
theorem State.slotAdvance_last (hp : s.play k = some p) (hs : s.scene p.scene = some sc)
    (hl : p.position + 1 = sc.length) (last : playsOn p sc = false) :
    (s.slotAdvance k).releaseClaims k p = s.ended k p .complete := by
  rw [State.slotAdvance_end hp hs hl, State.endPlay_last last, State.ended]

theorem State.slotAdvance_isBusy (hp : s.play k = some p) (hs : s.scene p.scene = some sc)
    (hl : p.position + 1 = sc.length) (last : playsOn p sc = false) (i : SceneId) :
    (s.slotAdvance k).isBusy i = ((s.ended k p .complete).isPlaying i || s.isQueued i) := by
  have plays : (s.slotAdvance k).isPlaying i = (s.ended k p .complete).isPlaying i := by
    rw [← State.slotAdvance_last hp hs hl last]
    exact (State.isPlaying_congr (State.releaseClaims_bare _ _ _) i).symm
  have arb : (s.slotAdvance k).arb = s.arb := by simp only [State.slotAdvance_frame]
  rw [State.isBusy, plays, State.isQueued, State.isQueued, arb]

/-- The last play's end where no next scene is requested. -/
theorem State.slotBeat_last_quiet (hp : s.play k = some p) (hs : s.scene p.scene = some sc)
    (hl : p.position + 1 = sc.length) (last : playsOn p sc = false)
    (quiet : ∀ i, sc.next = some i → s.isQueued i = true ∨ (s.ended k p .complete).isPlaying i = true) :
    s.slotBeat k = (s.ended k p .complete).walk := by
  have unrequested : State.nextToRequest sc (s.slotAdvance k) = none := by
    refine Option.eq_none_iff_forall_ne_some.mpr fun i h => ?_
    obtain ⟨next, idle⟩ := (State.nextToRequest_eq_some _ _ _).mp h
    rw [State.slotAdvance_isBusy hp hs hl last, Bool.or_eq_false_iff] at idle
    rcases quiet i next with h | h
    · rw [idle.2] at h; cases h
    · rw [idle.1] at h; cases h
  have done : s.completion k = some { play := p, request := none } :=
    (State.completion_eq_some _ _ _).mpr ⟨p, sc, hp, hs, hl, last, by rw [unrequested]⟩
  rw [State.slotBeat, done, State.handOver]
  dsimp only
  rw [State.slotAdvance_last hp hs hl last]

/-- The last play's end where the next scene is neither playing nor queued. -/
theorem State.slotBeat_last_requests (hp : s.play k = some p) (hs : s.scene p.scene = some sc)
    (hl : p.position + 1 = sc.length) (last : playsOn p sc = false) (next : sc.next = some i)
    (idle : (s.ended k p .complete).isPlaying i = false) (unqueued : s.isQueued i = false) :
    s.slotBeat k = (s.ended k p .complete).followOn i p.source := by
  have requested : State.nextToRequest sc (s.slotAdvance k) = some i :=
    (State.nextToRequest_eq_some _ _ _).mpr ⟨next, by rw [State.slotAdvance_isBusy hp hs hl last, idle, unqueued]; rfl⟩
  have done : s.completion k = some { play := p, request := some i } :=
    (State.completion_eq_some _ _ _).mpr ⟨p, sc, hp, hs, hl, last, by rw [requested]⟩
  rw [State.slotBeat, done, State.handOver]
  dsimp only
  rw [State.slotAdvance_last hp hs hl last]

/-- A scene that another slot plays as a slot ends is playing. -/
theorem State.ended_isPlaying (ne : j ≠ k) (hq : s.play j = some q) (reason : EndReason) :
    (s.ended k p reason).isPlaying q.scene = true := by
  have play : (s.endSlot k reason {}).play j = some q := (State.endSlot_play_other ne _ _).trans hq
  rw [State.ended, State.isPlaying_congr (State.releaseClaims_bare _ _ _)]
  exact State.isPlaying_of_play play

/-- The slots that are PLAYING as a slot has ended. -/
theorem State.ended_isSome (j : SlotId) (reason : EndReason) :
    ((s.ended k p reason).play j).isSome = ((s.play j).isSome && j != k) := by
  have bare : (s.ended k p reason).seq.bare j = (s.endSlot k reason {}).seq.bare j := by
    rw [State.ended, State.releaseClaims_bare]
  by_cases ne : j = k
  · rw [State.play_none_congr bare (by rw [ne]; exact State.endSlot_play_same _ _), ne]
    simp
  · rw [State.play_isSome_congr bare, State.endSlot_play_other ne]
    simp [ne]

/-- A follow-on request that no check refuses arrives as another request does (R19). -/
theorem State.followOn_arrives (scene : s.scene i = some sn) (source : Source)
    (accepted : s.refusal { scene := i, source, priority := sn.priority, deadline := sn.maxWait, tag := none } = none) :
    s.followOn i source =
      (s.arrive { scene := i, source, priority := sn.priority, deadline := sn.maxWait, tag := none }).2 := by
  have made : s.newRequest i source none none =
      { scene := i, source, priority := sn.priority, deadline := sn.maxWait, tag := none } := by
    rw [State.newRequest, scene]
    rfl
  have after : s.afterNewRequest i none = s := by rw [State.afterNewRequest, scene]; rfl
  rw [State.followOn, made, after, State.arrive, State.judgeInsert_accepted accepted]


/-- A request for an eligible scene that is neither playing nor queued, with nothing queued, is accepted (R42). -/
theorem State.refusal_accepts (nil : s.arb.queue = []) (running : s.arb.showStopped = false)
    (admitted : admits s.arb.mode r.source = true) (idle : s.isPlaying r.scene = false) (eligible : s.eligible r.scene = true)
    (moves : s.motionBlocked r.scene = false) : s.refusal r = none := by
  have busy : s.isBusy r.scene = false := by simp [State.isBusy, idle, State.isQueued, nil]
  rw [State.refusal, running, admitted, busy, eligible, moves, nil]
  rfl

/-- A scene whose claims nothing owns starts in the lowest FREE slot. -/
theorem State.canStart_lowest (unowned : ∀ x : ResourceId, sc.claims.mask.getLsbD x = true → s.arb.owners[x] = none)
    (free : s.play m = none) (unheld : ∀ x : ResourceId, s.arb.owners[x] ≠ some m)
    (lowest : ∀ j : SlotId, j < m → (s.play j).isSome = true) : s.canStart 0 r sc = some m := by
  have owns (j : SlotId) : ¬ownsClaim s sc.claims j := fun ⟨x, hx, owned⟩ => by
    rw [unowned x hx] at owned
    cases owned
  rw [State.canStart_free (State.resourceTest_iff.mpr fun x hx j owned => by rw [unowned x hx] at owned; cases owned)]
  refine State.startSlot_lowest (.inr ⟨free, unheld⟩) fun j lt may => ?_
  rcases may with h | ⟨h, -⟩
  · exact owns j h
  · have := lowest j lt
    rw [h] at this
    cases this

/-- A lone request whose claims some slot owns, and which may not preempt, waits through its walk. -/
theorem State.walk_held (alone : u.arb.queue = [r]) (scene : u.scene r.scene = some sn) (firm : sn.mayPreempt = false)
    (eligible : u.eligible r.scene = true)
    (owned : ∃ x : ResourceId, sn.claims.mask.getLsbD x = true ∧ u.arb.owners[x] ≠ none) : u.walk = u.judgeIndicators := by
  refine State.walk_waits alone eligible scene (State.canStart_blocked ?_ 0)
  rw [← Bool.not_eq_true, State.resourceTest_iff]
  intro passes
  obtain ⟨x, hx, owned⟩ := owned
  obtain ⟨o, ho⟩ := Option.ne_none_iff_exists'.mp owned
  have := (passes x hx o ho).1
  rw [firm] at this
  cases this

/-- An end after whose walk of one request nothing starts. -/
theorem SlotEnded.waits (ended : SlotEnded k p .complete .complete s u) (alone : s.arb.queue = [r]) :
    u.judgeIndicators.seq.slots[k] = .free (some p.scene) .complete ∧ u.judgeIndicators.arb.queue = [r] ∧
    u.judgeIndicators.arb.log = s.arb.log ∧ u.judgeIndicators.arb.nextNumber = s.arb.nextNumber ∧
    u.judgeIndicators.arb.owners = u.arb.owners ∧ u.judgeIndicators.mu = s.mu ∧ u.judgeIndicators.ports = s.ports := by
  obtain ⟨-, arb, -, mu, -, ports, -⟩ := ended.rest
  simp only [State.judgeIndicators_frame, true_and]
  exact ⟨ended.slot, by rw [arb, alone], by rw [arb], by rw [arb], mu, ports⟩

/-- A follow-on request that the claims and the slots let start plays in its slot (R19, R43, R55). -/
theorem State.followOn_starts (source : Source) (scene : u.scene i = some sn) (nil : u.arb.queue = [])
    (running : u.arb.showStopped = false) (admitted : admits u.arb.mode source = true) (idle : u.isPlaying i = false)
    (eligible : u.eligible i = true) (moves : u.motionBlocked i = false)
    (slot : ∀ r : Request, r.scene = i → u.canStart 0 r sn = some m) :
    ∃ q, (u.followOn i source).play m = some q ∧ q.scene = i ∧ q.source = source ∧ q.priority = sn.priority ∧
      q.plays = sn.repeats ∧ q.position = 0 ∧ q.claims = sn.claims ∧ (u.followOn i source).arb.queue = [] ∧
      (∀ x : ResourceId, sn.claims.mask.getLsbD x = true → (u.followOn i source).arb.owners[x] = some m) ∧
      (∃ e : LogEntry, (u.followOn i source).arb.log.getLast? = some e ∧ e.scene = i ∧ e.source = source ∧
        e.kind = .started m ∧ e.tag = none) ∧ (u.followOn i source).mu = u.mu ∧ (u.followOn i source).sck = u.sck ∧
      (u.followOn i source).ports = u.ports := by
  let r : Request := { scene := i, source, priority := sn.priority, deadline := sn.maxWait, tag := none }
  have accepted : u.refusal r = none := State.refusal_accepts nil running admitted idle eligible moves
  rw [State.followOn_arrives scene source accepted, State.arrive_starts nil accepted scene (slot r rfl)]
  dsimp only
  obtain ⟨q, hq, same⟩ := State.start_play m r sn (u.inserted r)
  simp only [State.judgeIndicators_play, State.judgeIndicators_frame, State.start_frame, State.inserted_frame, and_true]
  refine ⟨q, hq, by rw [same]; rfl, by rw [same]; rfl, by rw [same]; rfl, by rw [same]; rfl, by rw [same]; rfl,
    by rw [same]; rfl, ?_, fun x hx => ?_, State.start_logged m r sn _⟩
  · rw [State.start_queue, State.inserted_arb, nil]
    exact List.erase_cons_head r []
  · rw [State.start_owners, if_pos hx]

/-- Settles O40. -/
theorem playEnds : Obligations.PlayEnds := by
  unfold Obligations.PlayEnds
  intro k p sc s hp hs hl
  have last (few : p.plays ≤ 1) (counted : sc.repeats ≠ 0) := State.slotAdvance_last hp hs hl (playsOn_last few counted)
  have quiet (few : p.plays ≤ 1) (counted : sc.repeats ≠ 0) :=
    State.slotBeat_last_quiet hp hs hl (playsOn_last few counted)
  have asks (i : SceneId) (few : p.plays ≤ 1) (counted : sc.repeats ≠ 0) :=
    State.slotBeat_last_requests (i := i) hp hs hl (playsOn_last few counted)
  have ended : SlotEnded k p .complete .complete s (s.ended k p .complete) := State.slotEnded hp (by decide)
  have queue : (s.ended k p .complete).arb.queue = s.arb.queue := State.ended_queue _ s
  have isSome := fun j => State.ended_isSome (s := s) (k := k) (p := p) j .complete
  have others := fun j q ne hq => State.ended_isPlaying (s := s) (k := k) (p := p) (j := j) (q := q) ne hq .complete
  have ran := exec_playEnd hp hs hl
  generalize s.ended k p .complete = u at last quiet asks ended queue isSome others
  obtain ⟨-, arb, -, mu, sck, ports, -⟩ := ended.rest
  have scene (i : SceneId) : u.scene i = s.scene i := by rw [State.scene, State.scene, mu]
  refine ⟨fun more => ?_, fun few counted next nil => ?_, fun few counted => ?_, fun i few counted next busy => ?_,
    fun r sn few counted next alone hn firm => ?_, fun i sn m few counted next hn nil running admitted => ?_⟩
  · rw [ran, State.slotBeat_wraps hp hs hl (playsOn_iff.mpr more)]
  · refine ⟨_, ran, ?_⟩
    rw [quiet few counted, State.walk_nil (queue.trans nil)]
    · exact ⟨ended.judged, State.judgeIndicators_judged _⟩
    · intro i hi
      rcases next with none | ⟨i', j, q, some, ne, hq, rfl⟩
      · rw [none] at hi; cases hi
      · rw [some] at hi
        cases hi
        exact .inr (others j q ne hq)
  · rw [last few counted]
    exact ended
  · rw [ran, last few counted, quiet few counted]
    intro i' hi
    rw [next] at hi
    cases hi
    rcases busy with queued | ⟨j, q, ne, hq, rfl⟩
    · exact .inl queued
    · exact .inr (others j q ne hq)
  · rw [last few counted]
    dsimp only
    intro eligible owned
    have queued : ∀ i, sc.next = some i → s.isQueued i = true ∨ u.isPlaying i = true := fun i hi => by
      rw [next] at hi
      cases hi
      exact .inl (State.isQueued_iff.mpr ⟨r, by rw [alone]; exact List.mem_singleton_self r, rfl⟩)
    have walked : s.slotBeat k = u.judgeIndicators := by
      rw [quiet few counted queued]
      exact State.walk_held (queue.trans alone) ((scene _).trans hn) firm eligible owned
    obtain ⟨slot, waits, log, number, owners, mu, ports⟩ := ended.waits alone
    exact ⟨u.judgeIndicators, by rw [ran, walked], slot, waits, log, number, owners,
      fun j => by rw [State.judgeIndicators_play, isSome], mu, ports⟩
  · rw [last few counted]
    dsimp only
    intro idle eligible moves unowned free unheld lowest
    obtain ⟨q, starts⟩ := State.followOn_starts (m := m) p.source ((scene i).trans hn) (queue.trans nil) (by rw [arb]; exact running)
      (by rw [arb]; exact admitted) idle eligible moves fun r _ => State.canStart_lowest unowned free unheld lowest
    rw [mu, sck, ports] at starts
    exact ⟨_, q, by rw [ran, asks i few counted next idle (by simp [State.isQueued, nil])], starts⟩

end Sys2Proof.Machine
end

section
/-! SUPPORT. One slot among those that an event ends one by one, for a preemption set (R55 to R57) or a zone's change to
CLEAR (R20): what its end leaves of the lights, the cues, the axes and the own-report queue. -/

namespace Sys2Proof.Machine

variable {s t u : State} {k j i new : SlotId} {p q : PlayRec} {sc : SceneRec} {kept : Claims} {l : List SlotId}

/-! ### One slot among those of a list -/

/-- What holds until an index's turn, what its turn makes of it, and that it stays: the turns of the others keep both. -/
theorem foldl_through {σ γ : Type} {f : σ → γ → σ} {P Q : σ → Prop} {j : γ} (before : ∀ i t, i ≠ j → P t → P (f t i))
    (turn : ∀ t, P t → Q (f t j)) (after : ∀ i t, i ≠ j → Q t → Q (f t i)) :
    ∀ {l : List γ} {s : σ}, l.Nodup → j ∈ l → P s → Q (l.foldl f s) := by
  have keep : ∀ (l : List γ) (s : σ), j ∉ l → Q s → Q (l.foldl f s) := by
    intro l
    induction l with
    | nil => exact fun s _ h => h
    | cons i is ih =>
      intro s notIn h
      obtain ⟨ne, notIn⟩ := not_or.mp (mt List.mem_cons.mpr notIn)
      exact ih _ notIn (after i s (Ne.symm ne) h)
  intro l
  induction l with
  | nil => exact fun _ h => absurd h List.not_mem_nil
  | cons i is ih =>
    intro s nodup mem h
    obtain ⟨notIn, rest⟩ := List.nodup_cons.mp nodup
    by_cases e : i = j
    · exact keep is _ (e ▸ notIn) (e ▸ turn s h)
    · rcases List.mem_cons.mp mem with m | m
      · exact absurd m.symm e
      · exact ih rest m (before i s e h)

/-! ### One slot ends -/

/-- One turn of an event that ends slots with a reason and keeps some claims: a PLAYING slot ends as every slot does, and
at most a STATUS is asked for again; a FREE one changes nothing. -/
structure SlotTurn (reason : EndReason) (kept : Claims) (k : SlotId) (s t : State) : Prop where
  idle : s.play k = none → t = s
  others : ∀ j, j ≠ k → t.play j = s.play j
  mu : t.mu = s.mu
  lco : ∀ p, s.play k = some p → t.lco = (s.endSlot k reason kept).lco
  nmx : ∀ p, s.play k = some p → t.nmx = (s.endSlot k reason kept).nmx
  mgt : ∀ p, s.play k = some p → t.mgt = (s.endSlot k reason kept).mgt
  sli : ∀ p, s.play k = some p → t.sli = (s.endSlot k reason kept).sli.askStatus

section
variable {reason : EndReason} (turn : SlotTurn reason kept k s t)
include turn

theorem SlotTurn.axes (h : s.play k = some p) (a : AxisId) : t.mgt.axes[a] =
    if (p.claims.axes &&& ~~~kept.axes).getLsbD a then Axis.drop s.mgt.axes[a] else s.mgt.axes[a] := by
  rw [turn.mgt p h, State.endSlot_axes h]

theorem SlotTurn.channels (h : s.play k = some p) (c : ChannelId) : t.lco.channels[c] =
    if (p.claims.groups &&& ~~~kept.groups).getLsbD (channelGroup c) && s.lco.channels[c].layer.owner == some k then
      releaseLayer (s.endFade p reason) s.lco.channels[c] else s.lco.channels[c] := by
  rw [turn.lco p h, State.endSlot_lco h]
  exact Lco.slotEnded_channels _ _ _ _

theorem SlotTurn.effects (h : s.play k = some p) (j : SlotId) :
    t.lco.effects[j] = if j = k then none else s.lco.effects[j] := by
  rw [turn.lco p h, State.endSlot_lco h]
  exact Lco.slotEnded_effects _ _ _ _

theorem SlotTurn.cue (h : s.play k = some p) : CueCancelled k reason.cause s t := by
  have asked : (s.endSlot k reason kept).sli.askStatus = (s.endSlot k reason kept).sli := by
    rw [(State.endSlot_cancelled h _ _).2.2, Sli.askStatus_idem]
  exact (State.endSlot_cue h reason kept).congr rfl rfl rfl ((turn.sli p h).trans asked) (turn.nmx p h)
    (by rw [turn.lco p h])

/-- The end of a slot leaves the cues of the others. -/
theorem SlotTurn.cues_other (ne : j ≠ k) : t.nmx.cues[j] = s.nmx.cues[j] := by
  cases hp : s.play k with
  | none => rw [turn.idle hp]
  | some p => rw [(turn.cue hp).1 j, if_neg ne]

end

/-- The end of a slot is such a turn. -/
theorem State.endSlot_turn (reason : EndReason) (kept : Claims) (s : State) (k : SlotId) :
    SlotTurn reason kept k s (s.endSlot k reason kept) := by
  refine ⟨fun h => State.endSlot_none h _ _, fun j ne => State.endSlot_play_other ne _ _,
    by simp only [State.endSlot_frame], fun _ _ => rfl, fun _ _ => rfl, fun _ _ => rfl, fun p h => ?_⟩
  rw [(State.endSlot_cancelled h _ _).2.2, Sli.askStatus_idem]

theorem State.preemptOne_none (h : s.play k = none) : State.preemptOne new kept s k = s := by
  rw [State.preemptOne, h]

theorem State.preemptOne_some (h : s.play k = some p) :
    State.preemptOne new kept s k = (s.endSlot k .preempted kept).enterPreempted k new p := by
  rw [State.preemptOne, h]

/-- The end of one slot of a preemption set is such a turn. -/
theorem State.preemptOne_turn (new : SlotId) (kept : Claims) (s : State) (k : SlotId) :
    SlotTurn .preempted kept k s (State.preemptOne new kept s k) := by
  refine ⟨State.preemptOne_none, fun j ne => State.preemptOne_play_other kept ne, by simp only [State.preemptOne_frame],
    ?_, ?_, ?_, ?_⟩
  all_goals
    intro p h
    rw [State.preemptOne_some h]
    rfl

theorem State.preemptOne_log (h : s.play k = some p) : ∃ e : LogEntry, e.kind = .preempted k new ∧ e.scene = p.scene ∧
    e.source = p.source ∧ e.priority = p.priority ∧
    (State.preemptOne new kept s k).arb.log = lastOf 16 (s.arb.log ++ [e]) := by
  have arb : (s.endSlot k .preempted kept).arb = s.arb := by simp only [State.endSlot_frame]
  rw [State.preemptOne_some h, State.enterPreempted]
  simp only [State.askStatus_frame, State.onArb_arb, Arb.enter_log, arb]
  exact ⟨_, rfl, rfl, rfl, rfl, rfl⟩

end Sys2Proof.Machine
end

section
/-! SUPPORT. The slots that an event ends, together (R18, R20, R55 to R57, R100, R101). -/

namespace Sys2Proof.Machine

variable {s t u : State} {k j i new : SlotId} {p q : PlayRec} {sc : SceneRec} {kept : Claims} {l : List SlotId}

section
variable {reason : EndReason} {f : State → SlotId → State} (turns : ∀ t k, SlotTurn reason kept k t (f t k))
include turns

/-! ### The axes -/

/-- The axes that a starting scene claims stay with it. -/
theorem turns_axes_kept {a : AxisId} (h : kept.axes.getLsbD a = true) (l : List SlotId) (s : State) :
    (l.foldl f s).mgt.axes[a] = s.mgt.axes[a] := by
  refine foldl_same (g := fun t : State => t.mgt.axes[a]) (fun t k => ?_) l s
  cases hp : t.play k with
  | none => rw [(turns t k).idle hp]
  | some p =>
    rw [(turns t k).axes hp, if_neg]
    rw [BitVec.getLsbD_and, BitVec.getLsbD_not, h]
    simp

/-- An axis that a slot of the set claimed and the starting scene does not is released (R57, R117). -/
theorem turns_axes_dropped (nodup : l.Nodup) (mem : j ∈ l) (hp : s.play j = some p) {a : AxisId}
    (claimed : p.claims.axes.getLsbD a = true) (free : kept.axes.getLsbD a = false) :
    ((l.foldl f s).mgt.axes[a]).sceneTarget = none ∧
    ((l.foldl f s).mgt.axes[a]).keyframe = none := by
  let Q (t : State) : Prop := (t.mgt.axes[a]).sceneTarget = none ∧ (t.mgt.axes[a]).keyframe = none
  refine foldl_through (f := f) (P := fun t : State => t.play j = some p) (Q := Q) (fun i t ne h => ?_) (fun t h => ?_)
    (fun i t ne h => ?_) nodup mem hp
  · rw [(turns t i).others j (Ne.symm ne), h]
  · have dropped : (p.claims.axes &&& ~~~kept.axes).getLsbD a = true := by
      rw [BitVec.getLsbD_and, BitVec.getLsbD_not, claimed, free]
      simp
    simp only [Q]
    rw [(turns t j).axes h, if_pos dropped]
    exact ⟨rfl, rfl⟩
  · cases hi : t.play i with
    | none => rwa [(turns t i).idle hi]
    | some q =>
      simp only [Q]
      rw [(turns t i).axes hi]
      split
      · exact ⟨rfl, rfl⟩
      · exact h

/-! ### The lights -/

/-- A group that a starting scene takes keeps its channels (R56). -/
theorem turns_channels_kept {c : ChannelId} (h : kept.groups.getLsbD (channelGroup c) = true)
    (l : List SlotId) (s : State) : (l.foldl f s).lco.channels[c] = s.lco.channels[c] := by
  refine foldl_same (g := fun t : State => t.lco.channels[c]) (fun t k => ?_) l s
  cases hp : t.play k with
  | none => rw [(turns t k).idle hp]
  | some p =>
    rw [(turns t k).channels hp, BitVec.getLsbD_and, BitVec.getLsbD_not, h]
    simp

/-- A layer that a slot of the set owned in another of its groups is released with its scene's release fade (R56, R76). -/
theorem turns_channels_released (notStop : reason ≠ .showStop) {d : SceneRec} {c : ChannelId} (nodup : l.Nodup) (mem : j ∈ l)
    (hp : s.play j = some p) (hd : s.scene p.scene = some d) (claimed : p.claims.groups.getLsbD (channelGroup c) = true)
    (free : kept.groups.getLsbD (channelGroup c) = false) (owner : (s.lco.channels[c]).layer.owner = some j) :
    (l.foldl f s).lco.channels[c] =
      { s.lco.channels[c] with layer := releasedLayer d.releaseFade s.lco.channels[c] } := by
  have nobody : (releasedLayer d.releaseFade s.lco.channels[c]).owner = none := by
    unfold releasedLayer
    split <;> rfl
  let x := s.lco.channels[c]
  refine foldl_through (f := f)
    (P := fun t : State => t.play j = some p ∧ t.mu = s.mu ∧ t.lco.channels[c] = x)
    (Q := fun t : State => t.lco.channels[c] = { x with layer := releasedLayer d.releaseFade x })
    (fun i t ne ⟨h, mu, same⟩ => ⟨?plays, ?tables, ?waits⟩) (fun t ⟨h, mu, same⟩ => ?turn) (fun i t ne h => ?stays) nodup mem
    ⟨hp, rfl, rfl⟩
  case plays => rw [(turns t i).others j (Ne.symm ne), h]
  case tables => rw [(turns t i).mu, mu]
  case waits =>
    cases hi : t.play i with
    | none => rwa [(turns t i).idle hi]
    | some q =>
      rw [(turns t i).channels hi, same, owner]
      simp [Ne.symm ne]
  case turn =>
    have fade : t.endFade p reason = d.releaseFade := by
      have scene : t.scene p.scene = some d := by rw [← hd, State.scene, State.scene, mu]
      rw [State.endFade, if_neg notStop, scene]
    rw [(turns t j).channels h, same, owner, fade, BitVec.getLsbD_and, BitVec.getLsbD_not, claimed, free,
      releaseLayer_layer]
    simp
  case stays =>
    cases hi : t.play i with
    | none => rwa [(turns t i).idle hi]
    | some q =>
      rw [(turns t i).channels hi, h, nobody]
      simp

/-- A slot of the list has no effect. -/
theorem turns_effects (nodup : l.Nodup) (mem : j ∈ l) (hp : s.play j = some p) :
    (l.foldl f s).lco.effects[j] = none := by
  refine foldl_through (f := f) (P := fun t : State => t.play j = some p) (Q := fun t : State => t.lco.effects[j] = none) (fun i t ne h => ?_)
    (fun t h => ?_) (fun i t ne h => ?_) nodup mem hp
  · rw [(turns t i).others j (Ne.symm ne), h]
  · rw [(turns t j).effects h, if_pos rfl]
  · cases hi : t.play i with
    | none => rwa [(turns t i).idle hi]
    | some q => rw [(turns t i).effects hi, if_neg (Ne.symm ne), h]

/-! ### The cues -/

theorem turns_cues (nodup : l.Nodup) (mem : j ∈ l) (hp : s.play j = some p) :
    (l.foldl f s).nmx.cues[j] = none := by
  refine foldl_through (f := f) (P := fun t : State => t.play j = some p) (Q := fun t : State => t.nmx.cues[j] = none) (fun i t ne h => ?_)
    (fun t h => ?_) (fun i t ne h => ?_) nodup mem hp
  · rw [(turns t i).others j (Ne.symm ne), h]
  · rw [((turns t j).cue h).1, if_pos rfl]
  · rw [(turns t i).cues_other (Ne.symm ne), h]

/-- No LIVE cue but the slot's own plays on its stream. -/
def State.alone (j : SlotId) (c : Cue) (t : State) : Prop :=
  ∀ (i : SlotId) (d : Cue), i ≠ j → t.nmx.cues[i] = some d → d.state = .live → d.stream ≠ c.stream

theorem turns_alone {c : Cue} (h : t.alone j c) (i : SlotId) : (f t i).alone j c := by
  intro m d ne hd
  refine h m d ne ?_
  by_cases e : m = i
  · cases hi : t.play i with
    | none => rwa [(turns t i).idle hi] at hd
    | some q =>
      rw [((turns t i).cue hi).1, if_pos e] at hd
      cases hd
  · rwa [(turns t i).cues_other e] at hd

/-- A LIVE cue of a slot of the set that is alone on its stream leaves a ramp there and leaves LIVE at the LCO (R101). -/
theorem turns_live {c : Cue} (nodup : l.Nodup) (mem : j ∈ l) (hp : s.play j = some p)
    (hc : s.nmx.cues[j] = some c) (live : c.state = .live) (alone : s.alone j c) :
    (l.foldl f s).nmx.ramps[c.stream] = some { outputs := c.outputs, gain := c.gain } ∧
    (l.foldl f s).lco.cueLive.getLsbD j = false := by
  refine (foldl_through (f := f)
    (P := fun t : State => t.play j = some p ∧ t.nmx.cues[j] = some c ∧ t.alone j c)
    (Q := fun t : State => (t.nmx.ramps[c.stream] = some { outputs := c.outputs, gain := c.gain } ∧
      t.lco.cueLive.getLsbD j = false) ∧ t.alone j c)
    (fun i t ne ⟨h, hc, alone⟩ => ⟨?plays, ?waits, turns_alone turns alone i⟩)
    (fun t ⟨h, hc, alone⟩ => ⟨?turn, turns_alone turns alone j⟩)
    (fun i t ne ⟨⟨ramp, dark⟩, alone⟩ => ⟨?stays, turns_alone turns alone i⟩) nodup mem ⟨hp, hc, alone⟩).1
  case plays => rw [(turns t i).others j (Ne.symm ne), h]
  case waits => rw [(turns t i).cues_other (Ne.symm ne), hc]
  case turn =>
    obtain ⟨-, -, -, told, -⟩ := (turns t j).cue h
    obtain ⟨ramps, dark⟩ := told c hc live
    exact ⟨by rw [ramps, getElem_set_at, if_pos rfl], dark⟩
  case stays =>
    cases hi : t.play i with
    | none => rw [(turns t i).idle hi]; exact ⟨ramp, dark⟩
    | some q =>
      obtain ⟨-, -, -, told, silent, others, -⟩ := (turns t i).cue hi
      refine ⟨?_, by rw [others j (Ne.symm ne), dark]⟩
      by_cases loud : ∃ d, t.nmx.cues[i] = some d ∧ d.state = .live
      · obtain ⟨d, hd, loud⟩ := loud
        have apart : d.stream ≠ c.stream := alone i d ne hd loud
        rw [(told d hd loud).1, getElem_set_at, if_neg (Ne.symm apart), ramp]
      · rw [(silent fun d hd h => loud ⟨d, hd, h⟩).1, ramp]

end

end Sys2Proof.Machine
end

section
/-! SUPPORT. The outcome log and the own-report queue over a preemption set, and the start of a request block by block
(R55 to R57). -/

namespace Sys2Proof.Machine

variable {s t u : State} {k j i new : SlotId} {p q : PlayRec} {sc : SceneRec} {kept : Claims} {l : List SlotId}
  {r : Request} {g : Segment}

/-- The state once the slots of a list have ended PREEMPTED. -/
abbrev State.preempted (new : SlotId) (kept : Claims) (l : List SlotId) (s : State) : State :=
  l.foldl (State.preemptOne new kept) s

/-! ### The outcome log -/

theorem mem_lastOf {α : Type} {n : Nat} {l es : List α} (short : es.length ≤ n) {e : α} (h : e ∈ es) :
    e ∈ lastOf n (l ++ es) := by
  rw [lastOf, List.drop_append]
  refine List.mem_append_right _ ?_
  have none : (l ++ es).length - n - l.length = 0 := by
    rw [List.length_append]
    omega
  rwa [none, List.drop_zero]

/-- The entry of a slot that was preempted. -/
def preemptedEntry (new k : SlotId) (p : PlayRec) (e : LogEntry) : Prop :=
  e.kind = .preempted k new ∧ e.scene = p.scene ∧ e.source = p.source ∧ e.priority = p.priority

/-- The log over a preemption set: each slot that ends is entered, and each entry cuts the log to its last 16. -/
theorem State.preempted_log (l : List SlotId) : ∀ s : State, l.Nodup → ∃ es : List LogEntry, es.length ≤ l.length ∧
    (∀ more, lastOf 16 ((s.preempted new kept l).arb.log ++ more) = lastOf 16 (s.arb.log ++ es ++ more)) ∧
    ∀ j p, j ∈ l → s.play j = some p → ∃ e ∈ es, preemptedEntry new j p e := by
  induction l with
  | nil =>
    exact fun s _ => ⟨[], Nat.le_refl _, fun more => by rw [List.append_nil]; rfl,
      fun j p mem => absurd mem List.not_mem_nil⟩
  | cons k ks ih =>
    intro s nodup
    obtain ⟨notIn, nodup⟩ := List.nodup_cons.mp nodup
    obtain ⟨es, short, log, entered⟩ := ih (State.preemptOne new kept s k) nodup
    have later (j : SlotId) (p : PlayRec) (mem : j ∈ ks) (hp : s.play j = some p) :
        ∃ e ∈ es, preemptedEntry new j p e :=
      entered j p mem ((State.preemptOne_play_other kept (ne_of_mem_of_not_mem mem notIn)).trans hp)
    cases hk : s.play k with
    | none =>
      rw [State.preemptOne_none hk] at log
      refine ⟨es, Nat.le_succ_of_le short, fun more => ?_, fun j p mem hp => ?_⟩
      · rw [← log more, State.preempted, List.foldl_cons, State.preemptOne_none hk]
      · rcases List.mem_cons.mp mem with rfl | mem
        · rw [hk] at hp; cases hp
        · exact later j p mem hp
    | some p =>
      obtain ⟨e, kind, scene, source, priority, first⟩ := State.preemptOne_log (new := new) (kept := kept) hk
      refine ⟨e :: es, Nat.succ_le_succ short, fun more => ?_, fun j p' mem hp => ?_⟩
      · refine (log more).trans ?_
        rw [first, List.append_assoc, lastOf_append]
        simp only [List.append_assoc, List.nil_append, List.cons_append]
      · rcases List.mem_cons.mp mem with rfl | mem
        · rw [hk] at hp
          cases hp
          exact ⟨e, List.mem_cons_self, kind, scene, source, priority⟩
        · obtain ⟨d, hd, is⟩ := later j p' mem hp
          exact ⟨d, List.mem_cons_of_mem _ hd, is⟩

/-! ### The own-report queue -/

/-- A STATUS waits in the own-report queue. -/
def Sli.waiting (x : Sli) : Prop := x.ownQueue.any Report.isStatus = true

theorem Sli.Extends.waiting {x y : Sli} (h : x.Extends y) (w : x.waiting) : y.waiting := by
  obtain ⟨r, hr, is⟩ := List.any_eq_true.mp w
  exact List.any_eq_true.mpr ⟨r, h.queue.subset hr, is⟩

section
variable {reason : EndReason}

/-- A slot that ends while a STATUS waits hands the queue at most the cancellation of its cue. -/
theorem SlotTurn.reports (turn : SlotTurn reason kept k s t) (w : s.sli.waiting) (room : s.sli.ownQueue.length < 32) :
    s.sli.Extends t.sli ∧ t.sli.ownQueue.length ≤ s.sli.ownQueue.length + 1 ∧
    ∀ p c, s.play k = some p → s.nmx.cues[k] = some c → ¬c.ended →
      .cueCancel (cueInfo k c) reason.cause ∈ t.sli.ownQueue := by
  cases hp : s.play k with
  | none =>
    rw [turn.idle hp]
    exact ⟨.refl _, Nat.le_succ _, fun p c h => by cases h⟩
  | some p =>
    obtain ⟨-, quiet, told, -⟩ := turn.cue hp
    by_cases running : ∃ c, s.nmx.cues[k] = some c ∧ ¬c.ended
    · obtain ⟨c, hc, running⟩ := running
      have grown := Sli.join_extends (.cueCancel (cueInfo k c) reason.cause) s.sli
      have joined : t.sli = s.sli.join (.cueCancel (cueInfo k c) reason.cause) := by
        rw [(told c hc running).1 room, ← Sli.join_room _ room]
        exact Sli.askStatus_waiting (grown.waiting w)
      rw [joined]
      refine ⟨grown, ?_, fun p' c' _ hc' _ => ?_⟩
      · rw [Sli.join_room _ room]
        simp
      · rw [Sli.join_room _ room, Option.some.inj (hc'.symm.trans hc)]
        exact List.mem_append_right _ (List.mem_singleton_self _)
    · have same : t.sli = s.sli := by
        rw [quiet fun c hc => by_contra fun h => running ⟨c, hc, h⟩]
        exact Sli.askStatus_waiting w
      rw [same]
      exact ⟨.refl _, Nat.le_succ _, fun p' c _ hc h => absurd ⟨c, hc, h⟩ running⟩

/-- The reports of slots that end for which the queue has room: each cue that runs is cancelled there (R100). -/
theorem turns_reports {f : State → SlotId → State} (turns : ∀ t k, SlotTurn reason kept k t (f t k)) (l : List SlotId) :
    ∀ s : State, l.Nodup → s.sli.waiting → s.sli.ownQueue.length + l.length ≤ 32 → s.sli.Extends (l.foldl f s).sli ∧
    ∀ j p c, j ∈ l → s.play j = some p → s.nmx.cues[j] = some c → ¬c.ended →
      .cueCancel (cueInfo j c) reason.cause ∈ (l.foldl f s).sli.ownQueue := by
  induction l with
  | nil => exact fun s _ _ _ => ⟨.refl _, fun j p c mem => absurd mem List.not_mem_nil⟩
  | cons k ks ih =>
    intro s nodup w room
    obtain ⟨notIn, nodup⟩ := List.nodup_cons.mp nodup
    rw [List.length_cons] at room
    obtain ⟨first, grew, own⟩ := (turns s k).reports w (by omega)
    obtain ⟨rest, others⟩ := ih (f s k) nodup (first.waiting w) (by omega)
    refine ⟨first.trans rest, fun j p c mem hp hc running => ?_⟩
    rcases List.mem_cons.mp mem with rfl | mem
    · exact rest.queue.subset (own p c hp hc running)
    · have ne : j ≠ k := ne_of_mem_of_not_mem mem notIn
      exact others j p c mem (((turns s k).others j ne).trans hp) (((turns s k).cues_other ne).trans hc) running

end

/-! ### The start -/

/-- The state in which segment 0 of a start begins, in the order of its steps. -/
theorem State.readied_eq (new : SlotId) (r : Request) (sc : SceneRec) (s : State) : s.readied new r sc =
    (((((((s.preempted new sc.claims (s.preemptSet sc.claims)).onLco (Lco.holdGroups new (s.takenGroups sc.claims))).onArb
      fun x => x.takeClaims new sc.claims.mask (s.preemptSet sc.claims)).onArb
        fun x => { x with queue := x.queue.erase r }).enter r (.started new)).onMgt
          (Mgt.mapAxes sc.claims.axes Axis.take)).occupySlot new r sc).judgeAxes.askStatus := rfl

end Sys2Proof.Machine
end

section
/-! SUPPORT. A start block by block: the state in which its first segment begins, and what that segment adds where the
slot had no cue (R10 to R14, R55 to R57). -/

namespace Sys2Proof.Machine

variable {s t u : State} {k j i new : SlotId} {p q : PlayRec} {sc : SceneRec} {kept : Claims} {l : List SlotId}
  {r : Request} {g : Segment}

/-! ### Before segment 0 -/

theorem Lco.holdGroups_channels (groups : BitVec 48) (x : Lco) (c : ChannelId) :
    (x.holdGroups k groups).channels[c] =
      if groups.getLsbD (channelGroup c) then holdLayer k x.channels[c] else x.channels[c] := by
  simp [Lco.holdGroups, Lco.mapChannels]

theorem State.takenGroups_bit {c : Claims} (g : Fin 48) (s : State) : (s.takenGroups c).getLsbD g =
    (c.groups.getLsbD g && (s.arb.owners[groupRes g]).isSome) := by
  simp [State.takenGroups]

/-- The lights of a start before segment 0: held groups, and no effect of the slot. -/
theorem State.readied_lco (new : SlotId) (r : Request) (sc : SceneRec) (s : State) : (s.readied new r sc).lco =
    ((s.preempted new sc.claims (s.preemptSet sc.claims)).lco.holdGroups new (s.takenGroups sc.claims)).clearEffect new := by
  rw [State.readied_eq]
  simp only [State.askStatus_frame, State.judgeAxes_frame]
  rfl

theorem State.readied_channels (new : SlotId) (r : Request) (sc : SceneRec) (s : State) (c : ChannelId) :
    (s.readied new r sc).lco.channels[c] =
      if (s.takenGroups sc.claims).getLsbD (channelGroup c) then
        holdLayer new (s.preempted new sc.claims (s.preemptSet sc.claims)).lco.channels[c]
      else (s.preempted new sc.claims (s.preemptSet sc.claims)).lco.channels[c] := by
  rw [State.readied_lco, ← Lco.holdGroups_channels]
  rfl

theorem State.readied_lco_rest (new : SlotId) (r : Request) (sc : SceneRec) (s : State) :
    (s.readied new r sc).lco.cueLive = (s.preempted new sc.claims (s.preemptSet sc.claims)).lco.cueLive ∧
    ∀ j, j ≠ new → (s.readied new r sc).lco.effects[j] =
      (s.preempted new sc.claims (s.preemptSet sc.claims)).lco.effects[j] := by
  rw [State.readied_lco]
  generalize (s.preempted new sc.claims (s.preemptSet sc.claims)).lco = x
  generalize s.takenGroups sc.claims = groups
  simp only [Lco.clearEffect, Lco.holdGroups, Lco.mapChannels, true_and]
  exact fun j ne => by rw [getElem_set_at, if_neg ne]

theorem State.readied_nmx (new : SlotId) (r : Request) (sc : SceneRec) (s : State) :
    (s.readied new r sc).nmx.ramps = (s.preempted new sc.claims (s.preemptSet sc.claims)).nmx.ramps ∧
    ∀ j, (s.readied new r sc).nmx.cues[j] =
      if j = new then none else (s.preempted new sc.claims (s.preemptSet sc.claims)).nmx.cues[j] := by
  rw [State.readied_eq]
  simp only [State.askStatus_frame, State.judgeAxes_frame, State.occupySlot]
  exact ⟨rfl, fun j => State.setCue_cues _ _ _ _⟩

theorem State.readied_sli (new : SlotId) (r : Request) (sc : SceneRec) (s : State) : (s.readied new r sc).sli =
    (s.preempted new sc.claims (s.preemptSet sc.claims)).sli.askStatus := by
  rw [State.readied_eq, State.askStatus, State.onSli_sli]
  simp only [State.judgeAxes_frame, State.occupySlot_frame, State.onMgt_sli, State.enter, State.askStatus,
    State.onSli_sli, State.onArb_sli, State.onLco_sli]
  exact Sli.askStatus_idem _

/-- The axes of a start before segment 0: those it claims are taken at their positions (R57). -/
theorem State.readied_axes (new : SlotId) (r : Request) (sc : SceneRec) (s : State) (a : AxisId) :
    ∃ m, (s.readied new r sc).mgt.axes[a] = Axis.enter m (if sc.claims.axes.getLsbD a then
      Axis.take (s.preempted new sc.claims (s.preemptSet sc.claims)).mgt.axes[a]
      else (s.preempted new sc.claims (s.preemptSet sc.claims)).mgt.axes[a]) := by
  rw [State.readied_eq]
  simp only [State.askStatus_frame, State.judgeAxes_axes, State.occupySlot_frame, State.onMgt_mgt, State.enter_frame,
    State.onArb_mgt, State.onLco_mgt]
  simp only [Mgt.mapAxes, Fin.getElem_fin, Vector.getElem_ofFn]
  exact ⟨_, rfl⟩

/-! ### Segment 0 -/

/-- A segment's parts change keyframes alone of the axes. -/
theorem State.segmentParts_axes (s : State) (a : AxisId) :
    { (s.segmentParts k p sc g).mgt.axes[a] with keyframe := none } = { s.mgt.axes[a] with keyframe := none } ∧
    (g.keys = none → (s.segmentParts k p sc g).mgt = s.mgt) := by
  rw [(State.segmentParts_rest s).2.2.2]
  cases hk : g.keys with
  | none =>
    rw [State.keyPart, State.cued_mgt]
    exact ⟨rfl, fun _ => rfl⟩
  | some ks =>
    refine ⟨?_, fun h => by cases h⟩
    have rest := State.giveKeys_rest (k := k) ks a (s.cued k p sc g)
    rw [State.cued_mgt] at rest
    exact rest

/-- A segment that begins for a slot without a cue adds neither ramps nor LIVE marks. -/
theorem State.segmentParts_silent (hp : s.play k = some p) (sc : SceneRec) (g : Segment) (bare : s.nmx.cues[k] = none) :
    (s.segmentParts k p sc g).nmx.ramps = s.nmx.ramps ∧
    ∀ j : SlotId, (s.segmentParts k p sc g).lco.cueLive.getLsbD j = s.lco.cueLive.getLsbD j := by
  obtain ⟨p', -, -, -, -, -, -, -, -, -, quiet, cue, live, -⟩ := State.segmentParts_handed hp sc g
  cases hc : g.cue with
  | none => exact ⟨by rw [quiet hc], fun j => live j (.inr hc)⟩
  | some x =>
    obtain ⟨-, -, -, -, -, -, silent, -⟩ := cue x hc
    obtain ⟨ramps, own⟩ := silent fun old h => by rw [bare] at h; cases h
    refine ⟨ramps, fun j => ?_⟩
    by_cases e : j = k
    · rw [e, own]
    · exact live j (.inl e)

/-- What the beginning of a segment keeps of a state in which its slot has no cue. -/
structure State.Begun (k : SlotId) (s t : State) : Prop where
  ramps : t.nmx.ramps = s.nmx.ramps
  live : ∀ j : SlotId, t.lco.cueLive.getLsbD j = s.lco.cueLive.getLsbD j
  axes : ∀ a : AxisId, { t.mgt.axes[a] with keyframe := none } = { s.mgt.axes[a] with keyframe := none }
  others : ∀ j : SlotId, j ≠ k → t.seq.slots[j] = s.seq.slots[j] ∧ t.lco.effects[j] = s.lco.effects[j] ∧
    t.nmx.cues[j] = s.nmx.cues[j]
  reports : s.sli.Extends t.sli

theorem State.beginSegment_begun (bare : s.nmx.cues[k] = none) (i : Nat) : State.Begun k s (s.beginSegment k i) := by
  obtain ⟨others, reports⟩ := State.beginSegment_others (k := k) i s
  rcases State.beginSegment_cases k i s with same | ⟨p, sc, g, hp, hs, hg, begun⟩
  · rw [same] at others reports ⊢
    exact ⟨rfl, fun _ => rfl, fun _ => rfl, others, reports⟩
  · rw [begun] at others reports ⊢
    have seq := State.onPlay_rest k (fun p => { p with segment := i }) s
    have moved : (s.onPlay k fun p => { p with segment := i }).play k = some { p with segment := i } := by
      rw [State.onPlay_play_same, hp, Option.map_some]
    generalize (s.onPlay k fun p => { p with segment := i }) = u at seq moved others reports
    obtain ⟨lco, -, nmx, -, mgt⟩ := State.parts_of_seq seq
    rw [State.segmentParts_congr (q := p) (p := { p with segment := i }) rfl rfl] at others reports ⊢
    obtain ⟨ramps, live⟩ := State.segmentParts_silent moved sc g (by rw [nmx, bare])
    refine ⟨by rw [ramps, nmx], fun j => by rw [live, lco], fun a => ?_, others, reports⟩
    rw [← mgt]
    exact (State.segmentParts_axes u a).1

/-- What segment 0 of a scene leaves where it has no look part, and where it has no keyframe part. -/
theorem State.beginSegment_partless (hp : s.play k = some p) (hs : s.scene p.scene = some sc) :
    (sc.segments[0]?.bind (·.keys) = none → (s.beginSegment k 0).mgt = s.mgt) ∧
    ((∀ g, sc.segments[0]? = some g → g.look = none) →
      ∀ c : ChannelId, ((s.beginSegment k 0).lco.channels[c]).layer = (s.lco.channels[c]).layer) := by
  cases hg : sc.segments[0]? with
  | none =>
    have same : s.beginSegment k 0 = s := by simp [State.beginSegment, hp, hs, hg]
    rw [same]
    exact ⟨fun _ => rfl, fun _ _ => rfl⟩
  | some g =>
    rw [State.beginSegment_eq hp hs hg]
    have seq := State.onPlay_rest k (fun p => { p with segment := 0 }) s
    have moved : (s.onPlay k fun p => { p with segment := 0 }).play k = some { p with segment := 0 } := by
      rw [State.onPlay_play_same, hp, Option.map_some]
    generalize (s.onPlay k fun p => { p with segment := 0 }) = u at seq moved
    obtain ⟨lco, -, -, -, mgt⟩ := State.parts_of_seq seq
    obtain ⟨p', -, -, -, -, layers, -, -, -, -, -, -, -, -, -, keyless, -⟩ := State.segmentParts_handed moved sc g
    rw [State.segmentParts_congr (p := { p with segment := 0 }) (q := p) rfl rfl, ← lco, ← mgt]
    exact ⟨keyless, fun lookless => layers (lookless g rfl)⟩

end Sys2Proof.Machine
end

section
/-! PROOF. START-SCENE (R41 to R43, R49, R53 to R57). -/

namespace Sys2Proof.Machine

variable {s t u v : State} {k j i new : SlotId} {p q : PlayRec} {sc d : SceneRec} {r : Request} {g : Segment} {m : SceneId}

/-! ### The command -/

/-- The request of a START-SCENE. -/
def serverRequest (m : SceneId) (sc : SceneRec) (pr : Nat) (tag : Half) : Request :=
  { scene := m, source := .server, priority := pr, deadline := sc.maxWait, tag := some tag }

/-- START-SCENE is answered with the outcome of its request (R178). -/
theorem exec_startScene {c : Cmd} {pr : Nat} (hears : s.hears c)
    (fields : (c.fields = [BitVec.ofNat 8 m.val, 255] ∧ pr = sc.priority) ∨
      (c.fields = [BitVec.ofNat 8 m.val, BitVec.ofNat 8 pr] ∧ pr ≤ 7))
    (scene : s.scene m = some sc) {ans : Answer} (run : (s.record c.seq).arrive (serverRequest m sc pr c.tag) = (ans, t)) :
    exec (.startScene c) s = .next (t.reply 11 ans.result.1 c.tag ans.result.2) := by
  have named : u8 c.fields 0 = m.val := by
    rcases fields with ⟨h, -⟩ | ⟨h, -⟩
    all_goals
      rw [h]
      exact toNat_byte (by omega)
  have form : (c.fields.length == 2) = true := by
    rcases fields with ⟨h, -⟩ | ⟨h, -⟩
    all_goals
      rw [h]
      rfl
  have prio : (u8 c.fields 1 ≤ 7 ∨ u8 c.fields 1 = 255) ∧ (prioField c.fields).getD sc.priority = pr := by
    rcases fields with ⟨h, own⟩ | ⟨h, small⟩
    · rw [h, own]
      exact ⟨.inr rfl, rfl⟩
    · have read : u8 c.fields 1 = pr := by
        rw [h]
        exact toNat_byte (by omega)
      refine ⟨.inl (by omega), ?_⟩
      rw [prioField, read, if_neg (by omega)]
      rfl
  have range : decide (u8 c.fields 0 < 48 ∧ (u8 c.fields 1 ≤ 7 ∨ u8 c.fields 1 = 255)) = true :=
    decide_eq_true ⟨by omega, prio.1⟩
  have read : Fin.ofNat 48 (u8 c.fields 0) = m := by rw [named]; exact Fin.ofNat_val_eq_self m
  have scene' : (s.record c.seq).scene m = some sc := scene
  have made : (s.record c.seq).newRequest m .server (prioField c.fields) (some c.tag) = serverRequest m sc pr c.tag := by
    rw [State.newRequest, scene']
    dsimp only
    rw [prio.2]
    rfl
  have after : (s.record c.seq).afterNewRequest m (prioField c.fields) = s.record c.seq := by
    rw [State.afterNewRequest, scene']
    rfl
  rw [show exec (.startScene c) s = execStartScene c s from rfl, execStartScene, form, range, State.command_run hears,
    State.runStart, read, State.request, made, after, run, State.answer_some]

/-! ### What a start leaves -/

/-- A start with the judgement of the indicators. -/
def State.begun (k : SlotId) (r : Request) (sc : SceneRec) (v : State) : State := (v.start k r sc).judgeIndicators

theorem State.begun_play (k : SlotId) (r : Request) (sc : SceneRec) (v : State) : ∃ p, (v.begun k r sc).play k = some p ∧
    p.scene = r.scene ∧ p.source = r.source ∧ p.priority = r.priority ∧ p.position = 0 ∧ p.segment = 0 ∧
    p.plays = sc.repeats ∧ p.claims = sc.claims := by
  obtain ⟨q, hq, same⟩ := State.start_play k r sc v
  rw [State.begun, State.judgeIndicators_play]
  refine ⟨q, hq, ?_⟩
  rw [same]
  exact ⟨rfl, rfl, rfl, rfl, rfl, rfl, rfl⟩

theorem State.begun_arb (k : SlotId) (r : Request) (sc : SceneRec) (v : State) :
    (v.begun k r sc).arb = (v.start k r sc).arb := by
  rw [State.begun]
  simp only [State.judgeIndicators_frame]

/-- A slot that a start does not preempt plays on. -/
theorem State.begun_play_other (ne : j ≠ k) (free : ¬ownsClaim v sc.claims j) (hp : v.play j = some p) :
    ∃ q, (v.begun k r sc).play j = some q ∧ q = { p with marks := q.marks } := by
  rw [State.begun, State.judgeIndicators_play]
  refine State.play_bare_congr ?_ hp
  rw [State.start_bare, if_neg ne, if_neg (mt ownsClaim_iff.mpr free)]

/-- The owners after a start: its claims are its own, and a slot that it preempts owns nothing. -/
theorem State.begun_owners (k : SlotId) (r : Request) (sc : SceneRec) (v : State) (x : ResourceId) :
    (sc.claims.mask.getLsbD x = true → (v.begun k r sc).arb.owners[x] = some k) ∧
    (sc.claims.mask.getLsbD x = false → (v.arb.owners[x] = none → (v.begun k r sc).arb.owners[x] = none) ∧
      ∀ j, v.arb.owners[x] = some j →
        (ownsClaim v sc.claims j → (v.begun k r sc).arb.owners[x] = none) ∧
        (¬ownsClaim v sc.claims j → (v.begun k r sc).arb.owners[x] = some j)) := by
  rw [State.begun_arb, State.start_owners]
  refine ⟨fun h => if_pos h, fun h => ?_⟩
  rw [if_neg (by rw [h]; exact Bool.false_ne_true)]
  refine ⟨fun none => by rw [none], fun j hj => ?_⟩
  rw [hj, ownsClaim_iff]
  exact ⟨fun h => if_pos (List.contains_iff_mem.mpr h), fun h => if_neg (mt List.contains_iff_mem.mp h)⟩

theorem State.begun_frame (k : SlotId) (r : Request) (sc : SceneRec) (v : State) : (v.begun k r sc).mu = v.mu ∧
    (v.begun k r sc).sck = v.sck ∧ (v.begun k r sc).iou.lines = v.iou.lines ∧ (v.begun k r sc).iou.zones = v.iou.zones ∧
    (v.begun k r sc).ports = v.ports := by
  rw [State.begun, State.judgeIndicators_iou_eq]
  simp only [State.judgeIndicators_frame, State.start_frame, and_self]

/-- The parts of a start that segment 0 leaves. -/
theorem State.begun_begun (k : SlotId) (r : Request) (sc : SceneRec) (v : State) :
    State.Begun k (v.readied k r sc) (v.start k r sc) := by
  rw [State.start_eq]
  exact State.beginSegment_begun ((State.readied_nmx k r sc v).2 k |>.trans (if_pos rfl)) 0

theorem State.begun_partless (k : SlotId) {r : Request} (v : State) (scene : v.scene r.scene = some sc) :
    (sc.segments[0]?.bind (·.keys) = none → (v.start k r sc).mgt = (v.readied k r sc).mgt) ∧
    ((∀ g, sc.segments[0]? = some g → g.look = none) →
      ∀ c : ChannelId, ((v.start k r sc).lco.channels[c]).layer = ((v.readied k r sc).lco.channels[c]).layer) := by
  obtain ⟨q, hq, same⟩ := State.readied_play k r sc v
  rw [State.start_eq]
  refine State.beginSegment_partless hq ?_
  have mu : (v.readied k r sc).mu = v.mu := by
    rw [State.readied_eq]
    simp only [State.askStatus_frame, State.judgeAxes_frame, State.occupySlot_frame, State.onMgt_mu, State.enter_frame,
      State.onArb_mu, State.onLco_mu]
    exact foldl_same (g := State.mu) (fun t k => by simp only [State.preemptOne_frame]) _ v
  rw [same, State.scene, mu]
  exact scene

/-! ### Preempting -/

theorem State.start_preempted (h : ownsClaim v sc.claims j) (ne : j ≠ k) (hp : v.play j = some p) :
    (v.begun k r sc).seq.slots[j] = .free (some p.scene) .preempted ∧ (v.begun k r sc).nmx.cues[j] = none ∧
    (v.begun k r sc).lco.effects[j] = none := by
  have mem := ownsClaim_iff.mp h
  have nodup := State.preemptSet_nodup (s := v) sc.claims
  obtain ⟨-, effect, cue⟩ := (State.begun_begun k r sc v).others j ne
  refine ⟨?_, ?_, ?_⟩
  · refine State.slot_of_bare ?_
    rw [State.begun]
    simp only [State.judgeIndicators_frame]
    rw [State.start_bare, if_neg ne, if_pos mem, hp]
  · rw [State.begun]
    simp only [State.judgeIndicators_frame]
    rw [cue, (State.readied_nmx k r sc v).2, if_neg ne, turns_cues (State.preemptOne_turn _ _) nodup mem hp]
  · rw [State.begun, (State.judgeIndicators_effects _).1, effect, (State.readied_lco_rest k r sc v).2 j ne,
      turns_effects (State.preemptOne_turn _ _) nodup mem hp]

/-- The log of a start holds the entries of the slots that it preempted. -/
theorem State.start_entered (h : ownsClaim v sc.claims j) (hp : v.play j = some p) :
    ∃ e ∈ (v.begun k r sc).arb.log, preemptedEntry k j p e := by
  obtain ⟨es, short, log, entered⟩ :=
    State.preempted_log (new := k) (kept := sc.claims) (v.preemptSet sc.claims) v (State.preemptSet_nodup _)
  obtain ⟨e, he, is⟩ := entered j p (ownsClaim_iff.mp h) hp
  have few : (v.preemptSet sc.claims).length ≤ 8 := by
    refine (List.length_filter_le _ _).trans ?_
    rw [List.length_finRange]
  refine ⟨e, ?_, is⟩
  rw [State.begun_arb, State.start_arb_eq, Arb.enter_log]
  dsimp only
  rw [(Arb.takeClaims_received _ _ _ _).2.2.2.2]
  change e ∈ lastOf 16 ((v.preempted k sc.claims (v.preemptSet sc.claims)).arb.log ++ _)
  rw [log, List.append_assoc]
  refine mem_lastOf ?_ (List.mem_append_left _ he)
  rw [List.length_append, List.length_singleton]
  omega

/-- A STATUS that is asked for of a queue with room waits there. -/
theorem Sli.askStatus_waits {x : Sli} (room : x.ownQueue.length < 32) :
    x.askStatus.waiting ∧ x.askStatus.ownQueue.length ≤ x.ownQueue.length + 1 := by
  cases w : x.ownQueue.any Report.isStatus with
  | true =>
    rw [Sli.askStatus_waiting w]
    exact ⟨w, Nat.le_succ _⟩
  | false =>
    rw [Sli.askStatus_room w room]
    exact ⟨by simp [Sli.waiting, Report.isStatus], by simp⟩

/-- The cues of the slots that a start preempts are cancelled where the queue has room for all of them (R100, R101). -/
theorem State.start_cancels (cues : v.nmx = s.nmx) (sli : v.sli = s.sli.askStatus)
    (plays : ∀ j, (s.play j).isSome = true → ∃ p, v.play j = some p) :
    CuesCancelled (fun j => ownsClaim v sc.claims j ∧ (s.play j).isSome = true) .preempted s (v.begun k r sc) := by
  intro j c ⟨owns, busy⟩ hc
  obtain ⟨p, hp⟩ := plays j busy
  have mem := ownsClaim_iff.mp owns
  have nodup := State.preemptSet_nodup (s := v) sc.claims
  obtain ⟨ramps, live, -, -, reports⟩ := State.begun_begun k r sc v
  have same : (v.begun k r sc).sli = (v.start k r sc).sli ∧ (v.begun k r sc).nmx = (v.start k r sc).nmx ∧
      (v.begun k r sc).lco.cueLive = (v.start k r sc).lco.cueLive := by
    rw [State.begun]
    simp only [State.judgeIndicators_frame, true_and]
    exact (State.judgeIndicators_effects _).2
  rw [same.1, same.2.1, same.2.2]
  rw [← cues] at hc
  refine ⟨fun running room => ?_, fun loud apart => ?_⟩
  · have short : (v.preemptSet sc.claims).length ≤ 8 := by
      refine (List.length_filter_le _ _).trans ?_
      rw [List.length_finRange]
    obtain ⟨waiting, length⟩ := Sli.askStatus_waits (x := s.sli) (by omega)
    rw [← sli] at waiting length
    obtain ⟨-, joined⟩ := turns_reports (State.preemptOne_turn k sc.claims) _ v nodup waiting (by omega)
    have asked := Sli.askStatus_extends (v.preempted k sc.claims (v.preemptSet sc.claims)).sli
    rw [← State.readied_sli k r] at asked
    refine reports.queue.subset (asked.queue.subset (joined j p c mem hp hc ?_))
    rintro (e | e | e) <;>
    · rw [e] at running
      simp at running
  · have alone : v.alone j c := fun i d ne hd => apart i d ne (cues ▸ hd)
    obtain ⟨ramp, dark⟩ := turns_live (State.preemptOne_turn k sc.claims) nodup mem hp hc loud alone
    rw [ramps, live, (State.readied_nmx k r sc v).1, (State.readied_lco_rest k r sc v).1]
    exact ⟨ramp, dark⟩

/-! ### The lights and the axes -/

/-- A group that a start takes from an owner is handed over at its levels (R56, R78). -/
theorem State.start_hands_over (scene : v.scene r.scene = some sc) (lookless : ∀ g, sc.segments[0]? = some g → g.look = none)
    {c : ChannelId} (claimed : sc.claims.groups.getLsbD (channelGroup c) = true)
    (owned : v.arb.owners[groupRes (channelGroup c)] ≠ none) :
    ((v.begun k r sc).lco.channels[c]).layer = (holdLayer k v.lco.channels[c]).layer := by
  have taken : (v.takenGroups sc.claims).getLsbD (channelGroup c) = true := by
    rw [State.takenGroups_bit, claimed, Option.isSome_iff_ne_none.mpr owned]
    rfl
  rw [State.begun, State.judgeIndicators_layer, (State.begun_partless k v scene).2 lookless, State.readied_channels,
    if_pos taken, turns_channels_kept (State.preemptOne_turn _ _) claimed]

/-- A group of a preempted slot that the start does not claim is released (R56, R76). -/
theorem State.start_releases (scene : v.scene r.scene = some sc) (lookless : ∀ g, sc.segments[0]? = some g → g.look = none)
    {c : ChannelId} (owns : ownsClaim v sc.claims j) (hp : v.play j = some p) (hd : v.scene p.scene = some d)
    (claimed : p.claims.groups.getLsbD (channelGroup c) = true) (free : sc.claims.groups.getLsbD (channelGroup c) = false)
    (owner : (v.lco.channels[c]).layer.owner = some j) :
    ((v.begun k r sc).lco.channels[c]).layer = releasedLayer d.releaseFade v.lco.channels[c] := by
  have untaken : (v.takenGroups sc.claims).getLsbD (channelGroup c) = false := by
    rw [State.takenGroups_bit, free, Bool.false_and]
  rw [State.begun, State.judgeIndicators_layer, (State.begun_partless k v scene).2 lookless, State.readied_channels,
    untaken, turns_channels_released (State.preemptOne_turn _ _) (by decide) (State.preemptSet_nodup _) (ownsClaim_iff.mp owns) hp hd claimed free owner]
  rfl

/-- An axis of a preempted slot that the start does not claim loses its scene target, and its keyframe where the start
gives none (R57, R117). -/
theorem State.start_drops (scene : v.scene r.scene = some sc) (owns : ownsClaim v sc.claims j) (hp : v.play j = some p)
    {a : AxisId} (claimed : p.claims.axes.getLsbD a = true) (free : sc.claims.axes.getLsbD a = false) :
    ((v.begun k r sc).mgt.axes[a]).sceneTarget = none ∧
    (sc.segments[0]?.bind (·.keys) = none → ((v.begun k r sc).mgt.axes[a]).keyframe = none) := by
  obtain ⟨target, key⟩ := turns_axes_dropped (State.preemptOne_turn k sc.claims) (State.preemptSet_nodup (s := v) sc.claims)
    (ownsClaim_iff.mp owns) hp claimed free
  obtain ⟨m, axis⟩ := State.readied_axes k r sc v a
  rw [free, if_neg Bool.false_ne_true, Axis.enter_eq] at axis
  rw [State.begun]
  simp only [State.judgeIndicators_frame]
  refine ⟨?_, fun keyless => ?_⟩
  · have rest := congrArg Axis.sceneTarget ((State.begun_begun k r sc v).axes a)
    dsimp only at rest
    exact rest.trans ((congrArg Axis.sceneTarget axis).trans target)
  · have same := congrArg (fun x : Mgt => (x.axes[a]).keyframe) ((State.begun_partless k v scene).1 keyless)
    exact same.trans ((congrArg Axis.keyframe axis).trans key)

/-- An axis that a start claims is taken where it stands (R57). -/
theorem State.start_takes (scene : v.scene r.scene = some sc) (keyless : sc.segments[0]?.bind (·.keys) = none)
    {a : AxisId} (claimed : sc.claims.axes.getLsbD a = true) :
    ((v.begun k r sc).mgt.axes[a]).sceneTarget = some (v.mgt.axes[a]).pos ∧
    ((v.begun k r sc).mgt.axes[a]).keyframe = none ∧ ((v.begun k r sc).mgt.axes[a]).pos = (v.mgt.axes[a]).pos := by
  obtain ⟨m, axis⟩ := State.readied_axes k r sc v a
  rw [if_pos claimed, turns_axes_kept (State.preemptOne_turn _ _) claimed, Axis.enter_eq] at axis
  rw [State.begun]
  simp only [State.judgeIndicators_frame]
  have same := congrArg (fun x : Mgt => x.axes[a]) ((State.begun_partless k v scene).1 keyless)
  have taken := same.trans axis
  exact ⟨(congrArg Axis.sceneTarget taken :), (congrArg Axis.keyframe taken :), (congrArg Axis.pos taken :)⟩

end Sys2Proof.Machine
end

section
/-! PROOF. START-SCENE (R41 to R43, R49, R53 to R57): its answers. -/

namespace Sys2Proof.Machine

variable {s t u v : State} {k j i new : SlotId} {p q : PlayRec} {sc d : SceneRec} {r : Request} {g : Segment} {m : SceneId}

theorem admits_server (x : HouseMode) : admits x .server = true := by cases x <;> rfl

/-- START-SCENE of a scene that can start with nothing queued starts it, and answers with the slot. -/
theorem exec_startScene_starts {c : Cmd} {pr : Nat} (hears : s.hears c)
    (fields : (c.fields = [BitVec.ofNat 8 m.val, 255] ∧ pr = sc.priority) ∨
      (c.fields = [BitVec.ofNat 8 m.val, BitVec.ofNat 8 pr] ∧ pr ≤ 7))
    (scene : s.scene m = some sc) (running : s.arb.showStopped = false) (nil : s.arb.queue = [])
    (idle : s.isPlaying m = false) (eligible : s.eligible m = true) (moves : s.motionBlocked m = false)
    (slot : s.canStart 0 (serverRequest m sc pr c.tag) sc = some k) :
    let r := serverRequest m sc pr c.tag
    let t := ((s.record c.seq).inserted r).begun k r sc
    exec (.startScene c) s = .next (t.reply 11 .done c.tag [0, BitVec.ofNat 8 k.val]) ∧
    (∃ p, t.play k = some p ∧ p.scene = m ∧ p.source = .server ∧ p.priority = pr ∧ p.position = 0 ∧
      p.segment = 0 ∧ p.plays = sc.repeats ∧ p.claims = sc.claims) ∧ t.arb.queue = [] ∧
    (∀ x : ResourceId, sc.claims.mask.getLsbD x = true → t.arb.owners[x] = some k) ∧
    (∃ e : LogEntry, t.arb.log.getLast? = some e ∧ e.scene = m ∧ e.kind = .started k ∧ e.tag = some c.tag) ∧
    t.mu = s.mu ∧ t.sck = s.sck ∧ t.iou.lines = s.iou.lines ∧ t.iou.zones = s.iou.zones ∧ t.ports = s.ports := by
  intro r
  dsimp only
  have accepted : (s.record c.seq).refusal r = none :=
    State.refusal_accepts (s := s.record c.seq) (r := r) nil running (admits_server _) idle eligible moves
  have ran := exec_startScene hears fields scene
    (State.arrive_starts (s := s.record c.seq) (r := r) (new := k) nil accepted scene slot)
  have queue : ((s.record c.seq).inserted r).arb.queue = [r] := by
    rw [State.inserted_arb, show (s.record c.seq).arb.queue = [] from nil]
    rfl
  have kept : ((s.record c.seq).inserted r).mu = s.mu ∧ ((s.record c.seq).inserted r).sck = s.sck ∧
      ((s.record c.seq).inserted r).iou = s.iou ∧ ((s.record c.seq).inserted r).ports = s.ports := ⟨rfl, rfl, rfl, rfl⟩
  rw [← State.begun] at ran
  generalize (s.record c.seq).inserted r = v at ran queue kept
  obtain ⟨e, last, scene, -, kind, tag⟩ := State.start_logged k r sc v
  obtain ⟨mu, sck, lines, zones, ports⟩ := State.begun_frame k r sc v
  obtain ⟨mu', sck', iou', ports'⟩ := kept
  refine ⟨ran, State.begun_play k r sc v, ?_, fun x => (State.begun_owners k r sc v x).1, ⟨e, ?_, scene, kind, tag⟩,
    mu.trans mu', sck.trans sck', lines.trans (by rw [iou']), zones.trans (by rw [iou']), ports.trans ports'⟩
  · rw [State.begun_arb, State.start_queue, queue]
    exact List.erase_cons_head r []
  · rw [State.begun_arb, last]

/-- The entry of a start that preempts nothing has the next number. -/
theorem State.begun_number (k : SlotId) (r : Request) (v : State) (alone : ∀ j, ¬ownsClaim v sc.claims j) :
    ∃ e : LogEntry, (v.begun k r sc).arb.log.getLast? = some e ∧ e.number = v.arb.nextNumber := by
  have none : v.preemptSet sc.claims = [] :=
    List.eq_nil_iff_forall_not_mem.mpr fun j h => alone j (ownsClaim_iff.mpr h)
  rw [State.begun_arb, State.start_arb_eq, none, List.foldl_nil]
  generalize v.arb = x
  have number : (x.takeClaims k sc.claims.mask []).nextNumber = x.nextNumber := by simp only [Arb.takeClaims]
  generalize x.takeClaims k sc.claims.mask [] = y at number
  rw [Arb.enter_log]
  exact ⟨_, lastOf_getLast _ _ _, number⟩

/-- A scene that may preempt starts in the lowest slot that is FREE or ends for it (R54, R55). -/
theorem State.canStart_preempts (may : sc.mayPreempt = true)
    (yields : ∀ j, ownsClaim s sc.claims j → ∃ p d, s.play j = some p ∧ s.scene p.scene = some d ∧
      p.priority < r.priority ∧ d.yieldable = true)
    (use : mayUse s sc.claims k) (lower : ∀ j : SlotId, j < k → (s.play j).isSome = true ∧ ¬ownsClaim s sc.claims j) :
    s.canStart 0 r sc = some k := by
  rw [State.canStart_free]
  · refine State.startSlot_lowest use fun j lt use => ?_
    obtain ⟨plays, free⟩ := lower j lt
    rcases use with owns | ⟨idle, -⟩
    · exact free owns
    · rw [idle] at plays
      cases plays
  · refine State.resourceTest_iff.mpr fun x hx j owned => ?_
    obtain ⟨p, d, hp, hd, below, yieldable⟩ := yields j ⟨x, hx, owned⟩
    exact ⟨may, p, d, hp, hd, yieldable, below⟩

theorem holdLayer_layer (k : SlotId) (ch : Channel) : (holdLayer k ch).layer =
    if ch.layer.phase = .idle then ch.layer else {
      owner := some k, phase := .settled, fromLevel := capture ch, toLevel := capture ch, len := 0, pos := 0 } := by
  unfold holdLayer
  split <;> rfl

theorem releasedLayer_fades {fade : Nat} (h : 0 < fade) (ch : Channel) : releasedLayer fade ch = {
    owner := none, phase := .releasing, fromLevel := capture ch, toLevel := 0, len := fade, pos := 0 } := by
  rw [releasedLayer, if_neg (by omega)]

/-- A request that R52 lets wait cannot start. -/
theorem State.canStart_waits (h : waits s sc r.priority 0) : s.canStart 0 r sc = none := by
  rcases h with ⟨x, -, blocked⟩ | ⟨x, hx, held⟩ | full
  · simp at blocked
  · refine State.canStart_blocked ?_ 0
    rw [← Bool.not_eq_true, State.resourceTest_iff]
    exact fun passes => held (passes x hx)
  · rw [State.canStart, State.startSlot_none full, ite_self]

/-- A request for an eligible scene that is neither playing nor queued is accepted while the queue has room (R42). -/
theorem State.refusal_room (running : s.arb.showStopped = false) (admitted : admits s.arb.mode r.source = true)
    (unbusy : s.isBusy r.scene = false) (eligible : s.eligible r.scene = true) (moves : s.motionBlocked r.scene = false)
    (room : s.arb.queue.length < 16) : s.refusal r = none := by
  rw [State.refusal, running, admitted, unbusy, eligible, moves]
  exact if_neg (Nat.not_le.mpr room)

theorem State.settle_started (h : s.playingSlot r.scene = some k) : s.settle r = (.started k, s) := by
  rw [State.settle, h]

theorem State.settle_queued (free : s.playingSlot r.scene = none) (queued : s.isQueued r.scene = true)
    (wait : 0 < r.deadline) : s.settle r = (.queued, s) := by
  rw [State.settle, free]
  simp only [queued, if_true, if_neg (Nat.pos_iff_ne_zero.mp wait)]

theorem State.settle_timedOut (free : s.playingSlot r.scene = none) (queued : s.isQueued r.scene = true)
    (wait : r.deadline = 0) : s.settle r = (.timedOut, (s.depart r .timedOut).judgeIndicators) := by
  rw [State.settle, free]
  simp only [queued, if_true, if_pos wait]

/-- What the walk of a lone request that must wait leaves. -/
theorem State.inserted_waits (nil : s.arb.queue = []) (eligible : s.eligible r.scene = true)
    (scene : s.scene r.scene = some sc) (h : waits s sc r.priority 0) : (s.inserted r).walk = (s.inserted r).judgeIndicators :=
  State.walk_waits (by rw [State.inserted_arb, nil]; rfl) ((State.inserted_eligible nil).trans eligible) scene
    (State.canStart_waits (s := s.inserted r) h)

/-- Nothing has changed but the queue, the outcome log, the reports and the indicators. -/
structure State.Waited (s t : State) : Prop where
  owners : t.arb.owners = s.arb.owners
  seq : t.seq = s.seq
  nmx : t.nmx = s.nmx
  mgt : t.mgt = s.mgt
  mu : t.mu = s.mu
  sck : t.sck = s.sck
  lines : t.iou.lines = s.iou.lines
  zones : t.iou.zones = s.iou.zones
  ports : t.ports = s.ports

theorem State.Waited.judged (h : State.Waited s t) : State.Waited s t.judgeIndicators := by
  obtain ⟨owners, seq, nmx, mgt, mu, sck, lines, zones, ports⟩ := h
  refine ⟨?_, ?_, ?_, ?_, ?_, ?_, ?lines, ?zones, ?_⟩
  case lines | zones =>
    rw [State.judgeIndicators_iou_eq]
    assumption
  all_goals
    simp only [State.judgeIndicators_frame]
    assumption

/-- A request that waits with nothing else queued. -/
theorem State.waiting_alone {u v : State} (same : State.Waited s v) (kept : v.arb = { s.arb with queue := [r] })
    (waited : u = v.judgeIndicators) :
    State.Waited s u ∧ IndicatorsJudged u ∧ u.arb = { s.arb with queue := [r] } := by
  rw [waited]
  refine ⟨same.judged, State.judgeIndicators_judged v, ?_⟩
  simp only [State.judgeIndicators_frame]
  exact kept

/-- A request that waits alone leaves TIMED-OUT. -/
theorem State.timedOut_alone {u : State} (shown : State.Waited s u) (queue : u.arb = { s.arb with queue := [r] }) :
    let w := (u.depart r .timedOut).judgeIndicators
    State.Waited s w ∧ IndicatorsJudged w ∧ w.arb.queue = [] ∧ w.arb.nextNumber = s.arb.nextNumber + 1 ∧
      w.arb.log.getLast? = some (departureEntry .timedOut s.arb.nextNumber r) := by
  have left := State.depart_arb_eq r .timedOut u
  have shown : State.Waited s (u.depart r .timedOut) := by
    obtain ⟨owners, seq, nmx, mgt, mu, sck, lines, zones, ports⟩ := shown
    exact ⟨owners, seq, nmx, mgt, mu, sck, lines, zones, ports⟩
  dsimp only
  generalize u.depart r .timedOut = w at left shown
  refine ⟨shown.judged, State.judgeIndicators_judged w, ?_, ?_, ?_⟩
  all_goals
    simp only [State.judgeIndicators_frame]
    rw [left, queue]
  · exact List.erase_cons_head _ []
  · exact lastOf_getLast _ _ _

/-- Settles O36. -/
theorem startSceneStarts : Obligations.StartSceneStarts := by
  unfold Obligations.StartSceneStarts
  refine ⟨fun c m sc k pr s hears fields scene running nil idle eligible moves => ?_,
    fun c m sc pr s hears fields scene running unbusy eligible moves room => ?_⟩
  · have starts := exec_startScene_starts (k := k) hears fields scene running nil idle eligible moves
    have known : ((s.record c.seq).inserted (serverRequest m sc pr c.tag)).scene m = some sc := scene
    have same : ((s.record c.seq).inserted (serverRequest m sc pr c.tag)).arb.owners = s.arb.owners ∧
        ((s.record c.seq).inserted (serverRequest m sc pr c.tag)).arb.nextNumber = s.arb.nextNumber ∧
        ((s.record c.seq).inserted (serverRequest m sc pr c.tag)).play = s.play ∧
        ((s.record c.seq).inserted (serverRequest m sc pr c.tag)).scene = s.scene ∧
        ((s.record c.seq).inserted (serverRequest m sc pr c.tag)).lco = s.lco ∧
        ((s.record c.seq).inserted (serverRequest m sc pr c.tag)).mgt = s.mgt ∧
        ((s.record c.seq).inserted (serverRequest m sc pr c.tag)).nmx = (s.record c.seq).nmx ∧
        ((s.record c.seq).inserted (serverRequest m sc pr c.tag)).sli = (s.record c.seq).sli.askStatus :=
      ⟨rfl, rfl, rfl, rfl, rfl, rfl, rfl, rfl⟩
    dsimp only at starts ⊢
    generalize ((s.record c.seq).inserted (serverRequest m sc pr c.tag)) = v at starts known same
    have wants : (serverRequest m sc pr c.tag).scene = m ∧ (serverRequest m sc pr c.tag).priority = pr := ⟨rfl, rfl⟩
    generalize serverRequest m sc pr c.tag = r at starts wants
    obtain ⟨rfl, rfl⟩ := wants
    obtain ⟨owners, number, play, scenes, lco, mgt, nmx, sli⟩ := same
    have owns (j : SlotId) : ownsClaim v sc.claims j ↔ ∃ x : ResourceId, sc.claims.mask.getLsbD x = true ∧ s.arb.owners[x] = some j := by
      rw [ownsClaim, owners]
    refine ⟨fun unowned free unheld lowest => ?_, fun may _ yields use lower => ?_⟩
    · have alone (j : SlotId) : ¬ownsClaim v sc.claims j := fun h => by
        obtain ⟨x, hx, hj⟩ := (owns j).mp h
        rw [unowned x hx] at hj
        cases hj
      refine ⟨_, starts (State.canStart_lowest unowned free unheld lowest), fun x hx => ?_, ?_, fun j p ne hp => ?_⟩
      · obtain ⟨none, some⟩ := (State.begun_owners k r sc v x).2 hx
        rw [owners] at none some
        cases h : s.arb.owners[x] with
        | none => exact none h
        | some j => exact (some j h).2 (alone j)
      · rw [← number]
        exact State.begun_number k r v alone
      · exact State.begun_play_other ne (alone j) (by rw [play, hp])
    · have plain {j : SlotId} : ownsClaim v sc.claims j ↔ ownsClaim s sc.claims j := by rw [ownsClaim, ownsClaim, owners]
      have slot : s.canStart 0 r sc = some k := State.canStart_preempts may yields use lower
      have lookless (g : Segment) (hg : sc.segments[0]? = some g) (h : g.look = none) :
          ∀ g, sc.segments[0]? = some g → g.look = none := fun g' hg' => by
        cases hg.symm.trans hg'
        exact h
      refine ⟨_, starts slot, fun x j hx hj => ?_, fun x hx => ?_, fun j p hj hp => ⟨fun ne => ?_, fun a claimed free => ?_, ?_⟩,
        ?_, fun j p ne free hp => ?_, fun g hg => ⟨fun h ch => ⟨fun claimed owned => ?_,
          fun j p d hj hp hd claimed free owner fades => ?_⟩, fun h a claimed => ?_⟩⟩
      · rw [← owners] at hj
        obtain ⟨lost, stays⟩ := ((State.begun_owners k r sc v x).2 hx).2 j hj
        exact ⟨fun h => lost (plain.mpr h), fun h => stays (mt plain.mp h)⟩
      · rw [← owners]
        exact ((State.begun_owners k r sc v x).2 hx).1
      · exact State.start_preempted (plain.mpr hj) ne (by rw [play, hp])
      · exact State.start_drops known (plain.mpr hj) (by rw [play, hp]) claimed free
      · exact State.start_entered (plain.mpr hj) (by rw [play, hp])
      · have cancels := State.start_cancels (s := s.record c.seq) (k := k) (r := r) (sc := sc) nmx sli fun j busy => by
          rw [play]
          exact Option.isSome_iff_exists.mp busy
        exact fun j c ⟨hj, busy⟩ => cancels j c ⟨plain.mpr hj, busy⟩
      · exact State.begun_play_other ne (mt plain.mp free) (by rw [play, hp])
      · rw [State.start_hands_over known (lookless g hg h) claimed (by rw [owners]; exact owned), holdLayer_layer, lco]
      · rw [State.start_releases known (lookless g hg h) (plain.mpr hj) (by rw [play, hp]) (by rw [scenes, hd]) claimed free
          (by rw [lco, owner]), lco, releasedLayer_fades fades]
      · rw [← mgt]
        exact State.start_takes known (by rw [hg]; exact h) claimed
  · have nil (h : s.arb.queue = []) : (s.record c.seq).arb.queue = [] := h
    have accepted : (s.record c.seq).refusal (serverRequest m sc pr c.tag) = none :=
      State.refusal_room (s := s.record c.seq) running (admits_server _) unbusy eligible moves room
    have ran (ans : Answer) (t : State) (bytes : List Byte) (result : ans.result = (.done, bytes))
        (settled : ((s.record c.seq).inserted (serverRequest m sc pr c.tag)).walk.settle (serverRequest m sc pr c.tag) = (ans, t)) :
        exec (.startScene c) s = .next (t.reply 11 .done c.tag bytes) := by
      rw [exec_startScene hears fields scene ((State.arrive_accepted accepted).trans settled), result]
    have held (nil : s.arb.queue = []) (h : waits s sc pr 0) :=
      State.inserted_waits (s := s.record c.seq) (r := serverRequest m sc pr c.tag) nil eligible scene h
    intro r u
    have hu : u = ((s.record c.seq).inserted r).walk := rfl
    have wants : r = serverRequest m sc pr c.tag := rfl
    have kept : ((s.record c.seq).inserted r).arb = { s.arb with queue := insertRequest r s.arb.queue } := rfl
    clear_value u r
    subst wants
    rw [← hu] at ran held
    refine ⟨fun k hk => ?_, fun free queued wait => ?_, fun free queued wait => ?_, fun nil h => ?_⟩
    · exact ran _ u _ rfl (State.settle_started hk)
    · exact ran _ u _ rfl (State.settle_queued free queued wait)
    · exact ran _ _ _ rfl (State.settle_timedOut free queued wait)
    · have same : State.Waited s ((s.record c.seq).inserted (serverRequest m sc pr c.tag)) :=
        ⟨rfl, rfl, rfl, rfl, rfl, rfl, rfl, rfl, rfl⟩
      rw [nil] at kept
      obtain ⟨shown, judged, queue⟩ := State.waiting_alone same kept (held nil h)
      have free : u.playingSlot m = none := by
        rw [State.playingSlot_congr (s := s) (by rw [shown.seq])]
        simpa [State.isBusy, State.isQueued, nil, State.isPlaying] using unbusy
      have queued : u.isQueued m = true :=
        State.isQueued_iff.mpr ⟨serverRequest m sc pr c.tag, by rw [queue]; exact List.mem_singleton_self _, rfl⟩
      by_cases wait : sc.maxWait = 0
      · obtain ⟨shown, judged, empty, number, logged⟩ := State.timedOut_alone shown queue
        obtain ⟨owners, seq, nmx, mgt, mu, sck, lines, zones, ports⟩ := shown
        exact ⟨_, owners, seq, nmx, mgt, mu, sck, lines, zones, ports, judged,
          fun some => absurd wait (Nat.pos_iff_ne_zero.mp some),
          fun _ => ⟨ran _ _ _ rfl (State.settle_timedOut free queued wait), empty, number,
            departureEntry .timedOut s.arb.nextNumber (serverRequest m sc pr c.tag), logged, rfl, rfl, rfl, rfl, rfl, rfl⟩⟩
      · obtain ⟨owners, seq, nmx, mgt, mu, sck, lines, zones, ports⟩ := shown
        refine ⟨u, owners, seq, nmx, mgt, mu, sck, lines, zones, ports, judged, fun some => ⟨?_, ?_, ?_, ?_⟩,
          fun none => absurd none wait⟩
        · exact ran _ u _ rfl (State.settle_queued free queued some)
        all_goals rw [queue]

end Sys2Proof.Machine
end

section
/-! SUPPORT. What the operations of the ARB and the SEQ leave standing: the IOU beside its indicators, the marks of the SLI,
the zones and the guards, whatever starts, ends or waits (R20, R33, R38, R51). -/

namespace Sys2Proof.Machine

/-- What no firing, request, walk, start or end of a slot changes. -/
structure Standing where
  iou : Iou
  stuckLines : BitVec 16
  lineStuck : Bool
  sources : Vector Src 44
  mode : HouseMode
  arbOcc : Vector OccKind 4
  mgtOcc : Vector OccKind 4
  guards : AxisId → Bool × Nat
  mu : Mu
  sck : Sck
  ports : Vector Port 4

/-- The guard of an axis: its mark and its countdown (R119). -/
def Axis.guard (x : Axis) : Bool × Nat := (x.guarded, x.rearm)

def Mgt.guards (x : Mgt) (a : AxisId) : Bool × Nat := (x.axes[a]).guard

def State.standing (s : State) : Standing where
  iou := { s.iou with indicators := Vector.replicate 32 none }
  stuckLines := s.sli.stuckLines
  lineStuck := s.sli.lineStuck
  sources := s.sli.sources
  mode := s.arb.mode
  arbOcc := s.arb.occ
  mgtOcc := s.mgt.occ
  guards := s.mgt.guards
  mu := s.mu
  sck := s.sck
  ports := s.ports

variable {s t : State}

/-! ### Writes of a block -/

@[simp] theorem State.onSeq_standing (f : Seq → Seq) : (s.onSeq f).standing = s.standing := rfl
@[simp] theorem State.onLco_standing (f : Lco → Lco) : (s.onLco f).standing = s.standing := rfl
@[simp] theorem State.onNmx_standing (f : Nmx → Nmx) : (s.onNmx f).standing = s.standing := rfl

theorem State.onArb_standing {f : Arb → Arb} (mode : (f s.arb).mode = s.arb.mode) (occ : (f s.arb).occ = s.arb.occ) :
    (s.onArb f).standing = s.standing := by
  rw [State.standing, State.onArb_arb, mode, occ]
  rfl

theorem State.onSli_standing {f : Sli → Sli} (lines : (f s.sli).stuckLines = s.sli.stuckLines)
    (stuck : (f s.sli).lineStuck = s.sli.lineStuck) (sources : (f s.sli).sources = s.sli.sources) :
    (s.onSli f).standing = s.standing := by
  rw [State.standing, State.onSli_sli, lines, stuck, sources]
  rfl

theorem State.onMgt_standing {f : Mgt → Mgt} (occ : (f s.mgt).occ = s.mgt.occ) (guards : (f s.mgt).guards = s.mgt.guards) :
    (s.onMgt f).standing = s.standing := by
  rw [State.standing, State.onMgt_mgt, occ, guards]
  rfl

theorem Sli.Extends.standing {x y : Sli} (h : x.Extends y) : y.stuckLines = x.stuckLines ∧ y.lineStuck = x.lineStuck ∧
    y.sources = x.sources := by
  rw [← h.rest]
  exact ⟨rfl, rfl, rfl⟩

@[simp] theorem State.askStatus_standing : s.askStatus.standing = s.standing := by
  obtain ⟨lines, stuck, sources⟩ := (Sli.askStatus_extends s.sli).standing
  exact State.onSli_standing lines stuck sources

@[simp] theorem State.join_standing (r : Report) : (s.join r).standing = s.standing := by
  obtain ⟨lines, stuck, sources⟩ := (Sli.join_extends r s.sli).standing
  exact State.onSli_standing lines stuck sources

@[simp] theorem State.raiseQueueFull_standing : s.raiseQueueFull.standing = s.standing := by
  rw [State.raiseQueueFull, State.askStatus_standing]
  exact State.onSli_standing rfl rfl rfl

@[simp] theorem State.enter_standing (r : Request) (o : OutcomeKind) : (s.enter r o).standing = s.standing := by
  rw [State.enter, State.askStatus_standing]
  exact State.onArb_standing rfl rfl

@[simp] theorem State.enterPreempted_standing (k new : SlotId) (p : PlayRec) :
    (s.enterPreempted k new p).standing = s.standing := by
  rw [State.enterPreempted, State.askStatus_standing]
  exact State.onArb_standing rfl rfl

@[simp] theorem State.onQueue_standing (f : Arb → List Request) :
    (s.onArb fun x => { x with queue := f x }).standing = s.standing := State.onArb_standing rfl rfl

@[simp] theorem State.depart_standing (r : Request) (d : Departure) : (s.depart r d).standing = s.standing := by
  simp [State.depart]

@[simp] theorem State.judgeInsert_standing (r : Request) : (s.judgeInsert r).2.standing = s.standing := by
  unfold State.judgeInsert
  dsimp only
  (repeat' split) <;> simp

/-! ### Slots and axes -/

@[simp] theorem State.onPlay_standing (k : SlotId) (f : PlayRec → PlayRec) : (s.onPlay k f).standing = s.standing := by
  unfold State.onPlay
  split <;> simp

@[simp] theorem State.mark_standing (k : SlotId) (m : Mark) : (s.mark k m).standing = s.standing := by
  unfold State.mark
  simp

/-- Writing the axes leaves what keeps their guards. -/
theorem State.onAxis_standing (a : AxisId) {f : Axis → Axis} (h : ∀ x, (f x).guard = x.guard) :
    (s.onAxis a f).standing = s.standing := by
  refine State.onMgt_standing rfl (funext fun b => ?_)
  have axes := State.onAxis_axes a b f s
  rw [Mgt.guards, Mgt.guards]
  rw [State.onAxis, State.onMgt_mgt] at axes
  rw [axes]
  split
  · next e => rw [e, h]
  · rfl

theorem Axis.enter_guard (m : AxisMode) (x : Axis) : (Axis.enter m x).guard = x.guard := by
  rw [Axis.enter_eq]
  rfl

@[simp] theorem State.judgeAxis_standing (a : AxisId) : (s.judgeAxis a).standing = s.standing := by
  unfold State.judgeAxis
  dsimp only
  (repeat' split) <;> simp only [State.mark_standing, State.onAxis_standing a (Axis.enter_guard _)]

@[simp] theorem State.judgeAxes_standing : s.judgeAxes.standing = s.standing := by
  unfold State.judgeAxes
  exact forEach_same (g := State.standing) (fun a s => State.judgeAxis_standing a) s

theorem State.mapAxes_standing (axes : BitVec 32) {f : Axis → Axis} (h : ∀ x, (f x).guard = x.guard) :
    (s.onMgt (Mgt.mapAxes axes f)).standing = s.standing := by
  refine State.onMgt_standing (by simp only [Mgt.mapAxes]) (funext fun b => ?_)
  simp only [Mgt.guards, Mgt.mapAxes, Fin.getElem_fin, Vector.getElem_ofFn]
  split
  · rw [h]
  · rfl

@[simp] theorem State.releaseClaims_standing (k : SlotId) (p : PlayRec) : (s.releaseClaims k p).standing = s.standing := by
  rw [State.releaseClaims, State.judgeAxes_standing]
  exact State.onArb_standing (by simp) (by simp)

/-! ### Segments, ends and starts -/

@[simp] theorem State.setCue_standing (k : SlotId) (c : Option Cue) : (s.setCue k c).standing = s.standing := rfl

@[simp] theorem State.cancelCue_standing (k : SlotId) (cause : CancelCause) :
    (s.cancelCue k cause).standing = s.standing := by
  cases h : s.nmx.cues[k] with
  | none => rw [State.cancelCue_none h]
  | some c =>
    rcases c.cases with ended | live | ⟨running, silent⟩
    · rw [State.cancelCue_ended h ended, State.setCue_standing]
    · simp [State.cancelCue_live h live]
    · simp [State.cancelCue_waiting h running silent]

@[simp] theorem State.endSlot_standing (k : SlotId) (reason : EndReason) (kept : Claims) :
    (s.endSlot k reason kept).standing = s.standing := by
  cases hp : s.play k with
  | none => rw [State.endSlot_none hp]
  | some p =>
    rw [State.endSlot_some hp, State.askStatus_standing, State.mapAxes_standing (f := Axis.drop) _ fun _ => rfl,
      State.cancelCue_standing]
    rfl

@[simp] theorem State.freeSlot_standing (k : SlotId) (reason : EndReason) :
    (s.freeSlot k reason).standing = s.standing := by
  unfold State.freeSlot
  split <;> simp

@[simp] theorem State.newCue_standing (k : SlotId) (scene : SceneId) (home : ZoneId) (p : CuePart) :
    (s.newCue k scene home p).standing = s.standing := by
  unfold State.newCue
  dsimp only
  (repeat' split) <;> simp

@[simp] theorem State.giveKey_standing (k : SlotId) (e : KeyEntry) : (s.giveKey k e).standing = s.standing := by
  unfold State.giveKey
  dsimp only
  have given := State.onAxis_standing (s := s) e.axis (f := startKey e) fun _ => rfl
  split
  · rw [State.mark_standing]; exact given
  · exact given

@[simp] theorem State.lookPart_standing (k : SlotId) (groups : BitVec 48) (l : Option (Fin 64 × Nat)) :
    (s.lookPart k groups l).standing = s.standing := by
  unfold State.lookPart
  (repeat' split) <;> simp

@[simp] theorem State.effectPart_standing (k : SlotId) (e : Option EffectPart) :
    (s.effectPart k e).standing = s.standing := by
  unfold State.effectPart
  (repeat' split) <;> simp

@[simp] theorem State.cuePart_standing (k : SlotId) (i : SceneId) (z : ZoneId) (c : Option CuePart) :
    (s.cuePart k i z c).standing = s.standing := by
  unfold State.cuePart
  split <;> simp

@[simp] theorem State.keyPart_standing (k : SlotId) (ks : Option (List KeyEntry)) :
    (s.keyPart k ks).standing = s.standing := by
  cases ks with
  | none => rfl
  | some ks => exact foldl_same (g := State.standing) (fun s e => State.giveKey_standing k e) ks s

@[simp] theorem State.flagPart_standing (f : Option (Bool × Fin 32)) : (s.flagPart f).standing = s.standing := by
  unfold State.flagPart
  (repeat' split) <;> rfl

@[simp] theorem State.segmentParts_standing (k : SlotId) (p : PlayRec) (sc : SceneRec) (g : Segment) :
    (s.segmentParts k p sc g).standing = s.standing := by simp [State.segmentParts]

@[simp] theorem State.beginSegment_standing (k : SlotId) (i : Nat) : (s.beginSegment k i).standing = s.standing := by
  unfold State.beginSegment
  (repeat' split) <;> simp

@[simp] theorem State.occupySlot_standing (k : SlotId) (r : Request) (sc : SceneRec) :
    (s.occupySlot k r sc).standing = s.standing := by
  simp [State.occupySlot]

@[simp] theorem State.preemptOne_standing (new : SlotId) (kept : Claims) (k : SlotId) :
    (State.preemptOne new kept s k).standing = s.standing := by
  unfold State.preemptOne
  split <;> simp

@[simp] theorem State.start_standing (new : SlotId) (r : Request) (sc : SceneRec) :
    (s.start new r sc).standing = s.standing := by
  have preempted (l : List SlotId) : (l.foldl (State.preemptOne new sc.claims) s).standing = s.standing :=
    foldl_same (g := State.standing) (fun s k => State.preemptOne_standing new sc.claims k) l s
  rw [State.start_eq, State.readied_eq]
  simp only [State.beginSegment_standing, State.askStatus_standing, State.judgeAxes_standing, State.occupySlot_standing,
    State.mapAxes_standing (f := Axis.take) _ fun _ => rfl, State.enter_standing, State.onQueue_standing]
  rw [State.onArb_standing (by simp) (by simp), State.onLco_standing, preempted]

/-! ### Walks, requests and firings -/

@[simp] theorem State.judgeIndicators_standing : s.judgeIndicators.standing = s.standing := by
  have iou := State.judgeIndicators_iou_eq s
  rw [State.standing, iou]
  simp only [State.judgeIndicators_frame]
  rfl

@[simp] theorem State.walkFrom_standing (l : List Request) (blocked : BitVec 96) :
    (State.walkFrom l blocked s).standing = s.standing := by
  induction l generalizing blocked s with
  | nil => rfl
  | cons r rs ih =>
    unfold State.walkFrom
    (repeat' split) <;> simp [ih]

@[simp] theorem State.walk_standing : s.walk.standing = s.standing := by simp [State.walk]

@[simp] theorem State.settle_standing (r : Request) : (s.settle r).2.standing = s.standing := by
  unfold State.settle
  (repeat' split) <;> simp

@[simp] theorem State.arrive_standing (r : Request) : (s.arrive r).2.standing = s.standing := by
  have judged := State.judgeInsert_standing (s := s) r
  unfold State.arrive
  split <;> simp_all

@[simp] theorem State.request_standing (i : SceneId) (source : Source) (prio : Option Nat) (tag : Option Half) :
    (s.request i source prio tag).2.standing = s.standing := by
  have made : (s.afterNewRequest i prio).standing = s.standing := by
    unfold State.afterNewRequest
    split <;> rfl
  rw [State.request, State.arrive_standing, made]

@[simp] theorem State.endAndWalk_standing (k : SlotId) (reason : EndReason) :
    (s.endAndWalk k reason).standing = s.standing := by simp [State.endAndWalk]

@[simp] theorem State.restartSlot_standing (k : SlotId) : (s.restartSlot k).standing = s.standing := by
  unfold State.restartSlot
  (repeat' split) <;> simp

@[simp] theorem State.act_standing (e : TrigRec) (source : Source) : (s.act e source).2.standing = s.standing := by
  unfold State.act State.takeAnswer
  (repeat' split) <;> simp

@[simp] theorem State.fire_standing (n : EntryId) (source : Source) : (s.fire n source).2.standing = s.standing := by
  unfold State.fire
  (repeat' split) <;> simp

@[simp] theorem State.abandonZone_standing (z : ZoneId) : (s.abandonZone z).standing = s.standing := by
  have first := forEach_same (n := 8) (f := fun k t => State.abandonOne k (s.abandoned z k) t) (g := State.standing)
    (fun k t => by unfold State.abandonOne; split <;> simp) s
  have second := forEach_same (n := 8) (f := fun k t => State.releaseAndWalk k (s.abandoned z k) t) (g := State.standing)
    (fun k t => by unfold State.releaseAndWalk; split <;> simp)
  rw [State.abandonZone, second, first]

end Sys2Proof.Machine
end

section
/-! SUPPORT. A zone's change to CLEAR at the SEQ while nothing is queued: the slots that end and their releases (R18, R20,
R50). -/

namespace Sys2Proof.Machine

variable {s t u : State} {k j : SlotId} {p : PlayRec} {sc : SceneRec} {z : ZoneId} {l : List SlotId}

/-! ### The slots that end -/

/-- The slots that a zone's change to CLEAR ends. -/
def State.abandonedSlots (s : State) (z : ZoneId) : List SlotId :=
  (List.finRange 8).filter fun k => (s.abandoned z k).isSome

theorem State.abandonedSlots_nodup (s : State) (z : ZoneId) : (s.abandonedSlots z).Nodup :=
  (List.nodup_finRange 8).sublist List.filter_sublist

theorem State.abandoned_iff : s.abandoned z k = some p ↔ s.play k = some p ∧
    ∃ sc, s.scene p.scene = some sc ∧ sc.abandonOnClear = true ∧ sc.home = z := by
  unfold State.abandoned
  cases hp : s.play k with
  | none => simp
  | some q =>
    dsimp only
    cases hs : s.scene q.scene with
    | none =>
      dsimp only
      constructor
      · intro h; cases h
      · rintro ⟨h, sc, hsc, -⟩
        cases h
        rw [hs] at hsc
        cases hsc
    | some d =>
      dsimp only
      constructor
      · intro h
        split at h
        · next c =>
          cases h
          exact ⟨rfl, d, hs, c.1, c.2⟩
        · cases h
      · rintro ⟨h, sc, hsc, on, home⟩
        cases h
        cases hs.symm.trans hsc
        exact if_pos ⟨on, home⟩

theorem State.mem_abandonedSlots : k ∈ s.abandonedSlots z ↔ ∃ p, s.abandoned z k = some p := by
  rw [State.abandonedSlots, List.mem_filter, Option.isSome_iff_exists]
  exact and_iff_right (List.mem_finRange k)

/-- The slots of a list have ended ABANDONED. -/
def State.abandonAll (l : List SlotId) (s : State) : State := l.foldl (fun t k => t.endSlot k .abandoned {}) s

theorem State.abandonTurn (t : State) (k : SlotId) : SlotTurn .abandoned {} k t (t.endSlot k .abandoned {}) :=
  State.endSlot_turn .abandoned {} t k

theorem State.abandonAll_bare (nodup : l.Nodup) (s : State) (j : SlotId) : (s.abandonAll l).seq.bare j =
    if j ∈ l then (match s.play j with
      | some p => .free (some p.scene) .abandoned
      | none => s.seq.bare j) else s.seq.bare j := by
  have own (k j : SlotId) (t : State) : (t.endSlot k .abandoned {}).seq.bare j =
      if j = k then (match t.play j with
        | some p => .free (some p.scene) .abandoned
        | none => t.seq.bare j) else t.seq.bare j := by
    cases h : t.play k with
    | none =>
      rw [State.endSlot_none h]
      split
      · next e => rw [e, h]
      · rfl
    | some p =>
      rw [State.endSlot_bare h]
      split
      · next e => rw [e, h]
      · rfl
  refine foldl_at (f := fun k t => State.endSlot k .abandoned {} t) (view := fun t : State => t.seq.bare j)
    (g := fun t : State => match t.play j with
      | some p => .free (some p.scene) .abandoned
      | none => t.seq.bare j) (fun i a h => ?_) (fun a => ?_) (fun i a h => ?_) l nodup s
  · rw [own, if_neg (Ne.symm h)]
  · rw [own, if_pos rfl]
  · simp only [State.endSlot_play_other (Ne.symm h), own, if_neg (Ne.symm h)]

theorem State.abandonAll_frame (l : List SlotId) (s : State) : (s.abandonAll l).arb = s.arb ∧
    (s.abandonAll l).seq.flags = s.seq.flags :=
  ⟨foldl_same (g := State.arb) (fun t k => by simp only [State.endSlot_frame]) l s,
    foldl_same (g := fun t : State => t.seq.flags) (fun t k => by simp only [State.endSlot_flags]) l s⟩

/-! ### Their releases -/

/-- A release with nothing queued: the claims are free and the indicators are judged. -/
def State.releaseJudged (k : SlotId) (p : Option PlayRec) (s : State) : State :=
  match p with
  | some p => (s.releaseClaims k p).judgeIndicators
  | none => s

/-- What a release with nothing queued leaves. -/
structure Shown where
  slots : SlotId → Slot
  flags : BitVec 32
  nmx : Nmx
  sli : Sli
  effects : Vector (Option Effect) 8
  cueLive : BitVec 8
  layers : ChannelId → Layer
  keys : AxisId → Option Keyframe × Option Int
  queue : List Request

def State.shown (s : State) : Shown where
  slots := s.seq.bare
  flags := s.seq.flags
  nmx := s.nmx
  sli := s.sli
  effects := s.lco.effects
  cueLive := s.lco.cueLive
  layers := fun c => (s.lco.channels[c]).layer
  keys := fun a => ((s.mgt.axes[a]).keyframe, (s.mgt.axes[a]).sceneTarget)
  queue := s.arb.queue

theorem State.judgeIndicators_shown (s : State) : s.judgeIndicators.shown = s.shown := by
  obtain ⟨effects, live⟩ := State.judgeIndicators_effects s
  have layers : (fun c : ChannelId => (s.judgeIndicators.lco.channels[c]).layer) =
      fun c : ChannelId => (s.lco.channels[c]).layer := funext fun c => State.judgeIndicators_layer c s
  rw [State.shown, effects, live, layers]
  simp only [State.judgeIndicators_frame]
  rfl

theorem State.releaseClaims_shown (k : SlotId) (p : PlayRec) (s : State) : (s.releaseClaims k p).shown = s.shown := by
  have keys : (fun a : AxisId => (((s.releaseClaims k p).mgt.axes[a]).keyframe, ((s.releaseClaims k p).mgt.axes[a]).sceneTarget)) =
      fun a : AxisId => ((s.mgt.axes[a]).keyframe, (s.mgt.axes[a]).sceneTarget) := funext fun a => by
    rw [State.releaseClaims_axes, Axis.enter_eq]
  have blocks : (s.releaseClaims k p).sli = s.sli ∧ (s.releaseClaims k p).nmx = s.nmx ∧ (s.releaseClaims k p).lco = s.lco := by
    simp only [State.releaseClaims, State.judgeAxes_frame, State.onArb_sli, State.onArb_nmx, State.onArb_lco, and_self]
  rw [State.shown, keys, blocks.1, blocks.2.1, blocks.2.2, State.releaseClaims_bare, State.releaseClaims_flags,
    State.releaseClaims_queue]
  rfl

theorem State.releaseJudged_shown (k : SlotId) (p : Option PlayRec) (s : State) :
    (s.releaseJudged k p).shown = s.shown := by
  cases p with
  | none => rfl
  | some p => rw [State.releaseJudged, State.judgeIndicators_shown, State.releaseClaims_shown]

theorem State.releaseAndWalk_nil (nil : s.arb.queue = []) (k : SlotId) (p : Option PlayRec) :
    s.releaseAndWalk k p = s.releaseJudged k p := by
  cases p with
  | none => rfl
  | some p =>
    rw [State.releaseAndWalk, State.releaseJudged]
    exact State.walk_nil (by rw [State.releaseClaims_queue, nil])

/-- Two ways of doing something for each index that agree where something holds which the second keeps. -/
theorem forEach_congr_of {α : Type} {n : Nat} {f g : Fin n → α → α} {P : α → Prop} (keep : ∀ i a, P a → P (g i a))
    (h : ∀ i a, P a → f i a = g i a) (a : α) (ha : P a) : forEach n f a = forEach n g a := by
  unfold forEach
  induction List.finRange n generalizing a with
  | nil => rfl
  | cons i is ih =>
    rw [List.foldl_cons, List.foldl_cons, h i a ha]
    exact ih (g i a) (keep i a ha)

/-- The releases of a zone's slots with nothing queued. -/
def State.releaseAll (z : ZoneId) (s t : State) : State := forEach 8 (fun k t => t.releaseJudged k (s.abandoned z k)) t

theorem State.abandonZone_nil (nil : s.arb.queue = []) (z : ZoneId) :
    s.abandonZone z = State.releaseAll z s (s.abandonAll (s.abandonedSlots z)) := by
  have ends : forEach 8 (fun k t => State.abandonOne k (s.abandoned z k) t) s = s.abandonAll (s.abandonedSlots z) := by
    rw [State.abandonAll, State.abandonedSlots, List.foldl_filter, forEach]
    rfl
  rw [State.abandonZone, ends, State.releaseAll]
  refine forEach_congr_of (P := fun t : State => t.arb.queue = []) (fun k t ht => ?_)
    (fun k t ht => State.releaseAndWalk_nil ht k _) _ ((congrArg Arb.queue (State.abandonAll_frame _ s).1).trans nil)
  exact (congrArg Shown.queue (State.releaseJudged_shown k (s.abandoned z k) t)).trans ht

theorem State.releaseAll_shown (z : ZoneId) (s t : State) : (State.releaseAll z s t).shown = t.shown :=
  forEach_same (f := fun k t => State.releaseJudged k (s.abandoned z k) t) (g := State.shown)
    (fun k t => State.releaseJudged_shown k _ t) t

/-- A slot whose release the ARB has taken owns nothing that it claimed. -/
theorem State.releaseAll_owners (ha : s.abandoned z k = some p) {x : ResourceId} (claimed : p.claims.mask.getLsbD x = true)
    (t : State) : (State.releaseAll z s t).arb.owners[x] ≠ some k := by
  have owners (j : SlotId) (q : PlayRec) (t : State) : (t.releaseJudged j (some q)).arb.owners[x] =
      if q.claims.mask.getLsbD x && t.arb.owners[x] == some j then none else t.arb.owners[x] := by
    rw [State.releaseJudged]
    simp only [State.judgeIndicators_frame]
    exact State.releaseClaims_owners ..
  refine forEach_all (P := fun k t => ∀ q, s.abandoned z k = some q → q.claims.mask.getLsbD x = true →
    t.arb.owners[x] ≠ some k) (f := fun k t => State.releaseJudged k (s.abandoned z k) t)
    (fun i t q hq claimed => ?_) (fun i j t h q hq claimed => ?_) k t p ha claimed
  · rw [hq, owners, claimed, Bool.true_and]
    split
    · simp
    · next ne => simpa using ne
  · have kept := h q hq claimed
    cases hj : s.abandoned z j with
    | none => exact kept
    | some d =>
      rw [owners]
      split
      · simp
      · exact kept

end Sys2Proof.Machine
end

section
/-! SUPPORT. A change of a zone's occupancy in every block that holds a view of it (R20, R38, R119). -/

namespace Sys2Proof.Machine

variable {s t u : State} {k j : SlotId} {p : PlayRec} {sc : SceneRec} {z : ZoneId} {l : List SlotId} {o : ZoneOcc} {new : OccKind}

/-! ### The guards (R119) -/

theorem guardActive_iff {occ : Vector OccKind 4} {set : BitVec 4} :
    guardActive occ set = true ↔ ∃ z : ZoneId, set.getLsbD z = true ∧ occ[z] ≠ .clear := by
  simp [guardActive]

/-- The guard of an axis after a zone's change. -/
theorem guardChange_guard (z : ZoneId) (old new : OccKind) (occ : Vector OccKind 4) (e : EnvRec) {x y : Axis}
    (h : x.guard = y.guard) : (guardChange z old new occ e x).guard = (guardChange z old new occ e y).guard := by
  obtain ⟨guarded, rearm⟩ := Prod.ext_iff.mp h
  have guarded : x.guarded = y.guarded := guarded
  have rearm : x.rearm = y.rearm := rearm
  unfold guardChange Axis.guardOn Axis.guardOff Axis.guard
  (repeat' split) <;> simp only [guarded, rearm]

theorem guardChange_rest (z : ZoneId) (old new : OccKind) (occ : Vector OccKind 4) (e : EnvRec) (x : Axis) :
    (guardChange z old new occ e x).keyframe = x.keyframe ∧ (guardChange z old new occ e x).sceneTarget = x.sceneTarget := by
  unfold guardChange Axis.guardOn Axis.guardOff
  (repeat' split) <;> exact ⟨rfl, rfl⟩

theorem State.mgtOccupancy_axes (z : ZoneId) (new : OccKind) (s : State) (a : AxisId) :
    ∃ m, (s.mgtOccupancy z new).mgt.axes[a] = Axis.enter m
      (guardChange z s.mgt.occ[z] new (s.mgt.occ.set z new) s.mu.tables.env[a] s.mgt.axes[a]) := by
  rw [State.mgtOccupancy, State.judgeAxes_axes]
  simp only [State.onMgt_mgt, Fin.getElem_fin, Vector.getElem_ofFn]
  exact ⟨_, rfl⟩

theorem State.mgtOccupancy_occ (z : ZoneId) (new : OccKind) (s : State) :
    (s.mgtOccupancy z new).mgt.occ = s.mgt.occ.set z new := by
  simp only [State.mgtOccupancy, State.judgeAxes_mgt, State.onMgt_mgt]

theorem State.mgtOccupancy_modes (z : ZoneId) (new : OccKind) (s : State) (a : AxisId) :
    ((s.mgtOccupancy z new).mgt.axes[a]).mode = (s.mgtOccupancy z new).modeOf a := by
  rw [State.mgtOccupancy, State.judgeAxes_axes, State.judgeAxes_modeOf, Axis.enter_eq]

/-- What of a zone's change acts on a guard: the zone has left CLEAR, or it is CLEAR with the whole guard set (R119). -/
theorem guardChange_cases {old new : OccKind} {occ : Vector OccKind 4} {e : EnvRec} {x : Axis} :
    (e.guardZones.getLsbD z = true ∧ old = .clear ∧ new ≠ .clear →
      guardChange z old new occ e x = x.guardOn) ∧
    (e.guardZones.getLsbD z = true ∧ old ≠ .clear ∧ new = .clear ∧ guardActive occ e.guardZones = false →
      guardChange z old new occ e x = x.guardOff e.rearm) ∧
    (¬(e.guardZones.getLsbD z = true ∧ old = .clear ∧ new ≠ .clear) →
      ¬(e.guardZones.getLsbD z = true ∧ old ≠ .clear ∧ new = .clear ∧ guardActive occ e.guardZones = false) →
      guardChange z old new occ e x = x) := by
  unfold guardChange
  cases hz : e.guardZones.getLsbD z with
  | false => simp
  | true =>
    cases ha : guardActive occ e.guardZones with
    | true => cases old <;> cases new <;> simp
    | false => cases old <;> cases new <;> simp

/-- The guards after a zone's change (R119). -/
theorem GuardsJudged.of_change (occ : t.mgt.occ = s.mgt.occ.set z new) (env : t.mu.tables.env = s.mu.tables.env)
    (guards : ∀ a : AxisId, (t.mgt.axes[a]).guard =
      (guardChange z s.mgt.occ[z] new (s.mgt.occ.set z new) s.mu.tables.env[a] s.mgt.axes[a]).guard) : GuardsJudged s t := by
  have view (y : ZoneId) : t.mgt.occ[y] = if y = z then new else s.mgt.occ[y] := by rw [occ, getElem_set_at]
  have own : t.mgt.occ[z] = new := (view z).trans (if_pos rfl)
  intro a
  have guard := guards a
  rw [← occ] at guard
  dsimp only
  rw [env]
  generalize s.mu.tables.env[a] = e at guard ⊢
  generalize s.mgt.axes[a] = x at guard ⊢
  obtain ⟨guarded, rearm⟩ := Prod.ext_iff.mp guard
  dsimp only [Axis.guard] at guarded rearm
  have moved (y : ZoneId) (h : s.mgt.occ[y] ≠ t.mgt.occ[y]) : y = z := by
    by_contra ne
    exact h ((view y).trans (if_neg ne)).symm
  have left : (∃ y : ZoneId, e.guardZones.getLsbD y = true ∧ s.mgt.occ[y] = .clear ∧ t.mgt.occ[y] ≠ .clear) ↔
      e.guardZones.getLsbD z = true ∧ s.mgt.occ[z] = .clear ∧ new ≠ .clear := by
    constructor
    · rintro ⟨y, hy, old, new⟩
      have e := moved y (by rw [old]; exact Ne.symm new)
      subst e
      exact ⟨hy, old, own ▸ new⟩
    · exact fun ⟨hz, old, new⟩ => ⟨z, hz, old, own.symm ▸ new⟩
  have cleared : ((∃ y : ZoneId, e.guardZones.getLsbD y = true ∧ s.mgt.occ[y] ≠ .clear ∧ t.mgt.occ[y] = .clear) ∧
      ∀ y : ZoneId, e.guardZones.getLsbD y = true → t.mgt.occ[y] = .clear) ↔
      e.guardZones.getLsbD z = true ∧ s.mgt.occ[z] ≠ .clear ∧ new = .clear ∧ guardActive t.mgt.occ e.guardZones = false := by
    rw [← Bool.not_eq_true, guardActive_iff]
    constructor
    · rintro ⟨⟨y, hy, old, new⟩, all⟩
      have e := moved y (by rw [new]; exact old)
      subst e
      exact ⟨hy, old, own ▸ new, fun ⟨y, hy, busy⟩ => busy (all y hy)⟩
    · exact fun ⟨hz, old, new, quiet⟩ => ⟨⟨z, hz, old, own.trans new⟩, fun y hy => by_contra fun busy => quiet ⟨y, hy, busy⟩⟩
  rw [left, cleared]
  obtain ⟨on, off, same⟩ := guardChange_cases (z := z) (old := s.mgt.occ[z]) (new := new) (occ := t.mgt.occ) (e := e) (x := x)
  refine ⟨fun h => ?_, fun h => ?_, fun notLeft notCleared => ?_⟩
  · rw [guarded, rearm, on h]
    exact ⟨rfl, rfl⟩
  · rw [guarded, rearm, off h, Axis.guardOff]
    split
    · next zero => simp [zero]
    · next some => simp [Nat.pos_iff_ne_zero, some]
  · rw [guarded, rearm, same notLeft notCleared]
    exact ⟨rfl, rfl⟩

/-! ### The slots of the zone -/

/-- A slot that ends while no STATUS waits: its report and the STATUS join. -/
theorem SlotTurn.first_reports {reason : EndReason} {kept : Claims} (turn : SlotTurn reason kept k s t) (hp : s.play k = some p)
    (room : s.sli.ownQueue.length + 2 ≤ 32) : s.sli.Extends t.sli ∧ t.sli.waiting ∧
    t.sli.ownQueue.length ≤ s.sli.ownQueue.length + 2 ∧
    ∀ c, s.nmx.cues[k] = some c → ¬c.ended → .cueCancel (cueInfo k c) reason.cause ∈ t.sli.ownQueue := by
  obtain ⟨-, quiet, told, -⟩ := turn.cue hp
  by_cases running : ∃ c, s.nmx.cues[k] = some c ∧ ¬c.ended
  · obtain ⟨c, hc, running⟩ := running
    have joined : t.sli = (s.sli.join (.cueCancel (cueInfo k c) reason.cause)).askStatus := by
      rw [(told c hc running).1 (by omega), Sli.join_room _ (by omega)]
    have grown := Sli.join_extends (.cueCancel (cueInfo k c) reason.cause) s.sli
    have length : (s.sli.join (.cueCancel (cueInfo k c) reason.cause)).ownQueue.length = s.sli.ownQueue.length + 1 := by
      rw [Sli.join_room _ (by omega)]
      simp
    obtain ⟨waiting, short⟩ := Sli.askStatus_waits (x := s.sli.join (.cueCancel (cueInfo k c) reason.cause)) (by omega)
    have asked := Sli.askStatus_extends (s.sli.join (.cueCancel (cueInfo k c) reason.cause))
    rw [joined]
    refine ⟨grown.trans asked, waiting, by omega, fun c' hc' _ => asked.queue.subset ?_⟩
    rw [Sli.join_room _ (by omega), Option.some.inj (hc'.symm.trans hc)]
    exact List.mem_append_right _ (List.mem_singleton_self _)
  · obtain ⟨waiting, short⟩ := Sli.askStatus_waits (x := s.sli) (by omega)
    rw [quiet fun c hc => by_contra fun h => running ⟨c, hc, h⟩]
    exact ⟨Sli.askStatus_extends _, waiting, by omega, fun c hc h => absurd ⟨c, hc, h⟩ running⟩

/-- The cues of the slots that end are cancelled where the queue has room for all of them (R100, R101). -/
theorem turns_cancelled {reason : EndReason} {f : State → SlotId → State} (turns : ∀ t k, SlotTurn reason {} k t (f t k))
    (nodup : l.Nodup) (plays : ∀ j ∈ l, ∃ p, s.play j = some p) (few : l.length ≤ 8) (reports : (l.foldl f s).sli.Extends u.sli)
    (ramps : u.nmx.ramps = (l.foldl f s).nmx.ramps) (live : u.lco.cueLive = (l.foldl f s).lco.cueLive) :
    CuesCancelled (· ∈ l) reason.cause s u := by
  intro j c mem hc
  obtain ⟨p, hp⟩ := plays j mem
  refine ⟨fun running room => reports.queue.subset ?_, fun loud apart => ?_⟩
  · have running : ¬c.ended := by
      rintro (e | e | e) <;>
      · rw [e] at running
        simp at running
    cases l with
    | nil => cases mem
    | cons k ks =>
      obtain ⟨notIn, nodup⟩ := List.nodup_cons.mp nodup
      rw [List.length_cons] at few
      obtain ⟨q, hq⟩ := plays k List.mem_cons_self
      obtain ⟨first, waiting, grew, own⟩ := (turns s k).first_reports hq (by omega)
      obtain ⟨rest, others⟩ := turns_reports turns ks (f s k) nodup waiting (by omega)
      rcases List.mem_cons.mp mem with rfl | mem
      · exact rest.queue.subset (own c hc running)
      · have ne : j ≠ k := ne_of_mem_of_not_mem mem notIn
        exact others j p c mem (((turns s k).others j ne).trans hp) (((turns s k).cues_other ne).trans hc) running
  · rw [ramps, live]
    exact turns_live turns nodup mem hp hc loud apart

end Sys2Proof.Machine
end

section
/-! SUPPORT. A zone's change of occupancy is taken as `OccTaken` has it (R20, R37, R38, R119). -/

namespace Sys2Proof.Machine

variable {s t u : State} {k j : SlotId} {p : PlayRec} {sc : SceneRec} {z : ZoneId} {l : List SlotId} {o : ZoneOcc} {new : OccKind}

/-- A zone's new record, known to the IOU and to the ARB. -/
def State.zoneTold (z : ZoneId) (o : ZoneOcc) (s : State) : State :=
  (s.onIou fun x => { x with zones := x.zones.set z o }).onArb fun x => { x with occ := x.occ.set z o.kind }

/-- The slots that the change ends have ended. -/
def State.zoneLeft (z : ZoneId) (o : ZoneOcc) (s : State) : State :=
  if o.kind = .clear then (s.zoneTold z o).abandonZone z else s.zoneTold z o

theorem State.setOcc_same (h : (s.iou.zones[z]).kind = o.kind) :
    s.setOcc z o = s.onIou fun x => { x with zones := x.zones.set z o } := by
  rw [State.setOcc]
  exact if_pos h

theorem State.setOcc_new (h : (s.iou.zones[z]).kind ≠ o.kind) :
    s.setOcc z o = ((s.zoneLeft z o).mgtOccupancy z o.kind).askStatus := by
  rw [State.setOcc]
  exact if_neg h

theorem State.zoneLeft_standing (z : ZoneId) (o : ZoneOcc) (s : State) :
    (s.zoneLeft z o).standing = (s.zoneTold z o).standing := by
  unfold State.zoneLeft
  split <;> simp

/-! ### Beside the slots -/

/-- The views of a zone after its change. -/
theorem State.setOcc_views (h : (s.iou.zones[z]).kind ≠ o.kind) : (s.setOcc z o).iou.zones = s.iou.zones.set z o ∧
    (s.setOcc z o).arb.occ = s.arb.occ.set z o.kind ∧ (s.setOcc z o).mgt.occ = s.mgt.occ.set z o.kind := by
  have standing := State.zoneLeft_standing z o s
  have zones := congrArg (fun x : Standing => x.iou.zones) standing
  have arb := congrArg Standing.arbOcc standing
  have mgt := congrArg Standing.mgtOcc standing
  dsimp only [State.standing] at zones arb mgt
  rw [State.setOcc_new h]
  simp only [State.askStatus_frame, State.mgtOccupancy_frame, State.mgtOccupancy_occ]
  exact ⟨zones, arb, by rw [mgt]; rfl⟩

theorem State.setOcc_guards (h : (s.iou.zones[z]).kind ≠ o.kind) : GuardsJudged s (s.setOcc z o) := by
  have standing := State.zoneLeft_standing z o s
  have occ : (s.zoneLeft z o).mgt.occ = s.mgt.occ := congrArg Standing.mgtOcc standing
  have guards (a : AxisId) : ((s.zoneLeft z o).mgt.axes[a]).guard = (s.mgt.axes[a]).guard :=
    congrFun (congrArg Standing.guards standing) a
  have mu : (s.zoneLeft z o).mu = s.mu := congrArg Standing.mu standing
  refine GuardsJudged.of_change (State.setOcc_views h).2.2 (by rw [(State.setOcc_frame s z o).1]) fun a => ?_
  rw [State.setOcc_new h]
  simp only [State.askStatus_frame]
  obtain ⟨m, axis⟩ := State.mgtOccupancy_axes z o.kind (s.zoneLeft z o) a
  rw [axis, Axis.enter_guard, occ, mu]
  exact guardChange_guard z _ _ _ _ (guards a)

theorem State.askStatus_inputs (s : State) : SameInputs s s.askStatus :=
  ⟨rfl, rfl, (Sli.askStatus_extends s.sli).standing.2.2, rfl, rfl⟩

theorem State.setOcc_modes (h : (s.iou.zones[z]).kind ≠ o.kind) (a : AxisId) :
    ((s.setOcc z o).mgt.axes[a]).mode = (s.setOcc z o).modeOf a := by
  rw [State.setOcc_new h, (State.askStatus_inputs _).modeOf (by simp only [State.askStatus_frame]),
    ← State.mgtOccupancy_modes]
  simp only [State.askStatus_frame]

/-! ### The slots -/

/-- What a zone's change leaves of the slots, the lights, the cues and the axes. -/
theorem State.setOcc_shown (h : (s.iou.zones[z]).kind ≠ o.kind) :
    { (s.setOcc z o).shown with sli := (s.zoneLeft z o).sli } = (s.zoneLeft z o).shown ∧
    (s.setOcc z o).sli = (s.zoneLeft z o).sli.askStatus ∧ (s.setOcc z o).arb = (s.zoneLeft z o).arb := by
  rw [State.setOcc_new h]
  have keys : (fun a : AxisId => ((((s.zoneLeft z o).mgtOccupancy z o.kind).mgt.axes[a]).keyframe,
      (((s.zoneLeft z o).mgtOccupancy z o.kind).mgt.axes[a]).sceneTarget)) =
      fun a : AxisId => (((s.zoneLeft z o).mgt.axes[a]).keyframe, ((s.zoneLeft z o).mgt.axes[a]).sceneTarget) :=
    funext fun a => by
      obtain ⟨m, axis⟩ := State.mgtOccupancy_axes z o.kind (s.zoneLeft z o) a
      rw [axis, Axis.enter_eq]
      dsimp only
      rw [(guardChange_rest z _ _ _ _ _).1, (guardChange_rest z _ _ _ _ _).2]
  refine ⟨?_, ?_, ?_⟩
  · simp only [State.shown, State.askStatus_frame, keys, State.mgtOccupancy_frame, State.mgtOccupancy_bare,
      State.mgtOccupancy_flags]
  · rw [State.askStatus, State.onSli_sli]
    simp only [State.mgtOccupancy_frame]
  · simp only [State.askStatus_frame, State.mgtOccupancy_frame]

/-- With nothing queued, a change to CLEAR ends the slots of the zone and takes their releases. -/
theorem State.zoneLeft_clear (clear : o.kind = .clear) (nil : s.arb.queue = []) :
    s.zoneLeft z o = State.releaseAll z s ((s.zoneTold z o).abandonAll (s.abandonedSlots z)) := by
  rw [State.zoneLeft, if_pos clear]
  exact State.abandonZone_nil (s := s.zoneTold z o) nil z

/-- The slots of a zone that is CLEAR with nothing queued have ended and released what they held (R18, R20). -/
theorem State.setOcc_abandons (h : (s.iou.zones[z]).kind ≠ o.kind) (clear : o.kind = .clear) (nil : s.arb.queue = [])
    (ha : s.abandoned z k = some p) (hs : s.scene p.scene = some sc) :
    (s.setOcc z o).seq.slots[k] = .free (some p.scene) .abandoned ∧ (s.setOcc z o).lco.effects[k] = none ∧
    (s.setOcc z o).nmx.cues[k] = none ∧
    (∀ x : ResourceId, p.claims.mask.getLsbD x = true → (s.setOcc z o).arb.owners[x] ≠ some k) ∧
    (∀ a : AxisId, p.claims.axes.getLsbD a = true →
      ((s.setOcc z o).mgt.axes[a]).keyframe = none ∧ ((s.setOcc z o).mgt.axes[a]).sceneTarget = none) ∧
    ∀ c : ChannelId, p.claims.groups.getLsbD (channelGroup c) = true → (s.lco.channels[c]).layer.owner = some k →
      ((s.setOcc z o).lco.channels[c]).layer = releasedLayer sc.releaseFade s.lco.channels[c] := by
  obtain ⟨shown, -, arb⟩ := State.setOcc_shown h
  have left := State.zoneLeft_clear (s := s) (z := z) clear nil
  have ended := (congrArg State.shown left).trans (State.releaseAll_shown z s _)
  have hp : (s.zoneTold z o).play k = some p := (State.abandoned_iff.mp ha).1
  have nodup := s.abandonedSlots_nodup z
  have mem : k ∈ s.abandonedSlots z := State.mem_abandonedSlots.mpr ⟨p, ha⟩
  have lights : (s.zoneTold z o).lco = s.lco := rfl
  rw [ended] at shown
  have view {β : Type} (g : Shown → β) := congrArg g shown
  have none : ∀ a : AxisId, ({} : Claims).axes.getLsbD a = false := fun a => BitVec.getLsbD_zero
  refine ⟨State.slot_of_bare ?_, ?_, ?_, fun x claimed => ?_, fun a claimed => ?_, fun c claimed owner => ?_⟩
  · refine (congrFun (view Shown.slots) k).trans ?_
    exact (State.abandonAll_bare nodup _ k).trans (by rw [if_pos mem, hp])
  · exact (congrArg (fun x : Vector (Option Effect) 8 => x[k]) (view Shown.effects)).trans
      (turns_effects State.abandonTurn nodup mem hp)
  · exact (congrArg (fun x : Nmx => x.cues[k]) (view Shown.nmx)).trans (turns_cues State.abandonTurn nodup mem hp)
  · rw [arb, left]
    exact State.releaseAll_owners ha claimed _
  · obtain ⟨target, key⟩ := turns_axes_dropped State.abandonTurn nodup mem hp claimed (none a)
    obtain ⟨key', target'⟩ := Prod.ext_iff.mp (congrFun (view Shown.keys) a)
    exact ⟨key'.trans key, target'.trans target⟩
  · have released := turns_channels_released State.abandonTurn (s := s.zoneTold z o) (by decide) nodup mem hp hs claimed
      BitVec.getLsbD_zero owner
    exact (congrFun (view Shown.layers) c).trans (congrArg Channel.layer released)

/-- The cues of those slots are cancelled (R100, R101). -/
theorem State.setOcc_cancels (h : (s.iou.zones[z]).kind ≠ o.kind) (clear : o.kind = .clear) (nil : s.arb.queue = []) :
    CuesCancelled (· ∈ s.abandonedSlots z) .abandoned s (s.setOcc z o) := by
  obtain ⟨shown, sli, -⟩ := State.setOcc_shown h
  have ended := (congrArg State.shown (State.zoneLeft_clear (s := s) (z := z) clear nil)).trans (State.releaseAll_shown z s _)
  rw [ended] at shown
  have same : (s.zoneLeft z o).sli = ((s.zoneTold z o).abandonAll (s.abandonedSlots z)).sli := congrArg Shown.sli ended
  have few : (s.abandonedSlots z).length ≤ 8 := by
    refine (List.length_filter_le _ _).trans ?_
    rw [List.length_finRange]
  have cancelled := turns_cancelled State.abandonTurn (s := s.zoneTold z o) (u := s.setOcc z o) (s.abandonedSlots_nodup z)
    (fun j mem => ?_) few (by rw [sli, same]; exact Sli.askStatus_extends _)
    (congrArg (fun x : Shown => x.nmx.ramps) shown) (congrArg Shown.cueLive shown)
  · exact cancelled
  · obtain ⟨p, hp⟩ := State.mem_abandonedSlots.mp mem
    exact ⟨p, (State.abandoned_iff.mp hp).1⟩

/-- The slots that a zone's change does not end. -/
theorem State.setOcc_bare (h : (s.iou.zones[z]).kind ≠ o.kind)
    (stays : o.kind = .clear → s.arb.queue = [] ∧ k ∉ s.abandonedSlots z) : (s.setOcc z o).seq.bare k = s.seq.bare k := by
  obtain ⟨shown, -, -⟩ := State.setOcc_shown h
  refine (congrFun (congrArg Shown.slots shown) k).trans ?_
  by_cases clear : o.kind = .clear
  · obtain ⟨nil, out⟩ := stays clear
    have ended := (congrArg State.shown (State.zoneLeft_clear (s := s) (z := z) clear nil)).trans (State.releaseAll_shown z s _)
    refine (congrFun (congrArg Shown.slots ended) k).trans ?_
    exact (State.abandonAll_bare (s.abandonedSlots_nodup z) _ k).trans (if_neg out)
  · rw [State.zoneLeft, if_neg clear]
    rfl

theorem State.setOcc_flags (h : (s.iou.zones[z]).kind ≠ o.kind) (nil : o.kind = .clear → s.arb.queue = []) :
    (s.setOcc z o).seq.flags = s.seq.flags := by
  obtain ⟨shown, -, -⟩ := State.setOcc_shown h
  refine (congrArg Shown.flags shown).trans ?_
  by_cases clear : o.kind = .clear
  · have ended := (congrArg State.shown (State.zoneLeft_clear (s := s) (z := z) clear (nil clear))).trans
      (State.releaseAll_shown z s _)
    exact (congrArg Shown.flags ended).trans (State.abandonAll_frame _ _).2
  · rw [State.zoneLeft, if_neg clear]
    rfl

/-- A change of a zone's occupancy is taken as `OccTaken` has it. -/
theorem State.setOcc_taken (h : (s.iou.zones[z]).kind ≠ o.kind) : OccTaken s (s.setOcc z o) z o := by
  obtain ⟨zones, arb, mgt⟩ := State.setOcc_views h
  have named : ∀ k, (∃ p sc, s.play k = some p ∧ s.scene p.scene = some sc ∧ sc.abandonOnClear = true ∧ sc.home = z) →
      k ∈ s.abandonedSlots z := fun k ⟨p, sc, hp, hs, on, home⟩ =>
    State.mem_abandonedSlots.mpr ⟨p, State.abandoned_iff.mpr ⟨hp, sc, hs, on, home⟩⟩
  refine ⟨?_, ⟨?_, ?_⟩, fun y ne => ⟨?_, ?_, ?_⟩, fun clear nil k p sc hp hs on home => ?_, fun clear nil => ?_,
    State.setOcc_guards h, State.setOcc_modes h, fun k p sc hp hs stays => ?_, ?_, State.setOcc_flags h⟩
  · rw [zones, getElem_set_at, if_pos rfl]
  · rw [arb, getElem_set_at, if_pos rfl]
  · rw [mgt, getElem_set_at, if_pos rfl]
  · rw [zones, getElem_set_at, if_neg ne]
  · rw [arb, getElem_set_at, if_neg ne]
  · rw [mgt, getElem_set_at, if_neg ne]
  · exact State.setOcc_abandons h clear nil (State.abandoned_iff.mpr ⟨hp, sc, hs, on, home⟩) hs
  · exact fun k c which => State.setOcc_cancels h clear nil k c (named k which)
  · refine State.play_bare_congr (State.setOcc_bare h fun clear => ?_) hp
    obtain ⟨nil, out⟩ := stays clear
    refine ⟨nil, fun mem => ?_⟩
    obtain ⟨q, hq⟩ := State.mem_abandonedSlots.mp mem
    obtain ⟨hq, d, hd, on, home⟩ := State.abandoned_iff.mp hq
    cases hp.symm.trans hq
    cases hs.symm.trans hd
    exact out ⟨on, home⟩
  · simp only [State.setOcc_frame, and_self]

/-! ### What a zone's change leaves standing -/

/-- What stands beside the zones and what they act on. -/
def Standing.still (x : Standing) : Standing :=
  { x with
    iou := { x.iou with zones := Vector.replicate 4 {} }
    arbOcc := Vector.replicate 4 .clear, mgtOcc := Vector.replicate 4 .clear, guards := fun _ => (false, 0) }

theorem State.setOcc_still (z : ZoneId) (o : ZoneOcc) (s : State) : (s.setOcc z o).standing.still = s.standing.still := by
  by_cases h : (s.iou.zones[z]).kind = o.kind
  · rw [State.setOcc_same h]
    rfl
  · have left := congrArg Standing.still (State.zoneLeft_standing z o s)
    rw [State.setOcc_new h, State.askStatus_standing]
    refine Eq.trans ?_ left
    generalize s.zoneLeft z o = u
    rw [Standing.still, Standing.still, State.standing, State.standing]
    simp only [State.mgtOccupancy_frame]

/-- A change of a zone leaves the lines. -/
theorem State.setOcc_lines (z : ZoneId) (o : ZoneOcc) (s : State) : (s.setOcc z o).iou.lines = s.iou.lines :=
  congrArg (fun x : Standing => x.iou.lines) (State.setOcc_still z o s)

end Sys2Proof.Machine
end

section
/-! PROOF. A line's accepted change (R25, R27, R32 to R37). -/

namespace Sys2Proof.Machine

variable {s t u : State} {n m : LineId} {z : ZoneId} {o : ZoneOcc} {high zoneFirst : Bool} {f g : LineRt → LineRt}

/-! ### Firings -/

theorem State.fire_idle {e : EntryId} (h : fireBarred s e ∨ s.mu.tables.trig[e] = none) (source : Source) :
    (s.fire e source).2 = s := by
  rw [fireBarred_iff] at h
  unfold State.fire
  split
  · rfl
  · split
    · rfl
    · next running accepts =>
      have empty : s.mu.tables.trig[e] = none := h.resolve_left (by simp_all)
      rw [empty]

theorem State.fire_acts {e : EntryId} {r : TrigRec} (h : ¬fireBarred s e) (hr : s.mu.tables.trig[e] = some r)
    (source : Source) : s.fire e source = s.act r source := by
  rw [fireBarred_iff, Bool.or_eq_true, not_or] at h
  rw [State.fire, if_neg h.1, if_neg h.2, hr]

/-! ### A line's record -/

theorem State.onLine_lines (n m : LineId) (f : LineRt → LineRt) (s : State) :
    (s.onLine n f).iou.lines[m] = if m = n then f s.iou.lines[n] else s.iou.lines[m] := by
  rw [State.onLine, State.onIou_iou]
  exact getElem_set_at _ _ _ _

theorem State.onLine_congr (h : f s.iou.lines[n] = g s.iou.lines[n]) : s.onLine n f = s.onLine n g := by
  simp only [State.onLine, State.onIou, modifyAt, h]

/-- A line that has been released. -/
def State.lineReleased (n : LineId) (s : State) : State :=
  s.onLine n fun x => { x with accepted := false, debounce := 0, stuck := false }

/-- A line that has been pressed, broken or entered. -/
def State.linePressed (n : LineId) (s : State) : State :=
  s.onLine n fun x => { x with accepted := true, debounce := 0, held := 0 }

theorem State.onLine_accept (active : Bool) (s : State) :
    s.onLine n (LineRt.accept active) = if active then s.linePressed n else s.lineReleased n := by
  cases active <;>
  · refine State.onLine_congr ?_
    simp [LineRt.accept]

/-- A change of a zone tells nothing of the lines. -/
theorem OccTaken.of_onLine (h : OccTaken (s.onLine n f) t z o) : OccTaken s t z o := by
  obtain ⟨zone, views, others, abandoned, cancelled, guards, modes, playsOn, rest, flags⟩ := h
  exact ⟨zone, views, others, abandoned, cancelled, guards, modes, playsOn, rest, flags⟩

/-! ### The change -/

theorem exec_lineAcceptedChange (used : (s.mu.tables.line[n]).role ≠ .unused)
    (due : (s.mu.tables.line[n]).debounce ≤ (s.iou.lines[n]).debounce + 1)
    (change : sampledActive s.mu.tables.line[n] high ≠ (s.iou.lines[n]).accepted) :
    exec (.lineAcceptedChange n high zoneFirst) s = .next ((s.acceptLine n high zoneFirst).judgeLineZone n) := by
  have accepts : s.lineAccepts n high = true := by
    simpa [State.lineAccepts, acceptsNow] using And.intro used (And.intro change due)
  rw [show exec (.lineAcceptedChange n high zoneFirst) s = execLineAcceptedChange n high zoneFirst s from rfl,
    execLineAcceptedChange, if_pos accepts]

theorem State.acceptLine_release (h : sampledActive s.mu.tables.line[n] high = false) :
    s.acceptLine n high zoneFirst = s.lineReleased n := by
  rw [State.acceptLine, h, State.onLine_accept]
  rfl

/-- What a line that becomes active does beside its record. -/
def State.pressedBy (n : LineId) (zoneFirst : Bool) (s : State) : State :=
  match (s.mu.tables.line[n]).role with
  | .button => (s.linePressed n).press n
  | .beam => (s.linePressed n).breakLine n zoneFirst
  | _ => s.linePressed n

theorem State.acceptLine_press (h : sampledActive s.mu.tables.line[n] high = true) :
    s.acceptLine n high zoneFirst = s.pressedBy n zoneFirst := by
  rw [State.acceptLine, h, State.onLine_accept, State.pressedBy]
  cases (s.mu.tables.line[n]).role <;> rfl

theorem State.judgeLineZone_other (mu : u.mu = s.mu) (h : (s.mu.tables.line[n]).role ≠ .presence) :
    u.judgeLineZone n = u := by
  rw [State.judgeLineZone, mu, if_neg h]

theorem State.judgeLineZone_presence (h : (s.mu.tables.line[n]).role = .presence) :
    s.judgeLineZone n = s.judgeZone (lineZone s.mu.tables.line[n]) := by
  rw [State.judgeLineZone, if_pos h]

/-! ### A button -/

theorem State.lineFires_iff : s.lineFires n = true ↔ s.iou.showStopped = false ∧ s.iou.mode = .opened ∧
    (s.mu.tables.trig[lineEntry n]).isSome = true := by
  have entry : modeAccepts (lineEntry n) s.iou.mode = (s.iou.mode == .opened) := by
    have early : (lineEntry n).val < 16 := n.isLt
    unfold modeAccepts entryLine
    rw [dif_pos early]
  simp [State.lineFires, entry, and_assoc]

theorem State.press_idle (h : 0 < (s.iou.lines[n]).lockout ∨ s.lineFires n = false) : s.press n = s := by
  unfold State.press
  split
  · rfl
  · next out =>
    rw [h.resolve_left out]
    rfl

theorem State.press_fires (out : (s.iou.lines[n]).lockout = 0) (fires : s.lineFires n = true) :
    s.press n = ((s.onLine n fun x => { x with lockout := (s.mu.tables.line[n]).lockout }).fire (lineEntry n)
      (.visitor n)).2.judgeIndicators := by
  rw [State.press, if_neg (by omega), if_pos fires]

/-! ### A zone -/

theorem State.isPresentIn_iff : s.isPresentIn z = true ↔ ∃ m : LineId, (s.mu.tables.line[m]).role = .presence ∧
    (s.mu.tables.line[m]).zone = z.val ∧ (s.iou.lines[m]).accepted = true := by
  simp [State.isPresentIn, State.lineHolds, and_assoc]

theorem State.judgeZone_held (present : s.isPresentIn z = true) :
    s.judgeZone z = if (s.iou.zones[z]).kind = .occupied then s else s.setOcc z { kind := .occupied, count := 0 } := by
  rw [State.judgeZone]
  exact if_pos present

theorem State.judgeZone_unheld (absent : s.isPresentIn z = false) : s.judgeZone z =
    if (s.iou.zones[z]).kind = .occupied then s.setOcc z (lingerOcc s.mu.tables.unit.linger) else s := by
  rw [State.judgeZone]
  exact if_neg (by rw [absent]; exact Bool.false_ne_true)

theorem lingerOcc_eq (linger : Nat) : lingerOcc linger =
    if 0 < linger then { kind := .linger, count := linger } else { kind := .clear, count := 0 } := rfl

theorem lingerOcc_kind (linger : Nat) : (lingerOcc linger).kind ≠ .occupied := by
  unfold lingerOcc
  split <;> simp

theorem State.breakLine_silent (h : (s.mu.tables.line[n]).trigOnBreak ≠ 1) :
    s.breakLine n zoneFirst = s.breakZone (lineZone s.mu.tables.line[n]) := by
  unfold State.breakLine
  dsimp only
  rw [if_neg h, if_neg h, ite_self]

theorem State.breakLine_first (h : (s.mu.tables.line[n]).trigOnBreak = 1) : s.breakLine n true =
    ((s.breakZone (lineZone s.mu.tables.line[n])).fire (lineEntry n) (.visitor n)).2 := by
  unfold State.breakLine
  dsimp only
  rw [if_pos rfl, if_pos h]

theorem State.breakLine_last (h : (s.mu.tables.line[n]).trigOnBreak = 1) : s.breakLine n false =
    (s.fire (lineEntry n) (.visitor n)).2.breakZone (lineZone s.mu.tables.line[n]) := by
  unfold State.breakLine
  dsimp only
  rw [if_neg Bool.false_ne_true, if_pos h]

theorem State.breakZone_occupied (h : (s.iou.zones[z]).kind = .occupied) : s.breakZone z = s := by
  rw [State.breakZone, h]

theorem State.breakZone_linger (h : (s.iou.zones[z]).kind = .linger) :
    s.breakZone z = s.setOcc z { kind := .linger, count := s.mu.tables.unit.linger } := by
  rw [State.breakZone, h]

theorem State.breakZone_clear (h : (s.iou.zones[z]).kind = .clear) :
    s.breakZone z = s.setOcc z (lingerOcc s.mu.tables.unit.linger) := by
  rw [State.breakZone, h]

/-! ### The roles -/

/-- A BUTTON line that is pressed (R27). -/
theorem State.pressed_fires (out : (s.iou.lines[n]).lockout = 0) (mode : s.iou.mode = .opened)
    (running : s.iou.showStopped = false) (some : (s.mu.tables.trig[lineEntry n]).isSome = true) :
    (s.linePressed n).press n = (((s.linePressed n).onLine n fun x => { x with lockout := (s.mu.tables.line[n]).lockout }).fire
      (lineEntry n) (.visitor n)).2.judgeIndicators := by
  have lockout : ((s.linePressed n).iou.lines[n]).lockout = 0 := by
    rw [State.linePressed, State.onLine_lines, if_pos rfl]
    exact out
  exact State.press_fires lockout (State.lineFires_iff.mpr ⟨running, mode, some⟩)

/-- What a press that is acted on leaves of the IOU (R27). -/
theorem State.pressed_lines {t : State} (ht : t = (((s.linePressed n).onLine n fun x =>
      { x with lockout := (s.mu.tables.line[n]).lockout }).fire (lineEntry n) (.visitor n)).2.judgeIndicators) :
    t.iou.lines[n] = { s.iou.lines[n] with
      accepted := true, debounce := 0, held := 0, lockout := (s.mu.tables.line[n]).lockout } ∧
    (∀ m : LineId, m ≠ n → t.iou.lines[m] = s.iou.lines[m]) ∧ t.mu = s.mu ∧ t.sck = s.sck ∧
    t.iou.stopAccepted = s.iou.stopAccepted ∧ t.ports = s.ports := by
  have stays : t.standing = ((s.linePressed n).onLine n fun x =>
      { x with lockout := (s.mu.tables.line[n]).lockout }).standing := by
    rw [ht, State.judgeIndicators_standing, State.fire_standing]
  have lines := congrArg (fun x : Standing => x.iou.lines) stays
  dsimp only [State.standing] at lines
  refine ⟨?_, fun m ne => ?_, congrArg Standing.mu stays, congrArg Standing.sck stays,
    (congrArg (fun x : Standing => x.iou.stopAccepted) stays :), congrArg Standing.ports stays⟩
  · rw [lines, State.onLine_lines, if_pos rfl, State.linePressed, State.onLine_lines, if_pos rfl]
  · rw [lines, State.onLine_lines, if_neg ne, State.linePressed, State.onLine_lines, if_neg ne]

/-- Whether a PRESENCE line holds its zone beside one whose level has changed. -/
theorem State.isPresentIn_onLine (z : ZoneId) : (s.onLine n f).isPresentIn z = true ↔
    ((s.mu.tables.line[n]).role = .presence ∧ (s.mu.tables.line[n]).zone = z.val ∧ (f s.iou.lines[n]).accepted = true) ∨
    ∃ m : LineId, m ≠ n ∧ (s.mu.tables.line[m]).role = .presence ∧ (s.mu.tables.line[m]).zone = z.val ∧
      (s.iou.lines[m]).accepted = true := by
  rw [State.isPresentIn_iff]
  constructor
  · rintro ⟨m, role, zone, accepted⟩
    rw [State.onLine_lines] at accepted
    by_cases e : m = n
    · subst e
      rw [if_pos rfl] at accepted
      exact .inl ⟨role, zone, accepted⟩
    · rw [if_neg e] at accepted
      exact .inr ⟨m, e, role, zone, accepted⟩
  · rintro (⟨role, zone, accepted⟩ | ⟨m, ne, role, zone, accepted⟩)
    · exact ⟨n, role, zone, by rw [State.onLine_lines, if_pos rfl]; exact accepted⟩
    · exact ⟨m, role, zone, by rw [State.onLine_lines, if_neg ne]; exact accepted⟩

theorem State.presence_pressed (role : (s.mu.tables.line[n]).role = .presence)
    (zone : (s.mu.tables.line[n]).zone = (lineZone s.mu.tables.line[n]).val) :
    (s.pressedBy n zoneFirst).judgeLineZone n = if (s.iou.zones[lineZone s.mu.tables.line[n]]).kind = .occupied then
      s.linePressed n else (s.linePressed n).setOcc (lineZone s.mu.tables.line[n]) { kind := .occupied, count := 0 } := by
  have pressed : s.pressedBy n zoneFirst = s.linePressed n := by rw [State.pressedBy, role]
  rw [pressed, State.judgeLineZone_presence (s := s.linePressed n) role]
  exact State.judgeZone_held ((State.isPresentIn_onLine _).mpr (.inl ⟨role, zone, rfl⟩))

theorem State.presence_released (role : (s.mu.tables.line[n]).role = .presence) :
    ((∃ m : LineId, m ≠ n ∧ (s.mu.tables.line[m]).role = .presence ∧
      (s.mu.tables.line[m]).zone = (lineZone s.mu.tables.line[n]).val ∧ (s.iou.lines[m]).accepted = true) →
      (s.iou.zones[lineZone s.mu.tables.line[n]]).kind = .occupied → (s.lineReleased n).judgeLineZone n = s.lineReleased n) ∧
    ((∀ m : LineId, m ≠ n → ¬((s.mu.tables.line[m]).role = .presence ∧
      (s.mu.tables.line[m]).zone = (lineZone s.mu.tables.line[n]).val ∧ (s.iou.lines[m]).accepted = true)) →
      (s.lineReleased n).judgeLineZone n = if (s.iou.zones[lineZone s.mu.tables.line[n]]).kind = .occupied then
        (s.lineReleased n).setOcc (lineZone s.mu.tables.line[n]) (lingerOcc s.mu.tables.unit.linger)
        else s.lineReleased n) := by
  rw [State.judgeLineZone_presence (s := s.lineReleased n) role]
  refine ⟨fun held occupied => ?_, fun unheld => ?_⟩
  · exact (State.judgeZone_held ((State.isPresentIn_onLine _).mpr (.inr held))).trans (if_pos occupied)
  · refine State.judgeZone_unheld (s := s.lineReleased n) (Bool.eq_false_iff.mpr fun present => ?_)
    rcases (State.isPresentIn_onLine _).mp present with ⟨-, -, accepted⟩ | ⟨m, ne, holds⟩
    · cases accepted
    · exact unheld m ne holds

/-- A zone's change that a line brings. -/
theorem State.setOcc_onLine (h : (s.iou.zones[z]).kind ≠ o.kind) (f : LineRt → LineRt) :
    ((s.onLine n f).setOcc z o).iou.lines = (s.onLine n f).iou.lines ∧ OccTaken s ((s.onLine n f).setOcc z o) z o :=
  ⟨State.setOcc_lines _ _ _, (State.setOcc_taken (s := s.onLine n f) h).of_onLine⟩

/-- A break on a BEAM line that fires nothing (R37). -/
theorem State.breakZone_pressed (n : LineId) (z : ZoneId) (s : State) :
    ((s.iou.zones[z]).kind = .occupied → (s.linePressed n).breakZone z = s.linePressed n) ∧
    ((s.iou.zones[z]).kind = .linger → (s.linePressed n).breakZone z = { s.linePressed n with
      iou := { (s.linePressed n).iou with zones := s.iou.zones.set z { kind := .linger, count := s.mu.tables.unit.linger } } }) ∧
    ((s.iou.zones[z]).kind = .clear → 0 < s.mu.tables.unit.linger →
      ((s.linePressed n).breakZone z).iou.lines = (s.linePressed n).iou.lines ∧
      OccTaken s ((s.linePressed n).breakZone z) z { kind := .linger, count := s.mu.tables.unit.linger }) ∧
    ((s.iou.zones[z]).kind = .clear → s.mu.tables.unit.linger = 0 → (s.linePressed n).breakZone z = { s.linePressed n with
      iou := { (s.linePressed n).iou with zones := s.iou.zones.set z { kind := .clear, count := 0 } } }) := by
  refine ⟨fun occupied => State.breakZone_occupied (s := s.linePressed n) occupied, fun linger => ?_,
    fun clear some => ?_, fun clear none => ?_⟩
  · rw [State.breakZone_linger (s := s.linePressed n) linger, State.setOcc_same (s := s.linePressed n) linger]
    rfl
  · have lingers : lingerOcc s.mu.tables.unit.linger = { kind := .linger, count := s.mu.tables.unit.linger } := if_pos some
    have broken : (s.linePressed n).breakZone z =
        (s.linePressed n).setOcc z { kind := .linger, count := s.mu.tables.unit.linger } := by
      rw [State.breakZone_clear (s := s.linePressed n) clear, ← lingers]
      rfl
    rw [broken]
    refine State.setOcc_onLine (fun same => ?_) _
    cases clear.symm.trans same
  · have clears : lingerOcc s.mu.tables.unit.linger = { kind := .clear, count := 0 } := if_neg (by omega)
    have broken : (s.linePressed n).breakZone z = (s.linePressed n).setOcc z { kind := .clear, count := 0 } := by
      rw [State.breakZone_clear (s := s.linePressed n) clear, ← clears]
      rfl
    rw [broken, State.setOcc_same (s := s.linePressed n) clear]
    rfl

/-- Settles O31. -/
theorem lineLevelAccepted : Obligations.LineLevelAccepted := by
  unfold Obligations.LineLevelAccepted
  refine ⟨fun e source s => ⟨fun h => State.fire_idle h source, fun r open_ hr => ?_⟩,
    fun n high zoneFirst s used due change => ?_⟩
  · rw [State.fire_acts open_ hr]
    exact State.act_acted r source s
  have ran := exec_lineAcceptedChange (zoneFirst := zoneFirst) used due change
  have off (h : (s.iou.lines[n]).accepted = true) : s.acceptLine n high zoneFirst = s.lineReleased n :=
    State.acceptLine_release ((Bool.not_eq_true _).mp (h ▸ change))
  have on (h : (s.iou.lines[n]).accepted = false) : s.acceptLine n high zoneFirst = s.pressedBy n zoneFirst :=
    State.acceptLine_press ((Bool.not_eq_false _).mp (h ▸ change))
  dsimp only
  refine ⟨fun h role => ?_, fun h role idle => ?_, fun h role out mode running some => ?_, fun role zone => ?_, fun role h => ?_⟩
  · rw [ran, off h, State.judgeLineZone_other (s := s) (u := s.lineReleased n) rfl role]
    rfl
  · have pressed : s.pressedBy n zoneFirst = s.linePressed n := by
      rw [State.pressedBy, role]
      refine State.press_idle ?_
      rw [State.linePressed, State.onLine_lines, if_pos rfl]
      refine idle.imp_right fun idle => Bool.eq_false_iff.mpr fun fires => ?_
      obtain ⟨running, mode, some⟩ := State.lineFires_iff.mp fires
      rcases idle with h | h | h
      · exact h mode
      · exact Bool.false_ne_true (running.symm.trans h)
      · exact Option.isSome_iff_ne_none.mp some h
    rw [ran, on h, pressed, State.judgeLineZone_other (s := s) (u := s.linePressed n) rfl (by rw [role]; decide)]
    rfl
  · have pressed : s.pressedBy n zoneFirst = (((s.linePressed n).onLine n fun x =>
        { x with lockout := (s.mu.tables.line[n]).lockout }).fire (lineEntry n) (.visitor n)).2.judgeIndicators := by
      rw [State.pressedBy, role]
      exact State.pressed_fires out mode running some
    generalize ht : (((s.linePressed n).onLine n fun x => { x with lockout := (s.mu.tables.line[n]).lockout }).fire
      (lineEntry n) (.visitor n)).2.judgeIndicators = t at pressed
    obtain ⟨own, others, mu, sck, stop, ports⟩ := State.pressed_lines ht.symm
    refine ⟨t, ?_, own, others, mu, sck, stop, ports, ht.symm, ?_⟩
    · rw [ran, on h, pressed, State.judgeLineZone_other mu (by rw [role]; decide)]
    · rw [← ht]
      exact State.judgeIndicators_judged _
  · have entered := State.presence_pressed (zoneFirst := zoneFirst) role zone
    obtain ⟨held, unheld⟩ := State.presence_released role
    have linger := lingerOcc_eq s.mu.tables.unit.linger
    refine ⟨fun h occupied => ?_, fun h empty => ?_, fun h occupied others => ?_, fun h occupied alone => ?_,
      fun h empty alone => ?_⟩
    · rw [ran, on h, entered, if_pos occupied]
      rfl
    · obtain ⟨lines, taken⟩ := State.setOcc_onLine (n := n) (o := { kind := .occupied, count := 0 }) empty
        fun x => { x with accepted := true, debounce := 0, held := 0 }
      refine ⟨_, ?_, lines, taken⟩
      rw [ran, on h, entered, if_neg empty]
      rfl
    · rw [ran, off h, held others occupied]
      rfl
    · obtain ⟨lines, taken⟩ := State.setOcc_onLine (n := n) (o := lingerOcc s.mu.tables.unit.linger)
        (by rw [occupied]; exact (lingerOcc_kind _).symm) fun x => { x with accepted := false, debounce := 0, stuck := false }
      refine ⟨_, ?_, lines, linger ▸ taken⟩
      rw [ran, off h, unheld alone, if_pos occupied]
      rfl
    · rw [ran, off h, unheld alone, if_neg empty]
      rfl
  · have broken : s.pressedBy n zoneFirst = (s.linePressed n).breakLine n zoneFirst := by rw [State.pressedBy, role]
    have left : ((s.linePressed n).breakLine n zoneFirst).judgeLineZone n = (s.linePressed n).breakLine n zoneFirst :=
      State.judgeLineZone_other (s := s) (by simp only [State.breakLine_frame]; rfl) (by rw [role]; decide)
    rw [ran, on h, broken, left]
    refine ⟨fun silent => ?_, fun fires => ⟨fun first => ?_, fun last => ?_⟩⟩
    · have acts : (s.linePressed n).breakLine n zoneFirst = (s.linePressed n).breakZone (lineZone s.mu.tables.line[n]) :=
        State.breakLine_silent (s := s.linePressed n) silent
      obtain ⟨occupied, linger, lingers, clears⟩ := State.breakZone_pressed n (lineZone s.mu.tables.line[n]) s
      rw [acts]
      exact ⟨fun h => congrArg _ (occupied h), fun h => congrArg _ (linger h), fun h some => ⟨_, rfl, lingers h some⟩,
        fun h none => congrArg _ (clears h none)⟩
    · rw [first, State.breakLine_first (s := s.linePressed n) fires]
      rfl
    · rw [last, State.breakLine_last (s := s.linePressed n) fires]
      rfl

end Sys2Proof.Machine
end

section
/-! SUPPORT. The panel: the lines, zones and stuck lines of the IOU with all that no firing and no change of a zone
touches (R24 to R29, R36, R37), and what each operation of the IOU's beat does to it. -/

namespace Sys2Proof.Machine

/-- The standing parts of a state without the views that a change of a zone writes. -/
def Standing.panel (p : Standing) : Standing :=
  { p with arbOcc := Vector.replicate 4 .clear, mgtOcc := Vector.replicate 4 .clear, guards := fun _ => (false, 0) }

def State.panel (s : State) : Standing := s.standing.panel

/-- A panel with the record of a line written. -/
def Standing.setLine (n : LineId) (x : LineRt) (p : Standing) : Standing :=
  { p with iou := { p.iou with lines := p.iou.lines.set n x } }

/-- A panel with the record of a zone written. -/
def Standing.setZone (z : ZoneId) (o : ZoneOcc) (p : Standing) : Standing :=
  { p with iou := { p.iou with zones := p.iou.zones.set z o } }

/-- A panel with a line among the stuck ones. -/
def Standing.raiseStuck (n : LineId) (p : Standing) : Standing :=
  { p with stuckLines := withMember p.stuckLines n, lineStuck := true }

/-- The occupancy of a zone after a break (R37). -/
def ZoneOcc.broken (linger : Nat) (o : ZoneOcc) : ZoneOcc :=
  match o.kind with
  | .occupied => o
  | .linger => { kind := .linger, count := linger }
  | .clear => lingerOcc linger

variable {s : State} {p : Standing} {n m : LineId} {z y : ZoneId} {o : ZoneOcc} {x : LineRt}

/-! ### Writing a panel -/

theorem Standing.setLine_lines (n m : LineId) (x : LineRt) (p : Standing) :
    (p.setLine n x).iou.lines[m] = if m = n then x else p.iou.lines[m] := getElem_set_at _ _ _ _

theorem Standing.setZone_zones (z y : ZoneId) (o : ZoneOcc) (p : Standing) :
    (p.setZone z o).iou.zones[y] = if y = z then o else p.iou.zones[y] := getElem_set_at _ _ _ _

theorem Standing.setLine_setLine (n : LineId) (x y : LineRt) (p : Standing) :
    (p.setLine n x).setLine n y = p.setLine n y := by
  simp only [Standing.setLine, Vector.set_set]

theorem Standing.setLine_self (n : LineId) (p : Standing) : p.setLine n p.iou.lines[n] = p := by
  simp only [Standing.setLine, Fin.getElem_fin, Vector.set_getElem_self]

theorem Standing.setZone_self (z : ZoneId) (p : Standing) : p.setZone z p.iou.zones[z] = p := by
  simp only [Standing.setZone, Fin.getElem_fin, Vector.set_getElem_self]

theorem ZoneOcc.broken_broken (linger : Nat) (o : ZoneOcc) : (o.broken linger).broken linger = o.broken linger := by
  cases h : o.kind with
  | occupied => simp only [ZoneOcc.broken, h]
  | linger => simp only [ZoneOcc.broken, h]
  | clear =>
    by_cases some : 0 < linger
    · simp [ZoneOcc.broken, lingerOcc, h, some]
    · simp [ZoneOcc.broken, lingerOcc, h, some]

/-! ### Operations -/

@[simp] theorem State.onLine_panel (n : LineId) (f : LineRt → LineRt) (s : State) :
    (s.onLine n f).panel = s.panel.setLine n (f s.iou.lines[n]) := rfl

@[simp] theorem State.judgeIndicators_panel : s.judgeIndicators.panel = s.panel :=
  congrArg Standing.panel State.judgeIndicators_standing

@[simp] theorem State.fire_panel (e : EntryId) (source : Source) : (s.fire e source).2.panel = s.panel :=
  congrArg Standing.panel (State.fire_standing e source)

@[simp] theorem State.raiseLineStuck_panel (n : LineId) (s : State) :
    (s.raiseLineStuck n).panel = s.panel.raiseStuck n := by
  rw [State.raiseLineStuck, State.panel, State.askStatus_standing]
  rfl

@[simp] theorem State.setOcc_panel (z : ZoneId) (o : ZoneOcc) (s : State) :
    (s.setOcc z o).panel = s.panel.setZone z o := by
  have zones : (s.setOcc z o).iou.zones = s.iou.zones.set z o := by
    by_cases h : (s.iou.zones[z]).kind = o.kind
    · rw [State.setOcc_same h]
      rfl
    · exact (State.setOcc_views h).1
  have still := State.setOcc_still z o s
  generalize s.setOcc z o = t at zones still
  exact congrArg₂ (fun (p : Standing) v => { p with iou := { p.iou with zones := v } }) still zones

@[simp] theorem State.breakZone_panel (z : ZoneId) (s : State) :
    (s.breakZone z).panel = s.panel.setZone z ((s.iou.zones[z]).broken s.mu.tables.unit.linger) := by
  cases h : (s.iou.zones[z]).kind with
  | occupied =>
    rw [State.breakZone_occupied h, ZoneOcc.broken, h]
    exact (Standing.setZone_self z s.panel).symm
  | linger => rw [State.breakZone_linger h, State.setOcc_panel, ZoneOcc.broken, h]
  | clear => rw [State.breakZone_clear h, State.setOcc_panel, ZoneOcc.broken, h]

/-! ### A line -/

/-- The entry of a line would be acted on. -/
def Standing.fires (p : Standing) (n : LineId) : Bool :=
  !p.iou.showStopped && p.iou.mode == .opened && (p.mu.tables.trig[lineEntry n]).isSome

theorem State.lineFires_eq (n : LineId) (s : State) : s.lineFires n = s.panel.fires n := by
  refine Bool.eq_iff_iff.mpr (State.lineFires_iff.trans ?_)
  simp [Standing.fires, State.panel, Standing.panel, State.standing, and_assoc]

/-- The lockout of a BUTTON line after a press (R27). -/
def Standing.pressLockout (p : Standing) (n : LineId) : Nat :=
  if (p.iou.lines[n]).lockout = 0 ∧ p.fires n = true then (p.mu.tables.line[n]).lockout else (p.iou.lines[n]).lockout

theorem State.press_panel (n : LineId) (s : State) : (s.press n).panel =
    s.panel.setLine n { s.iou.lines[n] with lockout := s.panel.pressLockout n } := by
  unfold Standing.pressLockout
  by_cases acts : (s.iou.lines[n]).lockout = 0 ∧ s.lineFires n = true
  · rw [State.press_fires acts.1 acts.2, State.judgeIndicators_panel, State.fire_panel, State.onLine_panel]
    rw [State.lineFires_eq] at acts
    exact congrArg (fun k => s.panel.setLine n { s.iou.lines[n] with lockout := k }) (if_pos acts).symm
  · have idle : 0 < (s.iou.lines[n]).lockout ∨ s.lineFires n = false :=
      (not_and_or.mp acts).imp Nat.pos_of_ne_zero eq_false_of_ne_true
    rw [State.press_idle idle]
    rw [State.lineFires_eq] at acts
    refine (Standing.setLine_self n s.panel).symm.trans ?_
    exact congrArg (fun k => s.panel.setLine n { s.iou.lines[n] with lockout := k }) (if_neg acts).symm

theorem State.breakLine_panel (zoneFirst : Bool) : (s.breakLine n zoneFirst).panel =
    s.panel.setZone (lineZone s.mu.tables.line[n])
      ((s.iou.zones[lineZone s.mu.tables.line[n]]).broken s.mu.tables.unit.linger) := by
  by_cases fires : (s.mu.tables.line[n]).trigOnBreak = 1
  · cases zoneFirst
    · have fired := State.fire_standing (s := s) (lineEntry n) (.visitor n)
      rw [State.breakLine_last fires, State.breakZone_panel, State.fire_panel]
      generalize (s.fire (lineEntry n) (.visitor n)).2 = t at fired
      have mu : t.mu = s.mu := congrArg Standing.mu fired
      have zones : t.iou.zones = s.iou.zones := congrArg (fun x : Standing => x.iou.zones) fired
      rw [mu, zones]
    · rw [State.breakLine_first fires, State.fire_panel, State.breakZone_panel]
  · rw [State.breakLine_silent fires, State.breakZone_panel]

theorem Standing.pressLockout_setLine (h : x.lockout = (p.iou.lines[n]).lockout) :
    (p.setLine n x).pressLockout n = p.pressLockout n := by
  rw [Standing.pressLockout, Standing.setLine_lines, if_pos rfl, h]
  rfl

/-- The record of a line whose new level is accepted (R25, R27 to R29), its lockout not yet counted. -/
def Standing.accepted (p : Standing) (n : LineId) (active : Bool) : LineRt :=
  { LineRt.accept active p.iou.lines[n] with
    lockout := if (p.mu.tables.line[n]).role = .button ∧ active then p.pressLockout n else (p.iou.lines[n]).lockout }

theorem State.acceptLine_panel (high zoneFirst : Bool) (s : State) :
    let active := sampledActive s.mu.tables.line[n] high
    let p := s.panel.setLine n (s.panel.accepted n active)
    (s.acceptLine n high zoneFirst).panel = if (s.mu.tables.line[n]).role = .beam ∧ active then
      p.setZone (lineZone s.mu.tables.line[n])
        ((s.iou.zones[lineZone s.mu.tables.line[n]]).broken s.mu.tables.unit.linger) else p := by
  dsimp only
  generalize h : sampledActive s.mu.tables.line[n] high = active
  cases active with
  | false =>
    rw [State.acceptLine_release h, if_neg (by simp), State.lineReleased, State.onLine_panel]
    refine congrArg (s.panel.setLine n) ?_
    simp only [Standing.accepted, LineRt.accept, Bool.and_false, Bool.false_eq_true, and_false, if_false]
    rfl
  | true =>
    have pressed : (s.linePressed n).panel = s.panel.setLine n (LineRt.accept true s.iou.lines[n]) := by
      rw [State.linePressed, State.onLine_panel]
      simp only [LineRt.accept, Bool.and_true, if_true]
    have own : (s.linePressed n).iou.lines[n] = LineRt.accept true s.iou.lines[n] :=
      (congrArg (fun p : Standing => p.iou.lines[n]) pressed).trans ((Standing.setLine_lines ..).trans (if_pos rfl))
    have plain (h : (s.mu.tables.line[n]).role ≠ .button) :
        LineRt.accept true s.iou.lines[n] = s.panel.accepted n true := by
      rw [Standing.accepted, if_neg fun b => h b.1]
      rfl
    rw [State.acceptLine_press h, State.pressedBy]
    split
    · next role =>
      have lockout : (s.panel.setLine n (LineRt.accept true s.iou.lines[n])).pressLockout n = s.panel.pressLockout n :=
        Standing.pressLockout_setLine rfl
      rw [if_neg (by rw [role]; simp), State.press_panel, pressed, own, Standing.setLine_setLine, lockout,
        Standing.accepted, if_pos ⟨role, rfl⟩]
      rfl
    · next role =>
      rw [if_pos ⟨role, rfl⟩, State.breakLine_panel, pressed, plain (by rw [role]; decide)]
      rfl
    · next button beam =>
      rw [if_neg fun h => beam h.1, pressed, plain button]

theorem State.lockoutBeat_panel (n : LineId) (s : State) : (s.lockoutBeat n).panel =
    s.panel.setLine n { s.iou.lines[n] with lockout := (s.iou.lines[n]).lockout - 1 } := by
  unfold State.lockoutBeat
  dsimp only
  split
  · next out =>
    refine (Standing.setLine_self n s.panel).symm.trans ?_
    exact congrArg (fun k => s.panel.setLine n { s.iou.lines[n] with lockout := k }) (show _ = _ - 1 by rw [out]; exact out)
  · split
    · rw [State.judgeIndicators_panel, State.onLine_panel]
    · rw [State.onLine_panel]

/-- A line whose held count is taken (R28, R29). -/
def Standing.holds (p : Standing) (n : LineId) : Bool :=
  (p.iou.lines[n]).accepted && !(p.iou.lines[n]).stuck &&
    ((p.mu.tables.line[n]).role == .button || (p.mu.tables.line[n]).role == .presence)

/-- The held limit of a line's role, the one of a PRESENCE line for every role but BUTTON. -/
def Standing.limit (p : Standing) (n : LineId) : Nat :=
  if (p.mu.tables.line[n]).role = .button then p.mu.tables.unit.buttonStuck else p.mu.tables.unit.presenceStuck

/-- A line becomes stuck as its held count is taken. -/
def Standing.sticks (p : Standing) (n : LineId) : Bool := p.holds n && decide (p.limit n ≤ (p.iou.lines[n]).held + 1)

/-- The record of a line with its held count taken. -/
def Standing.heldRec (p : Standing) (n : LineId) : LineRt :=
  { p.iou.lines[n] with
    held := if p.holds n then (p.iou.lines[n]).held + 1 else (p.iou.lines[n]).held
    stuck := (p.iou.lines[n]).stuck || p.sticks n }

theorem Standing.heldRec_idle (h : p.holds n = false) : p.heldRec n = p.iou.lines[n] := by
  simp [Standing.heldRec, Standing.sticks, h]

theorem heldLimit_eq (h : (s.mu.tables.line[n]).role = .button ∨ (s.mu.tables.line[n]).role = .presence) :
    heldLimit s.mu.tables.unit (s.mu.tables.line[n]).role = some (s.panel.limit n) := by
  change _ = some (if (s.mu.tables.line[n]).role = .button then _ else _)
  rcases h with h | h
  · rw [h]
    rfl
  · rw [h]
    rfl

theorem State.heldBeat_idle (h : s.panel.holds n = false) : s.heldBeat n = s := by
  have idle : ((s.iou.lines[n]).accepted && !(s.iou.lines[n]).stuck &&
    ((s.mu.tables.line[n]).role == .button || (s.mu.tables.line[n]).role == .presence)) = false := h
  unfold State.heldBeat
  cases role : (s.mu.tables.line[n]).role <;> simp_all [heldLimit]

theorem State.heldBeat_holds (h : s.panel.holds n = true) : s.heldBeat n =
    if s.panel.limit n ≤ (s.panel.iou.lines[n]).held + 1 then
      (s.onLine n fun x => { x with held := x.held + 1, stuck := true }).raiseLineStuck n
    else s.onLine n fun x => { x with held := x.held + 1 } := by
  have holds : ((s.iou.lines[n]).accepted && !(s.iou.lines[n]).stuck &&
    ((s.mu.tables.line[n]).role == .button || (s.mu.tables.line[n]).role == .presence)) = true := h
  simp only [Bool.and_eq_true, Bool.or_eq_true, beq_iff_eq] at holds
  obtain ⟨counted, role⟩ := holds
  unfold State.heldBeat
  rw [heldLimit_eq role]
  refine if_neg ?_
  rw [counted.1, (Bool.not_eq_true' _).mp counted.2]
  decide

theorem State.heldBeat_panel (n : LineId) (s : State) : (s.heldBeat n).panel =
    if s.panel.sticks n then (s.panel.setLine n (s.panel.heldRec n)).raiseStuck n
    else s.panel.setLine n (s.panel.heldRec n) := by
  cases h : s.panel.holds n with
  | false =>
    rw [State.heldBeat_idle h, Standing.heldRec_idle h, Standing.sticks, h, Standing.setLine_self]
    rfl
  | true =>
    rw [State.heldBeat_holds h, Standing.heldRec, if_pos h, Standing.sticks, h, Bool.true_and]
    by_cases reached : s.panel.limit n ≤ (s.panel.iou.lines[n]).held + 1
    · rw [if_pos reached, State.raiseLineStuck_panel, State.onLine_panel, if_pos (decide_eq_true reached),
        decide_eq_true reached, Bool.or_true]
      rfl
    · rw [if_neg reached, State.onLine_panel, if_neg fun h => reached (of_decide_eq_true h), decide_eq_false reached, Bool.or_false]
      rfl

/-! ### A line's turn of the beat -/

/-- The record of a line after its turn of a beat (R25, R27 to R29). -/
def Standing.lineAfter (lines : BitVec 16) (p : Standing) (n : LineId) : LineRt :=
  lineAfterBeat p.mu.tables.unit p.mu.tables.line[n] (lines.getLsbD n) (p.fires n) p.iou.lines[n]

/-- A BEAM line is broken as it takes the beat (R37). -/
def Standing.breaks (lines : BitVec 16) (p : Standing) (n : LineId) : Bool :=
  (p.mu.tables.line[n]).role == .beam && !(p.iou.lines[n]).accepted && (p.lineAfter lines n).accepted

/-- A line becomes stuck as it takes the beat (R28, R29). -/
def Standing.newlyStuck (lines : BitVec 16) (p : Standing) (n : LineId) : Bool :=
  (p.lineAfter lines n).stuck && !(p.iou.lines[n]).stuck

/-- A panel whose line has taken the beat, its break not yet acted on. -/
def Standing.lineStruck (lines : BitVec 16) (n : LineId) (p : Standing) : Standing :=
  if p.newlyStuck lines n then (p.setLine n (p.lineAfter lines n)).raiseStuck n else p.setLine n (p.lineAfter lines n)

/-- A panel whose line has taken the beat. -/
def Standing.lineTurn (lines : BitVec 16) (n : LineId) (p : Standing) : Standing :=
  if p.breaks lines n then
    (p.lineStruck lines n).setZone (lineZone p.mu.tables.line[n])
      ((p.iou.zones[lineZone p.mu.tables.line[n]]).broken p.mu.tables.unit.linger)
  else p.lineStruck lines n

variable {lines : BitVec 16}

/-- A sample accepts a new level of a line. -/
def Standing.accepts (lines : BitVec 16) (p : Standing) (n : LineId) : Prop :=
  (p.mu.tables.line[n]).role ≠ .unused ∧ sampledActive p.mu.tables.line[n] (lines.getLsbD n) ≠ (p.iou.lines[n]).accepted ∧
    (p.mu.tables.line[n]).debounce ≤ (p.iou.lines[n]).debounce + 1

theorem State.lineAccepts_iff : s.lineAccepts n (lines.getLsbD n) = true ↔ s.panel.accepts lines n := by
  change _ ↔ (s.mu.tables.line[n]).role ≠ .unused ∧
    sampledActive s.mu.tables.line[n] (lines.getLsbD n) ≠ (s.iou.lines[n]).accepted ∧
    (s.mu.tables.line[n]).debounce ≤ (s.iou.lines[n]).debounce + 1
  simp [State.lineAccepts, acceptsNow]

theorem Standing.lineAfter_unused (h : (p.mu.tables.line[n]).role = .unused) : p.lineAfter lines n = p.iou.lines[n] := by
  rw [Standing.lineAfter, lineAfterBeat]
  exact if_pos h

/-- The lockout of a line whose new level is accepted on a beat (R27). -/
theorem Standing.lockout_accepts (active : Bool) (n : LineId) (p : Standing) :
    (if (p.iou.lines[n]).lockout = 0 ∧ (p.mu.tables.line[n]).role = .button ∧ active = true ∧ p.fires n = true then
      (p.mu.tables.line[n]).lockout else (p.iou.lines[n]).lockout - 1) =
    if (p.iou.lines[n]).lockout = 0 then (p.accepted n active).lockout else (p.iou.lines[n]).lockout - 1 := by
  simp only [Standing.accepted, Standing.pressLockout]
  by_cases out : (p.iou.lines[n]).lockout = 0
  · rw [out, if_pos rfl]
    by_cases press : (p.mu.tables.line[n]).role = .button ∧ active = true
    · rw [if_pos press]
      simp only [press, true_and, Nat.zero_sub]
    · rw [if_neg press, if_neg fun h => press ⟨h.2.1, h.2.2.1⟩]
  · rw [if_neg out, if_neg fun h => out h.1]

theorem Standing.lineAfter_accepts (h : p.accepts lines n) :
    let x := p.accepted n (sampledActive p.mu.tables.line[n] (lines.getLsbD n))
    p.lineAfter lines n =
      { x with lockout := if (p.iou.lines[n]).lockout = 0 then x.lockout else (p.iou.lines[n]).lockout - 1 } := by
  obtain ⟨used, change, due⟩ := h
  refine (if_neg used).trans ((if_pos ⟨change, due⟩).trans ?_)
  exact congrArg (fun k => { LineRt.accept (sampledActive p.mu.tables.line[n] (lines.getLsbD n)) p.iou.lines[n] with
    lockout := k }) (Standing.lockout_accepts _ n p)

theorem Standing.lineAfter_counts (used : (p.mu.tables.line[n]).role ≠ .unused) (h : ¬p.accepts lines n) :
    p.lineAfter lines n = { p.heldRec n with
      debounce := countAfter (p.iou.lines[n]).accepted (p.iou.lines[n]).debounce
        (sampledActive p.mu.tables.line[n] (lines.getLsbD n))
      lockout := (p.iou.lines[n]).lockout - 1 } := by
  exact (if_neg used).trans (if_neg fun accepts => h ⟨used, accepts⟩)

/-- A line whose turn accepts a new level is not newly stuck. -/
theorem Standing.not_newlyStuck (h : p.accepts lines n) : p.newlyStuck lines n = false := by
  rw [Standing.newlyStuck, Standing.lineAfter_accepts h]
  simp only [Standing.accepted, LineRt.accept]
  cases (p.iou.lines[n]).stuck <;> simp

theorem Standing.breaks_accepts (h : p.accepts lines n) : p.breaks lines n = true ↔
    (p.mu.tables.line[n]).role = .beam ∧ sampledActive p.mu.tables.line[n] (lines.getLsbD n) = true := by
  have change := h.2.1
  rw [Standing.breaks, Standing.lineAfter_accepts h]
  simp only [Standing.accepted, LineRt.accept, Bool.and_eq_true, Bool.not_eq_true', beq_iff_eq]
  grind

/-- The lockout that was running as a new level was accepted counts down. -/
theorem State.lockout_struck {t : State} (h : s.panel.accepts lines n) (own : t.iou.lines[n] =
      s.panel.accepted n (sampledActive s.mu.tables.line[n] (lines.getLsbD n))) :
    (if (s.iou.lines[n]).lockout = 0 then t else t.lockoutBeat n).panel =
      t.panel.setLine n (s.panel.lineAfter lines n) := by
  rw [Standing.lineAfter_accepts h]
  by_cases out : (s.iou.lines[n]).lockout = 0
  · have kept := Standing.setLine_self n t.panel
    rw [if_pos out]
    refine kept.symm.trans (congrArg (t.panel.setLine n) (own.trans ?_))
    exact congrArg (fun k => { s.panel.accepted n (sampledActive s.mu.tables.line[n] (lines.getLsbD n)) with
      lockout := k }) (if_pos out).symm
  · have running : (s.panel.accepted n (sampledActive s.mu.tables.line[n] (lines.getLsbD n))).lockout =
        (s.iou.lines[n]).lockout := by
      have idle : s.panel.pressLockout n = (s.iou.lines[n]).lockout := if_neg fun h => out h.1
      simp only [Standing.accepted, idle]
      exact ite_self _
    rw [if_neg out, State.lockoutBeat_panel, own, running]
    exact congrArg (fun k => t.panel.setLine n { s.panel.accepted n (sampledActive s.mu.tables.line[n]
      (lines.getLsbD n)) with lockout := k }) (if_neg out).symm

theorem State.lineBeat_accepts (zoneFirst : Bool) (h : s.panel.accepts lines n) :
    (s.lineBeat lines zoneFirst n).panel = s.panel.lineTurn lines n := by
  have used : (s.mu.tables.line[n]).role ≠ .unused := h.1
  have taken := State.acceptLine_panel (n := n) (lines.getLsbD n) zoneFirst s
  have breaks := Standing.breaks_accepts h
  unfold State.lineBeat
  dsimp only at taken ⊢
  rw [if_neg used, if_pos (State.lineAccepts_iff.mpr h)]
  generalize s.acceptLine n (lines.getLsbD n) zoneFirst = t at taken
  have own : t.iou.lines[n] = s.panel.accepted n (sampledActive s.mu.tables.line[n] (lines.getLsbD n)) := by
    refine (congrArg (fun p : Standing => p.iou.lines[n]) taken).trans ?_
    split
    · exact (Standing.setLine_lines n n _ s.panel).trans (if_pos rfl)
    · exact (Standing.setLine_lines n n _ s.panel).trans (if_pos rfl)
  rw [State.lockout_struck h own, taken, Standing.lineTurn, Standing.lineStruck, Standing.not_newlyStuck h,
    if_neg Bool.false_ne_true]
  by_cases broken : (s.mu.tables.line[n]).role = .beam ∧ sampledActive s.mu.tables.line[n] (lines.getLsbD n) = true
  · have last := Standing.setLine_setLine n (s.panel.accepted n (sampledActive s.mu.tables.line[n] (lines.getLsbD n)))
      (s.panel.lineAfter lines n) s.panel
    rw [if_pos broken, if_pos (breaks.mpr broken), ← last]
    rfl
  · rw [if_neg broken, if_neg fun b => broken (breaks.mp b), Standing.setLine_setLine]

/-- A line whose sample accepts nothing, its debounce counted: the counts that follow see the same line. -/
theorem Standing.setLine_debounce (k : Nat) (n : LineId) (p : Standing) :
    let q := p.setLine n { p.iou.lines[n] with debounce := k }
    q.holds n = p.holds n ∧ q.sticks n = p.sticks n ∧ q.heldRec n = { p.heldRec n with debounce := k } := by
  have own : (p.setLine n { p.iou.lines[n] with debounce := k }).iou.lines[n] = { p.iou.lines[n] with debounce := k } :=
    (Standing.setLine_lines ..).trans (if_pos rfl)
  have holds : (p.setLine n { p.iou.lines[n] with debounce := k }).holds n = p.holds n := by
    rw [Standing.holds, own]
    rfl
  have sticks : (p.setLine n { p.iou.lines[n] with debounce := k }).sticks n = p.sticks n := by
    rw [Standing.sticks, holds, own]
    rfl
  refine ⟨holds, sticks, ?_⟩
  rw [Standing.heldRec, holds, sticks, own]
  rfl

theorem Standing.newlyStuck_counts (used : (p.mu.tables.line[n]).role ≠ .unused) (h : ¬p.accepts lines n) :
    p.newlyStuck lines n = p.sticks n := by
  rw [Standing.newlyStuck, Standing.lineAfter_counts used h]
  simp only [Standing.heldRec, Standing.sticks, Standing.holds]
  cases (p.iou.lines[n]).stuck <;> simp

theorem Standing.breaks_counts (used : (p.mu.tables.line[n]).role ≠ .unused) (h : ¬p.accepts lines n) :
    p.breaks lines n = false := by
  rw [Standing.breaks, Standing.lineAfter_counts used h]
  simp only [Standing.heldRec]
  cases (p.iou.lines[n]).accepted <;> simp

theorem State.heldBeat_debounce (f : LineRt → Nat) (n : LineId) (s : State) :
    ((s.onLine n fun x => { x with debounce := f x }).heldBeat n).panel =
      if s.panel.sticks n then
        (s.panel.setLine n { s.panel.heldRec n with debounce := f s.iou.lines[n] }).raiseStuck n
      else s.panel.setLine n { s.panel.heldRec n with debounce := f s.iou.lines[n] } := by
  obtain ⟨-, sticks, counted⟩ := Standing.setLine_debounce (f s.iou.lines[n]) n s.panel
  have own : (s.onLine n fun x => { x with debounce := f x }).panel =
      s.panel.setLine n { s.panel.iou.lines[n] with debounce := f s.iou.lines[n] } := State.onLine_panel ..
  rw [State.heldBeat_panel, own, sticks, counted, Standing.setLine_setLine]

theorem State.lineBeat_counts (zoneFirst : Bool) (used : (s.mu.tables.line[n]).role ≠ .unused)
    (h : ¬s.panel.accepts lines n) : (s.lineBeat lines zoneFirst n).panel = s.panel.lineTurn lines n := by
  unfold State.lineBeat
  dsimp only
  rw [if_neg used, if_neg fun a => h (State.lineAccepts_iff.mp a), State.lockoutBeat_panel]
  have held := State.heldBeat_debounce (fun x => countAfter x.accepted x.debounce
    (sampledActive s.mu.tables.line[n] (lines.getLsbD n))) n s
  generalize State.heldBeat n _ = t at held
  have own : t.iou.lines[n] = { s.panel.heldRec n with
      debounce := countAfter (s.iou.lines[n]).accepted (s.iou.lines[n]).debounce
        (sampledActive s.mu.tables.line[n] (lines.getLsbD n)) } := by
    refine (congrArg (fun p : Standing => p.iou.lines[n]) held).trans ?_
    split
    · exact (Standing.setLine_lines n n _ s.panel).trans (if_pos rfl)
    · exact (Standing.setLine_lines n n _ s.panel).trans (if_pos rfl)
  rw [own, Standing.lineTurn, Standing.breaks_counts used h, if_neg Bool.false_ne_true, Standing.lineStruck,
    Standing.newlyStuck_counts used h, Standing.lineAfter_counts used h, held]
  split
  · exact congrArg (Standing.raiseStuck n) (Standing.setLine_setLine ..)
  · exact Standing.setLine_setLine ..

theorem State.lineBeat_panel (zoneFirst : Bool) (n : LineId) (s : State) :
    (s.lineBeat lines zoneFirst n).panel = s.panel.lineTurn lines n := by
  by_cases unused : (s.mu.tables.line[n]).role = .unused
  · have kept := Standing.lineAfter_unused (lines := lines) (p := s.panel) unused
    have unbroken : s.panel.breaks lines n = false := by
      rw [Standing.breaks, show (s.panel.mu.tables.line[n]).role = .unused from unused]
      rfl
    have free : s.panel.newlyStuck lines n = false := by rw [Standing.newlyStuck, kept, Bool.and_not_self]
    rw [Standing.lineTurn, Standing.lineStruck, unbroken, free, kept, if_neg Bool.false_ne_true, if_neg Bool.false_ne_true,
      Standing.setLine_self]
    unfold State.lineBeat
    exact congrArg State.panel (if_pos unused)
  · by_cases h : s.panel.accepts lines n
    · exact State.lineBeat_accepts zoneFirst h
    · exact State.lineBeat_counts zoneFirst unused h

end Sys2Proof.Machine
end

section
/-! PROOF. The IOU's beat, and what runs out on it (R25, R27 to R29, R35 to R39). -/

namespace Sys2Proof.Machine

variable {s t : State} {p q : Standing} {n m : LineId} {z y : ZoneId} {o : ZoneOcc} {lines : BitVec 16}

/-! ### All lines -/

/-- What no line's turn of the beat writes on a panel. -/
def Standing.beyondLines (p : Standing) : Standing :=
  { p with
    iou := { p.iou with lines := Vector.replicate 16 {}, zones := Vector.replicate 4 {} }
    stuckLines := 0, lineStuck := false }

/-- A panel whose lines of a list have taken the beat. -/
structure LinesBeaten (lines : BitVec 16) (p : Standing) (l : List LineId) (q : Standing) : Prop where
  own : ∀ m ∈ l, q.iou.lines[m] = p.lineAfter lines m
  others : ∀ m ∉ l, q.iou.lines[m] = p.iou.lines[m]
  broken : ∀ z, (∃ m ∈ l, p.breaks lines m = true ∧ lineZone p.mu.tables.line[m] = z) →
    q.iou.zones[z] = (p.iou.zones[z]).broken p.mu.tables.unit.linger
  unbroken : ∀ z, (¬∃ m ∈ l, p.breaks lines m = true ∧ lineZone p.mu.tables.line[m] = z) →
    q.iou.zones[z] = p.iou.zones[z]
  stuckLines : ∀ m : LineId, q.stuckLines.getLsbD m = true ↔
    p.stuckLines.getLsbD m = true ∨ m ∈ l ∧ p.newlyStuck lines m = true
  lineStuck : q.lineStuck = true ↔ p.lineStuck = true ∨ ∃ m ∈ l, p.newlyStuck lines m = true
  rest : q.beyondLines = p.beyondLines

theorem LinesBeaten.start (lines : BitVec 16) (p : Standing) : LinesBeaten lines p [] p where
  own := by simp
  others _ _ := rfl
  broken := by simp
  unbroken _ _ := rfl
  stuckLines := by simp
  lineStuck := by simp
  rest := rfl

theorem Standing.lineTurn_beyond (lines : BitVec 16) (n : LineId) (p : Standing) :
    (p.lineTurn lines n).beyondLines = p.beyondLines := by
  unfold Standing.lineTurn Standing.lineStruck
  (repeat' split) <;> rfl

theorem Standing.lineTurn_lines (lines : BitVec 16) (n m : LineId) (p : Standing) :
    (p.lineTurn lines n).iou.lines[m] = if m = n then p.lineAfter lines n else p.iou.lines[m] := by
  refine Eq.trans ?_ (Standing.setLine_lines n m (p.lineAfter lines n) p)
  unfold Standing.lineTurn Standing.lineStruck
  (repeat' split) <;> rfl

theorem Standing.lineTurn_zones (lines : BitVec 16) (n : LineId) (z : ZoneId) (p : Standing) :
    (p.lineTurn lines n).iou.zones[z] = if p.breaks lines n = true ∧ lineZone p.mu.tables.line[n] = z then
      (p.iou.zones[z]).broken p.mu.tables.unit.linger else p.iou.zones[z] := by
  have struck : (p.lineStruck lines n).iou.zones = p.iou.zones := by
    unfold Standing.lineStruck
    split <;> rfl
  unfold Standing.lineTurn
  by_cases broken : p.breaks lines n = true
  · rw [if_pos broken, Standing.setZone_zones, struck]
    by_cases e : lineZone p.mu.tables.line[n] = z
    · subst e
      rw [if_pos rfl, if_pos ⟨broken, rfl⟩]
    · rw [if_neg fun h => e h.symm, if_neg fun h => e h.2]
  · rw [if_neg broken, if_neg fun h => broken h.1, struck]

theorem Standing.lineTurn_stuck (lines : BitVec 16) (n : LineId) (p : Standing) :
    (∀ m : LineId, (p.lineTurn lines n).stuckLines.getLsbD m = true ↔
      p.stuckLines.getLsbD m = true ∨ m = n ∧ p.newlyStuck lines n = true) ∧
    ((p.lineTurn lines n).lineStuck = true ↔ p.lineStuck = true ∨ p.newlyStuck lines n = true) := by
  have silent : (p.lineTurn lines n).stuckLines = (p.lineStruck lines n).stuckLines ∧
      (p.lineTurn lines n).lineStuck = (p.lineStruck lines n).lineStuck := by
    unfold Standing.lineTurn
    split <;> exact ⟨rfl, rfl⟩
  rw [silent.1, silent.2, Standing.lineStruck]
  by_cases stuck : p.newlyStuck lines n = true
  · rw [if_pos stuck]
    refine ⟨fun m => ?_, by simp [Standing.raiseStuck, stuck]⟩
    rw [Standing.raiseStuck, withMember, BitVec.getLsbD_or, getLsbD_single]
    simp [stuck, Standing.setLine]
  · rw [if_neg stuck]
    simp [stuck, Standing.setLine]

/-- Another line takes the beat. -/
theorem LinesBeaten.turn {l : List LineId} (h : LinesBeaten lines p l q) (fresh : n ∉ l) :
    LinesBeaten lines p (l ++ [n]) (q.lineTurn lines n) := by
  have mu : q.mu = p.mu := (congrArg Standing.mu h.rest :)
  have stopped : q.iou.showStopped = p.iou.showStopped := (congrArg (fun x : Standing => x.iou.showStopped) h.rest :)
  have mode : q.iou.mode = p.iou.mode := (congrArg (fun x : Standing => x.iou.mode) h.rest :)
  have own := h.others n fresh
  have after : q.lineAfter lines n = p.lineAfter lines n := by
    simp only [Standing.lineAfter, Standing.fires, mu, stopped, mode, own]
  have breaks : q.breaks lines n = p.breaks lines n := by rw [Standing.breaks, Standing.breaks, after, own, mu]
  have stuck : q.newlyStuck lines n = p.newlyStuck lines n := by rw [Standing.newlyStuck, Standing.newlyStuck, after, own]
  obtain ⟨turned, raised⟩ := Standing.lineTurn_stuck lines n q
  rw [stuck] at turned raised
  have zones := Standing.lineTurn_zones lines n
  constructor
  case own =>
    intro m hm
    rw [Standing.lineTurn_lines, after]
    by_cases e : m = n
    · rw [if_pos e, e]
    · rw [if_neg e]
      exact h.own m (by simpa [e] using hm)
  case others =>
    intro m hm
    rw [Standing.lineTurn_lines, if_neg (by simp_all)]
    exact h.others m (by simp_all)
  case broken =>
    rintro z ⟨m, hm, broken, e⟩
    rw [zones, mu, breaks]
    by_cases before : ∃ m ∈ l, p.breaks lines m = true ∧ lineZone p.mu.tables.line[m] = z
    · rw [h.broken z before, ZoneOcc.broken_broken, ite_self]
    · have last : m = n := by
        by_contra other
        exact before ⟨m, by simpa [other] using hm, broken, e⟩
      subst last
      rw [if_pos ⟨broken, e⟩, h.unbroken z before]
  case unbroken =>
    intro z none
    rw [zones, mu, breaks, if_neg fun b => none ⟨n, by simp, b⟩]
    exact h.unbroken z fun ⟨m, hm, b⟩ => none ⟨m, by simp [hm], b⟩
  case stuckLines =>
    intro m
    rw [turned, h.stuckLines]
    simp only [List.mem_append, List.mem_singleton]
    grind
  case lineStuck =>
    rw [raised, h.lineStuck]
    simp only [List.mem_append, List.mem_singleton]
    grind
  case rest => rw [Standing.lineTurn_beyond, h.rest]

theorem LinesBeaten.foldl (p : Standing) (l : List LineId) (nodup : l.Nodup) :
    LinesBeaten lines p l (l.foldl (fun q n => q.lineTurn lines n) p) := by
  induction l using List.reverseRecOn with
  | nil => exact LinesBeaten.start lines p
  | append_singleton l n ih =>
    rw [List.foldl_concat]
    obtain ⟨rest, -, apart⟩ := List.nodup_append.mp nodup
    exact (ih rest).turn fun h => apart n h n (by simp) rfl

/-- The lines take a beat in turn. -/
theorem State.lines_taken (lines : BitVec 16) (zoneFirst : Bool) (s : State) :
    LinesBeaten lines s.panel (List.finRange 16) (forEach 16 (State.lineBeat lines zoneFirst) s).panel := by
  have folded : ((List.finRange 16).foldl (fun q n => q.lineTurn lines n) s.panel) =
      (forEach 16 (State.lineBeat lines zoneFirst) s).panel :=
    List.foldl_hom State.panel fun s n => (State.lineBeat_panel zoneFirst n s).symm
  rw [← folded]
  exact LinesBeaten.foldl s.panel _ (List.nodup_finRange 16)

/-! ### All zones -/

/-- A PRESENCE line of a zone is accepted active (R36). -/
def Standing.present (p : Standing) (z : ZoneId) : Bool := (List.finRange 16).any fun m =>
  (p.mu.tables.line[m]).role == .presence && (p.mu.tables.line[m]).zone == z.val && (p.iou.lines[m]).accepted

theorem State.present_eq (z : ZoneId) (s : State) : s.isPresentIn z = s.panel.present z := rfl

theorem Standing.present_iff : p.present z = true ↔ ∃ m : LineId,
    (p.mu.tables.line[m]).role = .presence ∧ (p.mu.tables.line[m]).zone = z.val ∧ (p.iou.lines[m]).accepted = true := by
  simp [Standing.present, and_assoc]

/-- A zone's occupancy once it has been judged (R36). -/
def ZoneOcc.judged (linger : Nat) (present : Bool) (o : ZoneOcc) : ZoneOcc :=
  if present then (if o.kind = .occupied then o else { kind := .occupied, count := 0 })
  else if o.kind = .occupied then lingerOcc linger else o

/-- A zone's occupancy with its linger count taken (R37). -/
def ZoneOcc.counted (o : ZoneOcc) : ZoneOcc :=
  if o.kind = .linger then (if o.count ≤ 1 then {} else { o with count := o.count - 1 }) else o

theorem State.judgeZone_panel (z : ZoneId) (s : State) : (s.judgeZone z).panel =
    s.panel.setZone z ((s.iou.zones[z]).judged s.mu.tables.unit.linger (s.isPresentIn z)) := by
  have kept := (Standing.setZone_self z s.panel).symm
  cases present : s.isPresentIn z with
  | true =>
    rw [State.judgeZone_held present, ZoneOcc.judged, if_pos rfl]
    split
    · exact kept
    · exact State.setOcc_panel ..
  | false =>
    rw [State.judgeZone_unheld present, ZoneOcc.judged, if_neg Bool.false_ne_true]
    split
    · exact State.setOcc_panel ..
    · exact kept

theorem State.lingerBeat_panel (z : ZoneId) (s : State) :
    (s.lingerBeat z).panel = s.panel.setZone z (s.iou.zones[z]).counted := by
  have kept := (Standing.setZone_self z s.panel).symm
  unfold State.lingerBeat ZoneOcc.counted
  dsimp only
  split
  · split
    · exact State.setOcc_panel ..
    · exact State.setOcc_panel ..
  · exact kept

theorem Standing.setZone_setZone (z : ZoneId) (o o' : ZoneOcc) (p : Standing) :
    (p.setZone z o).setZone z o' = p.setZone z o' := by
  simp only [Standing.setZone, Vector.set_set]

/-- A zone's occupancy after its turn of a beat, its linger count taken or not. -/
def Standing.zoneAfter (counts : ZoneId → Bool) (p : Standing) (z : ZoneId) : ZoneOcc :=
  if counts z then ((p.iou.zones[z]).judged p.mu.tables.unit.linger (p.present z)).counted
  else (p.iou.zones[z]).judged p.mu.tables.unit.linger (p.present z)

/-- A panel whose zone has taken the beat. -/
def Standing.zoneTurn (counts : ZoneId → Bool) (z : ZoneId) (p : Standing) : Standing :=
  p.setZone z (p.zoneAfter counts z)

/-- The zones that count down on a beat (R37). -/
def State.counting (before : State) (lines : BitVec 16) (z : ZoneId) : Bool :=
  decide ((before.iou.zones[z]).kind = .linger) && !before.breaksOn lines z

theorem State.zoneBeat_panel (before : State) (z : ZoneId) (s : State) :
    (State.zoneBeat before lines z s).panel = s.panel.zoneTurn (before.counting lines) z := by
  have judged := State.judgeZone_panel z s
  have counts : before.counting lines z = true ↔
      (before.iou.zones[z]).kind = .linger ∧ (!before.breaksOn lines z) = true := by
    rw [State.counting, Bool.and_eq_true, decide_eq_true_iff]
  rw [State.present_eq] at judged
  unfold State.zoneBeat
  dsimp only
  rw [Standing.zoneTurn, Standing.zoneAfter]
  simp only [counts]
  generalize s.judgeZone z = t at judged
  split
  · have own : t.iou.zones[z] = (s.iou.zones[z]).judged s.mu.tables.unit.linger (s.panel.present z) :=
      (congrArg (fun p : Standing => p.iou.zones[z]) judged).trans ((Standing.setZone_zones z z _ s.panel).trans (if_pos rfl))
    rw [State.lingerBeat_panel, judged, own, Standing.setZone_setZone]
    rfl
  · exact judged

/-- A panel with every zone blank. -/
def Standing.beyondZones (p : Standing) : Standing := { p with iou := { p.iou with zones := Vector.replicate 4 {} } }

/-- The zones take a beat in turn. -/
theorem State.zones_taken (before : State) (lines : BitVec 16) (s : State) :
    (forEach 4 (State.zoneBeat before lines) s).panel.beyondZones = s.panel.beyondZones ∧
    ∀ z : ZoneId, (forEach 4 (State.zoneBeat before lines) s).iou.zones[z] =
      s.panel.zoneAfter (before.counting lines) z := by
  have folded : forEach 4 (Standing.zoneTurn (before.counting lines)) s.panel =
      (forEach 4 (State.zoneBeat before lines) s).panel :=
    List.foldl_hom State.panel fun s z => (State.zoneBeat_panel before z s).symm
  generalize forEach 4 (State.zoneBeat before lines) s = t at folded
  have frame := forEach_same (f := Standing.zoneTurn (before.counting lines)) (g := Standing.beyondZones)
    (fun z p => rfl) s.panel
  rw [folded] at frame
  refine ⟨frame, fun z => ?_⟩
  refine (congrArg (fun p : Standing => p.iou.zones[z]) folded).symm.trans ?_
  refine forEach_at (i := z) (view := fun p : Standing => p.iou.zones[z]) (g := fun p => p.zoneAfter (before.counting lines) z)
    (fun y p ne => ?_) (fun p => ?_) (fun y p ne => ?_) s.panel
  · exact (Standing.setZone_zones ..).trans (if_neg ne.symm)
  · exact (Standing.setZone_zones ..).trans (if_pos rfl)
  · have kept : (p.zoneTurn (before.counting lines) y).iou.zones[z] = p.iou.zones[z] :=
      (Standing.setZone_zones ..).trans (if_neg ne.symm)
    rw [Standing.zoneAfter, kept]
    rfl

/-! ### The beat -/

theorem Standing.accepts_of_breaks (h : p.breaks lines n = true) : p.accepts lines n := by
  by_contra rejects
  by_cases used : (p.mu.tables.line[n]).role = .unused
  · rw [Standing.breaks, used] at h
    cases h
  · rw [Standing.breaks_counts used rejects] at h
    cases h

theorem State.breaksOn_iff : s.breaksOn lines z = true ↔
    ∃ m ∈ List.finRange 16, s.panel.breaks lines m = true ∧ lineZone s.mu.tables.line[m] = z := by
  unfold State.breaksOn
  rw [List.any_eq_true]
  refine exists_congr fun m => and_congr_right fun _ => ?_
  simp only [Bool.and_eq_true, beq_iff_eq, State.lineAccepts_iff]
  constructor
  · rintro ⟨⟨⟨role, zone⟩, accepts⟩, active⟩
    exact ⟨(Standing.breaks_accepts accepts).mpr ⟨role, active⟩, zone⟩
  · rintro ⟨breaks, zone⟩
    have accepts := Standing.accepts_of_breaks breaks
    obtain ⟨role, active⟩ := (Standing.breaks_accepts accepts).mp breaks
    exact ⟨⟨⟨role, zone⟩, accepts⟩, active⟩

/-- A zone's turn of the beat is the one that R36 and R37 say. -/
theorem zoneAfterBeat_turn (linger : Nat) (present broken : Bool) (o : ZoneOcc) {P B : Prop} (hP : present = true ↔ P)
    (hB : broken = true ↔ B) :
    let struck := (if broken then o.broken linger else o).judged linger present
    zoneAfterBeat linger P B o (if o.kind = .linger ∧ broken = false then struck.counted else struck) := by
  obtain ⟨kind, count⟩ := o
  rw [← hP, ← hB]
  unfold zoneAfterBeat
  cases present
  · cases broken
    · cases kind
      · simp [ZoneOcc.judged]
      · simp [ZoneOcc.judged, lingerOcc]
      · simp [ZoneOcc.judged, ZoneOcc.counted]
    · cases kind
      · by_cases some : 0 < linger
        · simp [ZoneOcc.judged, ZoneOcc.broken, lingerOcc, some]
        · simp [ZoneOcc.judged, ZoneOcc.broken, lingerOcc, some]
      · simp [ZoneOcc.judged, ZoneOcc.broken, lingerOcc]
      · simp [ZoneOcc.judged, ZoneOcc.broken]
  · cases broken
    · cases kind
      · simp [ZoneOcc.judged]
      · simp [ZoneOcc.judged]
      · simp [ZoneOcc.judged, ZoneOcc.counted]
    · cases kind
      · by_cases some : 0 < linger
        · simp [ZoneOcc.judged, ZoneOcc.broken, lingerOcc, some]
        · simp [ZoneOcc.judged, ZoneOcc.broken, lingerOcc, some]
      · simp [ZoneOcc.judged, ZoneOcc.broken]
      · simp [ZoneOcc.judged, ZoneOcc.broken]

/-- What the lines and zones of a panel have become on a beat. -/
structure BeatTaken (lines : BitVec 16) (p q : Standing) : Prop where
  line : ∀ n : LineId, q.iou.lines[n] = p.lineAfter lines n
  stuckLines : ∀ n : LineId, q.stuckLines.getLsbD n = (p.stuckLines.getLsbD n || p.newlyStuck lines n)
  lineStuck : q.lineStuck = true ↔ p.lineStuck = true ∨ ∃ n, p.newlyStuck lines n = true
  zone : ∀ z : ZoneId, zoneAfterBeat p.mu.tables.unit.linger
    (∃ n : LineId, (p.mu.tables.line[n]).role = .presence ∧ (p.mu.tables.line[n]).zone = z.val ∧
      (q.iou.lines[n]).accepted = true)
    (∃ n : LineId, (p.mu.tables.line[n]).role = .beam ∧ Fin.ofNat 4 (p.mu.tables.line[n]).zone = z ∧
      (p.iou.lines[n]).accepted = false ∧ (q.iou.lines[n]).accepted = true) p.iou.zones[z] q.iou.zones[z]
  rest : q.beyondLines = p.beyondLines

/-- The lines and the zones take a beat. -/
theorem State.lineAndZoneBeats_taken (b : BeatIn) (s : State) :
    BeatTaken b.lines s.panel (s.lineAndZoneBeats b).panel := by
  have struck := State.lines_taken b.lines b.zoneFirst s
  obtain ⟨frame, zones⟩ := State.zones_taken s b.lines (forEach 16 (State.lineBeat b.lines b.zoneFirst) s)
  rw [State.lineAndZoneBeats]
  generalize forEach 16 (State.lineBeat b.lines b.zoneFirst) s = u at struck frame zones ⊢
  generalize forEach 4 (State.zoneBeat s b.lines) u = t at frame zones
  have lines : t.iou.lines = u.iou.lines := (congrArg (fun x : Standing => x.iou.lines) frame :)
  have mu : u.mu = s.mu := (congrArg Standing.mu struck.rest :)
  have stuckLines : t.sli.stuckLines = u.sli.stuckLines := (congrArg Standing.stuckLines frame :)
  have lineStuck : t.sli.lineStuck = u.sli.lineStuck := (congrArg Standing.lineStuck frame :)
  have own (n : LineId) : t.iou.lines[n] = s.panel.lineAfter b.lines n :=
    (congrArg (fun v : Vector LineRt 16 => v[n]) lines).trans (struck.own n (List.mem_finRange n))
  constructor
  case line => exact own
  case stuckLines =>
    intro n
    refine (congrArg (fun v : BitVec 16 => v.getLsbD n) stuckLines).trans (Bool.eq_iff_iff.mpr ?_)
    rw [Bool.or_eq_true]
    exact (struck.stuckLines n).trans (by simp)
  case lineStuck =>
    exact (Bool.eq_iff_iff.mp lineStuck).trans (struck.lineStuck.trans (by simp))
  case zone =>
    intro z
    have present : u.panel.present z = true ↔ ∃ n : LineId, (s.mu.tables.line[n]).role = .presence ∧
        (s.mu.tables.line[n]).zone = z.val ∧ (t.iou.lines[n]).accepted = true := by
      rw [Standing.present_iff, lines, ← mu]
      rfl
    have broken : s.breaksOn b.lines z = true ↔ ∃ n : LineId, (s.mu.tables.line[n]).role = .beam ∧
        Fin.ofNat 4 (s.mu.tables.line[n]).zone = z ∧ (s.iou.lines[n]).accepted = false ∧
        (t.iou.lines[n]).accepted = true := by
      simp only [State.breaksOn_iff, List.mem_finRange, true_and, own, Standing.breaks, Bool.and_eq_true, beq_iff_eq,
        Bool.not_eq_true']
      refine exists_congr fun n => ?_
      exact ⟨fun ⟨⟨⟨r, a⟩, y⟩, e⟩ => ⟨r, e, a, y⟩, fun ⟨r, e, a, y⟩ => ⟨⟨⟨r, a⟩, y⟩, e⟩⟩
    have left : u.iou.zones[z] = if s.breaksOn b.lines z = true then (s.iou.zones[z]).broken s.mu.tables.unit.linger
        else s.iou.zones[z] := by
      split
      · next b => exact struck.broken z (State.breaksOn_iff.mp b)
      · next b => exact struck.unbroken z fun h => b (State.breaksOn_iff.mpr h)
    have counts : s.counting b.lines z = true ↔ (s.iou.zones[z]).kind = .linger ∧ s.breaksOn b.lines z = false := by
      simp [State.counting]
    have turned := zones z
    rw [Standing.zoneAfter, show u.panel.iou.zones[z] = u.iou.zones[z] from rfl, left,
      show u.panel.mu = s.mu from mu] at turned
    simp only [counts] at turned
    refine Eq.mpr ?_ (zoneAfterBeat_turn s.mu.tables.unit.linger (u.panel.present z) (s.breaksOn b.lines z) s.iou.zones[z]
      present broken)
    exact congrArg (zoneAfterBeat _ _ _ _) turned
  case rest =>
    have below : t.panel.beyondLines = u.panel.beyondLines := (congrArg Standing.beyondLines frame :)
    exact below.trans struck.rest

/-! ### The show-stop line -/

/-- A panel with what a stopped show and the show-stop line write taken out. -/
def Standing.beyondStop (p : Standing) : Standing :=
  { p with
    iou := { p.iou with stopAccepted := false, stopDebounce := 0, showStopped := false }
    sck := { p.sck with showStopped := false, showNews := false } }

theorem State.departAll_standing (test : Request → Bool) (d : Departure) (s : State) :
    (s.departAll test d).standing = s.standing :=
  foldl_same (g := State.standing) (fun _ r => State.depart_standing r d) _ s

theorem State.cancelAllCues_standing (s : State) : s.cancelAllCues.standing = s.standing :=
  forEach_same (g := State.standing) (fun k _ => State.cancelCue_standing k .showStop) s

theorem State.stopShow_standing (s : State) : s.stopShow.standing.beyondStop = s.standing.beyondStop := by
  unfold State.stopShow
  dsimp only
  split
  · rfl
  · have ended := forEach_same (f := fun k => State.freeSlot k .showStop) (g := State.standing)
      (fun k _ => State.freeSlot_standing k .showStop) ((s.setShow true).departAll (fun _ => true) .showStop)
    rw [State.judgeIndicators_standing, State.judgeAxes_standing, State.cancelAllCues_standing, State.onLco_standing, ended,
      State.departAll_standing, State.setShow, State.askStatus_standing]
    rfl

theorem State.stopLineBeat_standing (active : Bool) (s : State) :
    (s.stopLineBeat active).standing.beyondStop = s.standing.beyondStop := by
  unfold State.stopLineBeat State.acceptStop
  dsimp only
  split
  · split
    · exact State.stopShow_standing _
    · rfl
  · rfl

/-- The show-stop line's new level is accepted on a beat (R39). -/
def State.stopChanges (s : State) (active : Bool) : Prop := active ≠ s.iou.stopAccepted ∧ 2 ≤ s.iou.stopDebounce + 1

theorem State.stopAccepts_iff {active : Bool} : s.stopAccepts active = true ↔ s.stopChanges active := by
  rw [State.stopAccepts, acceptsNow, Bool.and_eq_true, bne_iff_ne, decide_eq_true_iff]
  rfl

/-- What a beat of the show-stop line brings about in the IOU (R39). -/
structure StopTaken (active : Bool) (s t : State) : Prop where
  accepted : s.stopChanges active → t.iou.stopAccepted = active ∧ t.iou.stopDebounce = 0
  kept : ¬s.stopChanges active → t.iou.stopAccepted = s.iou.stopAccepted ∧ t.iou.showStopped = s.iou.showStopped ∧
    t.iou.stopDebounce = if active = s.iou.stopAccepted then 0 else s.iou.stopDebounce + 1

theorem State.stopLineBeat_taken (active : Bool) (s : State) : StopTaken active s (s.stopLineBeat active) := by
  rw [State.stopLineBeat]
  refine ⟨fun h => ?_, fun h => ?_⟩
  · rw [if_pos (State.stopAccepts_iff.mpr h), State.acceptStop]
    cases active <;> simp
  · rw [if_neg fun a => h (State.stopAccepts_iff.mp a)]
    exact ⟨rfl, rfl, rfl⟩

/-- An IOU's beat as what the lines and zones do, beside the show-stop line. -/
theorem State.iouBeat_taken (b : BeatIn) (s : State) :
    ∃ p q : Standing, BeatTaken b.lines p q ∧ p.beyondStop = s.panel.beyondStop ∧
      q.beyondStop = (s.iouBeat b).panel.beyondStop ∧
      p.iou.showStopped = (if b.stopFirst then (s.iouBeat b).iou.showStopped else s.iou.showStopped) ∧
      StopTaken b.stopActive s (s.iouBeat b) := by
  rw [State.iouBeat_eq]
  cases b.stopFirst with
  | true =>
    have taken := State.lineAndZoneBeats_taken b (s.stopLineBeat b.stopActive)
    have stop := State.stopLineBeat_taken b.stopActive s
    have beyond := congrArg Standing.panel (State.stopLineBeat_standing b.stopActive s)
    simp only [if_true]
    generalize s.stopLineBeat b.stopActive = u at taken stop beyond ⊢
    generalize u.lineAndZoneBeats b = t at taken
    have accepted : t.iou.stopAccepted = u.iou.stopAccepted :=
      (congrArg (fun x : Standing => x.iou.stopAccepted) taken.rest :)
    have debounce : t.iou.stopDebounce = u.iou.stopDebounce :=
      (congrArg (fun x : Standing => x.iou.stopDebounce) taken.rest :)
    have stopped : t.iou.showStopped = u.iou.showStopped :=
      (congrArg (fun x : Standing => x.iou.showStopped) taken.rest :)
    refine ⟨u.panel, t.panel, taken, beyond, rfl, stopped.symm, ?_, ?_⟩
    · rw [accepted, debounce]
      exact stop.accepted
    · rw [accepted, debounce, stopped]
      exact stop.kept
  | false =>
    have taken := State.lineAndZoneBeats_taken b s
    have stop := State.stopLineBeat_taken b.stopActive (s.lineAndZoneBeats b)
    have beyond := congrArg Standing.panel (State.stopLineBeat_standing b.stopActive (s.lineAndZoneBeats b))
    simp only [Bool.false_eq_true, if_false]
    generalize s.lineAndZoneBeats b = u at taken stop beyond ⊢
    generalize u.stopLineBeat b.stopActive = t at stop beyond ⊢
    have accepted : u.iou.stopAccepted = s.iou.stopAccepted :=
      (congrArg (fun x : Standing => x.iou.stopAccepted) taken.rest :)
    have debounce : u.iou.stopDebounce = s.iou.stopDebounce :=
      (congrArg (fun x : Standing => x.iou.stopDebounce) taken.rest :)
    have stopped : u.iou.showStopped = s.iou.showStopped :=
      (congrArg (fun x : Standing => x.iou.showStopped) taken.rest :)
    obtain ⟨took, kept⟩ := stop
    rw [State.stopChanges, accepted, debounce] at took kept
    rw [stopped] at kept
    exact ⟨s.panel, u.panel, taken, rfl, beyond.symm, rfl, took, kept⟩

/-! ### What runs out -/

theorem State.raiseLineStuck_eq (n : LineId) (s : State) : s.raiseLineStuck n =
    ({ s with sli := { s.sli with lineStuck := true, stuckLines := s.sli.stuckLines ||| single n } } : State).askStatus :=
  rfl

/-- A line of a role with a held limit becomes stuck (R28, R29). -/
theorem State.heldBeat_stuck (accepted : (s.iou.lines[n]).accepted = true) (free : (s.iou.lines[n]).stuck = false)
    (role : (s.mu.tables.line[n]).role = .button ∨ (s.mu.tables.line[n]).role = .presence)
    (due : s.panel.limit n ≤ (s.iou.lines[n]).held + 1) :
    s.heldBeat n = (s.onLine n fun x => { x with held := x.held + 1, stuck := true }).raiseLineStuck n := by
  have holds : s.panel.holds n = true := by
    change ((s.iou.lines[n]).accepted && !(s.iou.lines[n]).stuck &&
      ((s.mu.tables.line[n]).role == .button || (s.mu.tables.line[n]).role == .presence)) = true
    rw [accepted, free]
    rcases role with role | role
    · rw [role]
      rfl
    · rw [role]
      rfl
  exact (State.heldBeat_holds holds).trans (if_pos due)

theorem State.stuckDue_of {role : Role} {limit : Nat} (accepted : (s.iou.lines[n]).accepted = true)
    (free : (s.iou.lines[n]).stuck = false) (is : (s.mu.tables.line[n]).role = role)
    (due : limit ≤ (s.iou.lines[n]).held + 1) : s.stuckDue n role limit = true := by
  simp only [State.stuckDue, is, accepted, free, decide_eq_true due, beq_self_eq_true]
  rfl

theorem exec_buttonStuck (accepted : (s.iou.lines[n]).accepted = true) (free : (s.iou.lines[n]).stuck = false)
    (role : (s.mu.tables.line[n]).role = .button) (due : s.mu.tables.unit.buttonStuck ≤ (s.iou.lines[n]).held + 1) :
    exec (.buttonStuck n) s =
      .next ((s.onLine n fun x => { x with held := x.held + 1, stuck := true }).raiseLineStuck n) := by
  have limit : s.panel.limit n = s.mu.tables.unit.buttonStuck := if_pos role
  rw [show exec (.buttonStuck n) s = execButtonStuck n s from rfl, execButtonStuck,
    if_pos (State.stuckDue_of accepted free role due), State.heldBeat_stuck accepted free (.inl role) (limit ▸ due)]

theorem exec_presenceStuck (accepted : (s.iou.lines[n]).accepted = true) (free : (s.iou.lines[n]).stuck = false)
    (role : (s.mu.tables.line[n]).role = .presence)
    (due : s.mu.tables.unit.presenceStuck ≤ (s.iou.lines[n]).held + 1) :
    exec (.presenceStuck n) s =
      .next ((s.onLine n fun x => { x with held := x.held + 1, stuck := true }).raiseLineStuck n) := by
  have limit : s.panel.limit n = s.mu.tables.unit.presenceStuck := if_neg fun b => Role.noConfusion (b.symm.trans role)
  rw [show exec (.presenceStuck n) s = execPresenceStuck n s from rfl, execPresenceStuck,
    if_pos (State.stuckDue_of accepted free role due), State.heldBeat_stuck accepted free (.inr role) (limit ▸ due)]

theorem exec_lockoutExpiry (h : (s.iou.lines[n]).lockout = 1) :
    exec (.lockoutExpiry n) s = .next (s.onLine n fun x => { x with lockout := x.lockout - 1 }).judgeIndicators := by
  rw [show exec (.lockoutExpiry n) s = execLockoutExpiry n s from rfl, execLockoutExpiry, if_pos h, State.lockoutBeat]
  dsimp only
  rw [if_neg (by omega), if_pos h]

theorem State.onLine_expired (h : (s.iou.lines[n]).lockout = 1) : s.onLine n (fun x => { x with lockout := x.lockout - 1 }) =
    { s with iou := { s.iou with lines := s.iou.lines.set n { s.iou.lines[n] with lockout := 0 } } } := by
  rw [State.onLine, State.onIou, modifyAt, h]

theorem exec_lingerExpiry (linger : (s.iou.zones[z]).kind = .linger) (last : (s.iou.zones[z]).count = 1) :
    exec (.lingerExpiry z) s = .next (s.setOcc z { kind := .clear, count := 0 }) := by
  rw [show exec (.lingerExpiry z) s = execLingerExpiry z s from rfl, execLingerExpiry, if_pos ⟨linger, last.le⟩,
    State.lingerBeat, if_pos linger, if_pos last.le]

/-- An indicator level stands over what the layer and the effect give, cut at the ceiling (R85). -/
theorem State.outputOf_indicator {c : ChannelId} {ch : Channel} {l : Nat} (present : ch.present = true)
    (lit : ch.indicator = some l) : s.outputOf c ch = min l (min 65534 s.mu.tables.ceil[c]) := by
  unfold State.outputOf
  dsimp only
  rw [lit, if_pos present]
  simp only [clipStage, Config.lightMax]

/-- A lockout that runs out (R27, R35). -/
theorem State.lockoutExpired_judged {u : State} (hu : u = { s with iou := { s.iou with
      lines := s.iou.lines.set n { s.iou.lines[n] with lockout := 0 } } }) :
    u.judgeIndicators.iou.lines = s.iou.lines.set n { s.iou.lines[n] with lockout := 0 } ∧
    { u.judgeIndicators.iou with lines := s.iou.lines, indicators := s.iou.indicators } = s.iou ∧
    IndicatorsJudged u.judgeIndicators ∧
    (∀ c : ChannelId, u.judgeIndicators.lco.channels[c] = { s.lco.channels[c] with
      indicator := (u.judgeIndicators.lco.channels[c]).indicator }) ∧
    (∀ c : ChannelId, unnamedChannel s c → u.judgeIndicators.lco.channels[c] = s.lco.channels[c]) ∧
    { u.judgeIndicators.lco with channels := s.lco.channels } = s.lco ∧
    { u.judgeIndicators with iou := s.iou, lco := s.lco } = s := by
  have lco : u.lco = s.lco := by rw [hu]
  have mu : u.mu = s.mu := by rw [hu]
  have judged := State.judgeIndicators_judged u
  refine ⟨?lines, ?beside, judged, fun c => ?_, fun c h => ?_, ?_, ?_⟩
  case lines => rw [State.judgeIndicators_iou_eq, hu]
  case beside => rw [State.judgeIndicators_iou_eq, hu]
  · rw [← lco]
    exact State.judgeIndicators_channel c u
  · rw [← lco]
    refine State.judgeIndicators_unnamed ?_
    unfold unnamedChannel
    rw [mu]
    exact h
  · rw [← lco]
    exact State.judgeIndicators_lco_rest u
  · simp only [State.judgeIndicators_frame]
    rw [hu]

/-- Settles O32. -/
theorem lockoutStuckAndLinger : Obligations.LockoutStuckAndLinger := by
  unfold Obligations.LockoutStuckAndLinger
  refine ⟨fun b s => ?_, fun n s => ⟨State.raiseLineStuck_eq n s, fun h => ?_, fun accepted free =>
    ⟨exec_buttonStuck accepted free, exec_presenceStuck accepted free⟩⟩,
    fun s c ch l => State.outputOf_indicator, fun z s linger last => ?_⟩
  · obtain ⟨p, q, taken, before, after, stopped, stop⟩ := State.iouBeat_taken b s
    rw [show s.blockBeat b .iou = s.iouBeat b from rfl]
    generalize s.iouBeat b = t at after stopped stop ⊢
    have mu : p.mu = s.mu := (congrArg Standing.mu before :)
    have mode : p.iou.mode = s.iou.mode := (congrArg (fun x : Standing => x.iou.mode) before :)
    have rt (n : LineId) : p.iou.lines[n] = s.iou.lines[n] := (congrArg (fun x : Standing => x.iou.lines[n]) before :)
    have rt' (n : LineId) : q.iou.lines[n] = t.iou.lines[n] := (congrArg (fun x : Standing => x.iou.lines[n]) after :)
    have fires (n : LineId) : p.fires n = (!(if b.stopFirst = true then t.iou.showStopped else s.iou.showStopped) &&
        s.iou.mode == .opened && (s.mu.tables.trig[lineEntry n]).isSome) := by
      rw [Standing.fires, stopped, mode, mu]
    have line (n : LineId) : t.iou.lines[n] = lineAfterBeat s.mu.tables.unit s.mu.tables.line[n] (b.lines.getLsbD n)
        (!(if b.stopFirst = true then t.iou.showStopped else s.iou.showStopped) && s.iou.mode == .opened &&
          (s.mu.tables.trig[lineEntry n]).isSome) s.iou.lines[n] := by
      rw [← rt', taken.line, Standing.lineAfter, fires, mu, rt]
    have stuck (n : LineId) : p.newlyStuck b.lines n = ((t.iou.lines[n]).stuck && !(s.iou.lines[n]).stuck) := by
      rw [Standing.newlyStuck, ← taken.line, rt', rt]
    have zones (z : ZoneId) : p.iou.zones[z] = s.iou.zones[z] := (congrArg (fun x : Standing => x.iou.zones[z]) before :)
    have zones' (z : ZoneId) : q.iou.zones[z] = t.iou.zones[z] := (congrArg (fun x : Standing => x.iou.zones[z]) after :)
    have set : p.stuckLines = s.sli.stuckLines := (congrArg Standing.stuckLines before :)
    have set' : q.stuckLines = t.sli.stuckLines := (congrArg Standing.stuckLines after :)
    have flag : p.lineStuck = s.sli.lineStuck := (congrArg Standing.lineStuck before :)
    have flag' : q.lineStuck = t.sli.lineStuck := (congrArg Standing.lineStuck after :)
    have through : t.panel.beyondStop.beyondLines = s.panel.beyondStop.beyondLines := by
      have rest := congrArg Standing.beyondStop taken.rest
      have first := congrArg Standing.beyondLines before
      have last := congrArg Standing.beyondLines after
      exact last.symm.trans (Eq.trans rest first)
    refine ⟨line, fun n => ?_, ?_, fun z => ?_, ⟨stop.accepted, stop.kept⟩, ?_⟩
    · rw [← set', ← set]
      exact (taken.stuckLines n).trans (congrArg (_ || ·) (stuck n))
    · rw [← flag', ← flag]
      simp only [← stuck]
      exact taken.lineStuck
    · have zone := taken.zone z
      simp only [mu, rt, rt', zones, zones'] at zone
      exact zone
    · exact ⟨(congrArg (fun x : Standing => x.iou.mode) through :), (congrArg Standing.mu through :),
        (congrArg Standing.ports through :), (congrArg Standing.mode through :),
        (congrArg (fun x : Standing => x.sck.cal) through :), (congrArg (fun x : Standing => x.sck.alarms) through :),
        (congrArg Standing.sources through :)⟩
  · rw [exec_lockoutExpiry h]
    exact ⟨_, rfl, State.lockoutExpired_judged (State.onLine_expired h)⟩
  · refine ⟨_, exec_lingerExpiry linger last, State.setOcc_lines .., State.setOcc_taken ?_⟩
    rw [linger]
    decide

end Sys2Proof.Machine
end

section
/-! PROOF. A TRIGGER frame fires each listed trigger once (R31, R165). -/

namespace Sys2Proof.Machine

variable {s : State}

/-- The body of a TRIGGER frame with a list of trigger numbers. -/
def triggerBody (l : List LineId) : List Byte := BitVec.ofNat 8 l.length :: l.map fun n => BitVec.ofNat 8 n.val

theorem triggerList_body (l : List LineId) : triggerList (triggerBody l) = l.eraseDups := by
  have number (n : LineId) : Fin.ofNat 16 (BitVec.ofNat 8 n.val).toNat = n := by
    rw [toNat_byte (by omega)]
    exact Fin.ext (Nat.mod_eq_of_lt n.isLt)
  rw [triggerList, triggerBody, List.drop_one, List.tail_cons, List.map_map]
  congr 1
  exact (List.map_congr_left fun n _ => number n).trans (List.map_id l)

theorem agrees_trigger {l : List LineId} (some : 1 ≤ l.length) (few : l.length ≤ 16) {f : Rx} (body : f.body = triggerBody l) :
    agrees (Rx.frame f 5) = true := by
  have count : u8 (triggerBody l) 0 = l.length := toNat_byte (by omega)
  have numbers : ∀ b ∈ (triggerBody l).drop 1, b.toNat < 16 := by
    intro b hb
    rw [triggerBody, List.drop_one, List.tail_cons] at hb
    obtain ⟨n, -, rfl⟩ := List.mem_map.mp hb
    rw [toNat_byte (by omega)]
    exact n.isLt
  have length : (triggerBody l).length = 1 + l.length := by
    rw [triggerBody, List.length_cons, List.length_map, Nat.add_comm]
  simp only [agrees, Rx.frame, BitVec.toNat_ofNat, body, Nat.reducePow, Nat.reduceMod, count, length, some, few, and_self,
    decide_true, beq_self_eq_true, Bool.true_and, List.all_eq_true, decide_eq_true_eq]
  exact numbers

/-- Settles O19: the frame is the unit's own and agrees with its layout, and its body lists the numbers. -/
theorem triggerFrameFiresEachOnce : Obligations.TriggerFrameFiresEachOnce := by
  intro f l s own some few body
  have received : exec (.triggerFrame f) s = .next ((s.record f.seq).triggerArrival f.body) :=
    congrArg Host.Outcome.next (State.receive_own (f := Rx.frame f 5) own (agrees_trigger some few body) _)
  rw [received, State.triggerArrival, body]
  exact congrArg (fun ns => Host.Outcome.next (List.foldl _ _ ns)) (triggerList_body l)

end Sys2Proof.Machine
end

section
/-! SUPPORT. The guards of the axes over several changes of occupancy (R119), and the zones that one event has judged one by
one, with the slots that their changes end (R20, R26, R36). -/

namespace Sys2Proof.Machine

variable {s t u : State} {k : SlotId} {p : PlayRec} {sc : SceneRec} {z y : ZoneId} {o : ZoneOcc}

/-! ### The guards -/

/-- Some zone of a guard set has left CLEAR. -/
def guardLeft (set : BitVec 4) (x y : Vector OccKind 4) : Prop :=
  ∃ z : ZoneId, set.getLsbD z = true ∧ x[z] = .clear ∧ y[z] ≠ .clear

/-- Some zone of a guard set has become CLEAR, and all of them are. -/
def guardCleared (set : BitVec 4) (x y : Vector OccKind 4) : Prop :=
  (∃ z : ZoneId, set.getLsbD z = true ∧ x[z] ≠ .clear ∧ y[z] = .clear) ∧
  ∀ z : ZoneId, set.getLsbD z = true → y[z] = .clear

section
variable {set : BitVec 4} {u v w : Vector OccKind 4}

theorem guardCleared.not_left (h : guardCleared set u v) : ¬guardLeft set u v :=
  fun ⟨z, member, _, left⟩ => left (h.2 z member)

variable (once : ∀ z : ZoneId, v[z] = u[z] ∨ w[z] = v[z])
include once

/-- Over two changes, of which each zone takes one at most, a zone has left CLEAR when one of them made it. -/
theorem guardLeft_trans : guardLeft set u w ↔ guardLeft set u v ∨ guardLeft set v w := by
  constructor
  · rintro ⟨z, member, clear, left⟩
    rcases once z with same | same
    · exact .inr ⟨z, member, same.trans clear, left⟩
    · exact .inl ⟨z, member, clear, same ▸ left⟩
  · rintro (⟨z, member, clear, left⟩ | ⟨z, member, clear, left⟩)
    · exact ⟨z, member, clear, ((once z).resolve_left fun e => left (e.trans clear)).symm ▸ left⟩
    · exact ⟨z, member, ((once z).resolve_right fun e => left (e.trans clear)) ▸ clear, left⟩

/-- Over two such changes the zones have become CLEAR with the second, or with the first and no zone left since. -/
theorem guardCleared_trans :
    guardCleared set u w ↔ guardCleared set v w ∨ (guardCleared set u v ∧ ¬guardLeft set v w) := by
  constructor
  · rintro ⟨⟨z, member, busy, clear⟩, all⟩
    have stays : ¬guardLeft set v w := fun ⟨y, member, _, left⟩ => left (all y member)
    by_cases cleared : ∀ y : ZoneId, set.getLsbD y = true → v[y] = .clear
    · exact .inr ⟨⟨⟨z, member, busy, cleared z member⟩, cleared⟩, stays⟩
    · push Not at cleared
      obtain ⟨y, member, busy⟩ := cleared
      exact .inl ⟨⟨y, member, busy, all y member⟩, all⟩
  · rintro (⟨⟨z, member, busy, clear⟩, all⟩ | ⟨⟨⟨z, member, busy, clear⟩, all⟩, stays⟩)
    · exact ⟨⟨z, member, ((once z).resolve_right fun e => busy (e.symm.trans clear)) ▸ busy, clear⟩, all⟩
    · have still : ∀ y : ZoneId, set.getLsbD y = true → w[y] = .clear := fun y member =>
        by_contra fun left => stays ⟨y, member, all y member, left⟩
      exact ⟨⟨z, member, busy, still z member⟩, still⟩

end

theorem guardsJudged_iff : GuardsJudged s t ↔ ∀ a : AxisId,
    let e := t.mu.tables.env[a]
    let x := s.mgt.axes[a]
    let y := t.mgt.axes[a]
    (guardLeft e.guardZones s.mgt.occ t.mgt.occ → y.guarded = true ∧ y.rearm = 0) ∧
    (guardCleared e.guardZones s.mgt.occ t.mgt.occ →
      y.rearm = e.rearm ∧ y.guarded = (x.guarded && decide (0 < e.rearm))) ∧
    (¬guardLeft e.guardZones s.mgt.occ t.mgt.occ → ¬guardCleared e.guardZones s.mgt.occ t.mgt.occ →
      y.guarded = x.guarded ∧ y.rearm = x.rearm) := Iff.rfl

theorem GuardsJudged.refl (s : State) : GuardsJudged s s := fun _ =>
  ⟨fun ⟨_, _, clear, left⟩ => absurd clear left, fun ⟨⟨_, _, busy, clear⟩, _⟩ => absurd clear busy,
    fun _ _ => ⟨rfl, rfl⟩⟩

/-- The guards over two events, of which each zone changes with one at most. -/
theorem GuardsJudged.trans (h : GuardsJudged s t) (g : GuardsJudged t u) (env : u.mu.tables.env = t.mu.tables.env)
    (once : ∀ z : ZoneId, t.mgt.occ[z] = s.mgt.occ[z] ∨ u.mgt.occ[z] = t.mgt.occ[z]) : GuardsJudged s u := by
  rw [guardsJudged_iff] at h g ⊢
  intro a
  obtain ⟨left₁, cleared₁, kept₁⟩ := h a
  obtain ⟨left₂, cleared₂, kept₂⟩ := g a
  rw [← env] at left₁ cleared₁ kept₁
  dsimp only
  generalize u.mu.tables.env[a] = e at *
  rw [guardLeft_trans once, guardCleared_trans once]
  refine ⟨fun left => ?_, fun cleared => ?_, fun stays uncleared => ?_⟩
  · by_cases again : guardLeft e.guardZones t.mgt.occ u.mgt.occ
    · exact left₂ again
    · have uncleared : ¬guardCleared e.guardZones t.mgt.occ u.mgt.occ := fun cleared =>
        ((guardCleared_trans once).mpr (.inl cleared)).not_left ((guardLeft_trans once).mpr left)
      obtain ⟨guarded, rearm⟩ := kept₂ again uncleared
      rw [guarded, rearm]
      exact left₁ (left.resolve_right again)
  · obtain ⟨stays₁, stays₂⟩ :=
      not_or.mp (mt (guardLeft_trans once).mpr ((guardCleared_trans once).mpr cleared).not_left)
    by_cases now : guardCleared e.guardZones t.mgt.occ u.mgt.occ
    · obtain ⟨rearm, guarded⟩ := cleared₂ now
      refine ⟨rearm, guarded.trans ?_⟩
      by_cases before : guardCleared e.guardZones s.mgt.occ t.mgt.occ
      · rw [(cleared₁ before).2, Bool.and_assoc, Bool.and_self]
      · rw [(kept₁ stays₁ before).1]
    · obtain ⟨guarded, rearm⟩ := kept₂ stays₂ now
      rw [guarded, rearm]
      exact cleared₁ (cleared.resolve_left now).1
  · obtain ⟨stays₁, stays₂⟩ := not_or.mp stays
    obtain ⟨uncleared₂, uncleared₁⟩ := not_or.mp uncleared
    obtain ⟨guarded, rearm⟩ := kept₂ stays₂ uncleared₂
    rw [guarded, rearm]
    exact kept₁ stays₁ fun cleared => uncleared₁ ⟨cleared, stays₂⟩

/-! ### A zone's turn -/

/-- A zone is judged when it is one of a set. -/
def State.judgeIn (set : BitVec 4) (z : ZoneId) (s : State) : State := if set.getLsbD z then s.judgeZone z else s

/-- The occupancy that R36 gives a zone now. -/
def State.judgedOcc (s : State) (z : ZoneId) : ZoneOcc :=
  (s.iou.zones[z]).judged s.mu.tables.unit.linger (s.isPresentIn z)

/-- A judgement changes a zone's kind, or nothing at all. -/
theorem State.judgeZone_cases (z : ZoneId) (s : State) :
    (s.judgedOcc z = s.iou.zones[z] ∧ s.judgeZone z = s) ∨
    ((s.iou.zones[z]).kind ≠ (s.judgedOcc z).kind ∧ s.judgeZone z = s.setOcc z (s.judgedOcc z)) := by
  rw [State.judgedOcc, ZoneOcc.judged]
  cases present : s.isPresentIn z with
  | true =>
    rw [State.judgeZone_held present, if_pos rfl]
    by_cases held : (s.iou.zones[z]).kind = .occupied
    · rw [if_pos held, if_pos held]
      exact .inl ⟨rfl, rfl⟩
    · rw [if_neg held, if_neg held]
      exact .inr ⟨held, rfl⟩
  | false =>
    rw [State.judgeZone_unheld present, if_neg Bool.false_ne_true]
    by_cases held : (s.iou.zones[z]).kind = .occupied
    · rw [if_pos held, if_pos held]
      exact .inr ⟨held ▸ (lingerOcc_kind _).symm, rfl⟩
    · rw [if_neg held, if_neg held]
      exact .inl ⟨rfl, rfl⟩

/-- The turn of a zone changes its kind, or nothing at all. -/
theorem State.judgeIn_cases (set : BitVec 4) (z : ZoneId) (s : State) :
    ((set.getLsbD z = true → s.judgedOcc z = s.iou.zones[z]) ∧ s.judgeIn set z = s) ∨
    (set.getLsbD z = true ∧ (s.iou.zones[z]).kind ≠ (s.judgedOcc z).kind ∧
      s.judgeIn set z = s.setOcc z (s.judgedOcc z)) := by
  rw [State.judgeIn]
  split
  · next member =>
    rcases State.judgeZone_cases z s with ⟨same, turn⟩ | ⟨new, turn⟩
    · exact .inl ⟨fun _ => same, turn⟩
    · exact .inr ⟨member, new, turn⟩
  · next out => exact .inl ⟨fun member => absurd member out, rfl⟩

/-- A turn leaves the lines of the IOU and the table store. -/
theorem State.judgeIn_frame (set : BitVec 4) (z : ZoneId) (s : State) : (s.judgeIn set z).mu = s.mu ∧
    (s.judgeIn set z).sck = s.sck ∧ (s.judgeIn set z).ports = s.ports ∧ (s.judgeIn set z).iou.lines = s.iou.lines := by
  rcases State.judgeIn_cases set z s with ⟨-, turn⟩ | ⟨-, -, turn⟩ <;> rw [turn]
  · exact ⟨rfl, rfl, rfl, rfl⟩
  · exact ⟨by simp only [State.setOcc_frame], by simp only [State.setOcc_frame], by simp only [State.setOcc_frame],
      State.setOcc_lines ..⟩

/-- A zone's occupancy in the blocks that hold a view of it (R38). -/
def State.zoneView (s : State) (z : ZoneId) : ZoneOcc × OccKind × OccKind := (s.iou.zones[z], s.arb.occ[z], s.mgt.occ[z])

/-- What a judged zone's occupancy becomes in every block. -/
def State.zoneViewAfter (set : BitVec 4) (s : State) (z : ZoneId) : ZoneOcc × OccKind × OccKind :=
  if set.getLsbD z = true ∧ (s.iou.zones[z]).kind ≠ (s.judgedOcc z).kind then
    (s.judgedOcc z, (s.judgedOcc z).kind, (s.judgedOcc z).kind)
  else s.zoneView z

theorem State.judgeIn_zoneView (set : BitVec 4) (z y : ZoneId) (s : State) : (s.judgeIn set z).zoneView y =
    if y = z then s.zoneViewAfter set z else s.zoneView y := by
  rcases State.judgeIn_cases set z s with ⟨same, turn⟩ | ⟨member, new, turn⟩ <;> rw [turn]
  · have idle : ¬(set.getLsbD z = true ∧ (s.iou.zones[z]).kind ≠ (s.judgedOcc z).kind) := fun ⟨member, new⟩ =>
      new (congrArg ZoneOcc.kind (same member)).symm
    rw [State.zoneViewAfter, if_neg idle]
    split
    · next e => rw [e]
    · rfl
  · obtain ⟨zones, arb, mgt⟩ := State.setOcc_views new
    have after : s.zoneViewAfter set z = (s.judgedOcc z, (s.judgedOcc z).kind, (s.judgedOcc z).kind) :=
      if_pos ⟨member, new⟩
    rw [after, State.zoneView, zones, arb, mgt, getElem_set_at, getElem_set_at, getElem_set_at]
    split <;> rfl

theorem State.judgedOcc_congr (zones : t.iou.zones[z] = s.iou.zones[z]) (lines : t.iou.lines = s.iou.lines)
    (mu : t.mu = s.mu) : t.judgedOcc z = s.judgedOcc z := by
  simp only [State.judgedOcc, State.isPresentIn, State.lineHolds, zones, lines, mu]

/-- The turn of another zone leaves what a zone's judgement reads. -/
theorem State.judgeIn_judgedOcc (set : BitVec 4) (ne : y ≠ z) (s : State) :
    (s.judgeIn set y).judgedOcc z = s.judgedOcc z := by
  obtain ⟨mu, -, -, lines⟩ := State.judgeIn_frame set y s
  have view := State.judgeIn_zoneView set y z s
  rw [if_neg ne.symm] at view
  exact State.judgedOcc_congr (congrArg Prod.fst view) lines mu

/-! ### All zones -/

/-- The zones of a set are judged, in zone order. -/
def State.judgeAll (set : BitVec 4) (s : State) : State := forEach 4 (State.judgeIn set) s

theorem State.judgeAll_frame (set : BitVec 4) (s : State) : (s.judgeAll set).mu = s.mu ∧
    (s.judgeAll set).sck = s.sck ∧ (s.judgeAll set).ports = s.ports ∧ (s.judgeAll set).iou.lines = s.iou.lines :=
  forEach_inv (P := fun t : State => t.mu = s.mu ∧ t.sck = s.sck ∧ t.ports = s.ports ∧ t.iou.lines = s.iou.lines)
    (fun z t ⟨mu, sck, ports, lines⟩ => by
      obtain ⟨mu', sck', ports', lines'⟩ := State.judgeIn_frame set z t
      exact ⟨mu'.trans mu, sck'.trans sck, ports'.trans ports, lines'.trans lines⟩) s ⟨rfl, rfl, rfl, rfl⟩

/-- Each zone is judged from the occupancy it had before the event. -/
theorem State.judgeAll_zoneView (set : BitVec 4) (z : ZoneId) (s : State) :
    (s.judgeAll set).zoneView z = s.zoneViewAfter set z := by
  refine forEach_at (f := State.judgeIn set) (i := z) (view := fun t : State => t.zoneView z)
    (g := fun t => t.zoneViewAfter set z) (fun y t ne => ?_) (fun t => ?_) (fun y t ne => ?_) s
  · rw [State.judgeIn_zoneView, if_neg ne.symm]
  · rw [State.judgeIn_zoneView, if_pos rfl]
  · have view := State.judgeIn_zoneView set y z t
    rw [if_neg ne.symm] at view
    have zones : (t.judgeIn set y).iou.zones[z] = t.iou.zones[z] := congrArg Prod.fst view
    simp only [State.zoneViewAfter, State.judgeIn_judgedOcc set ne, zones, view]

/-- The guards follow the zones that are judged (R119). -/
theorem State.judgeAll_guards (set : BitVec 4) (s : State) : GuardsJudged s (s.judgeAll set) := by
  have turns : ∀ (l : List ZoneId) (s : State), l.Nodup → GuardsJudged s (l.foldl (fun s z => s.judgeIn set z) s) ∧
      (l.foldl (fun s z => s.judgeIn set z) s).mu = s.mu ∧
      ∀ y ∉ l, (l.foldl (fun s z => s.judgeIn set z) s).mgt.occ[y] = s.mgt.occ[y] := by
    intro l
    induction l with
    | nil => exact fun s _ => ⟨.refl s, rfl, fun _ _ => rfl⟩
    | cons z zs ih =>
      intro s nodup
      obtain ⟨fresh, nodup⟩ := List.nodup_cons.mp nodup
      obtain ⟨guards, mu, stays⟩ := ih (s.judgeIn set z) nodup
      have other (y : ZoneId) (ne : y ≠ z) : (s.judgeIn set z).mgt.occ[y] = s.mgt.occ[y] := by
        have view := State.judgeIn_zoneView set z y s
        rw [if_neg ne] at view
        exact congrArg (fun v => v.2.2) view
      have first : GuardsJudged s (s.judgeIn set z) := by
        rcases State.judgeIn_cases set z s with ⟨-, turn⟩ | ⟨-, new, turn⟩ <;> rw [turn]
        · exact .refl s
        · exact State.setOcc_guards new
      rw [List.foldl_cons]
      refine ⟨first.trans guards (by rw [mu]) fun y => ?_, mu.trans (State.judgeIn_frame set z s).1, fun y out => ?_⟩
      · by_cases e : y = z
        · exact .inr (stays y (e ▸ fresh))
        · exact .inl (other y e)
      · obtain ⟨ne, out⟩ := not_or.mp (mt List.mem_cons.mpr out)
        rw [stays y out, other y ne]
  exact (turns (List.finRange 4) s (List.nodup_finRange 4)).1

/-! ### The slots of the zones -/

theorem State.setOcc_nil (nil : s.arb.queue = []) (new : (s.iou.zones[z]).kind ≠ o.kind) :
    (s.setOcc z o).arb.queue = [] := by
  rw [(State.setOcc_shown new).2.2]
  by_cases clear : o.kind = .clear
  · have shown := (congrArg State.shown (State.zoneLeft_clear (s := s) (z := z) clear nil)).trans
      (State.releaseAll_shown z s _)
    exact (congrArg Shown.queue shown).trans ((congrArg Arb.queue (State.abandonAll_frame _ _).1).trans nil)
  · rw [State.zoneLeft, if_neg clear]
    exact nil

/-- The turn of a scene's home zone ends the scene. -/
def State.turnEnds (set : BitVec 4) (sc : SceneRec) (s : State) : Bool :=
  sc.abandonOnClear && set.getLsbD sc.home && (s.iou.zones[sc.home]).kind != .clear &&
    (s.judgedOcc sc.home).kind == .clear

theorem State.turnEnds_iff {set : BitVec 4} : s.turnEnds set sc = true ↔ sc.abandonOnClear = true ∧
    set.getLsbD sc.home = true ∧ (s.iou.zones[sc.home]).kind ≠ .clear ∧ (s.judgedOcc sc.home).kind = .clear := by
  simp only [State.turnEnds, Bool.and_eq_true, bne_iff_ne, beq_iff_eq, and_assoc]

theorem State.scene_of_bare {q : PlayRec} (plays : s.seq.bare k = .playing { p with marks := 0 })
    (hq : s.play k = some q) : q.scene = p.scene := by
  obtain ⟨r, hr, is⟩ := State.play_of_bare plays
  rw [hq] at hr
  cases hr
  rw [is]

/-- A slot that plays a scene on, but for its marks, or has been ABANDONED; nothing is queued. -/
structure State.Playing (k : SlotId) (p : PlayRec) (sc : SceneRec) (s : State) : Prop where
  nil : s.arb.queue = []
  scene : s.scene p.scene = some sc
  slot : s.seq.bare k = .playing { p with marks := 0 } ∨ s.seq.bare k = .free (some p.scene) .abandoned

theorem State.Playing.abandoned_iff (h : State.Playing k p sc s) : k ∈ s.abandonedSlots z ↔
    s.seq.bare k = .playing { p with marks := 0 } ∧ sc.abandonOnClear = true ∧ sc.home = z := by
  rw [State.mem_abandonedSlots]
  constructor
  · rintro ⟨q, hq⟩
    obtain ⟨hq, d, hd, clears, home⟩ := State.abandoned_iff.mp hq
    rcases h.slot with plays | free
    · rw [State.scene_of_bare plays hq, h.scene] at hd
      cases hd
      exact ⟨plays, clears, home⟩
    · have bare := State.bare_of_play hq
      rw [free] at bare
      cases bare
  · rintro ⟨plays, clears, home⟩
    obtain ⟨q, hq, -⟩ := State.play_of_bare plays
    have scene := h.scene
    rw [← State.scene_of_bare plays hq] at scene
    exact ⟨q, State.abandoned_iff.mpr ⟨hq, sc, scene, clears, home⟩⟩

/-- The turn of a zone ends the slots of its scenes that R20 names, and no other. -/
theorem State.Playing.turn (h : State.Playing k p sc s) (set : BitVec 4) (z : ZoneId) :
    State.Playing k p sc (s.judgeIn set z) ∧ (s.judgeIn set z).seq.bare k =
      if sc.home = z ∧ s.turnEnds set sc = true then .free (some p.scene) .abandoned else s.seq.bare k := by
  rcases State.judgeIn_cases set z s with ⟨same, turn⟩ | ⟨member, new, turn⟩ <;> rw [turn]
  · refine ⟨h, (if_neg ?_).symm⟩
    rintro ⟨rfl, ends⟩
    obtain ⟨-, member, busy, clear⟩ := State.turnEnds_iff.mp ends
    rw [same member] at clear
    exact busy clear
  · have scene : (s.setOcc z (s.judgedOcc z)).scene p.scene = some sc := by
      rw [State.scene, (State.setOcc_frame s z _).1]
      exact h.scene
    have nil := State.setOcc_nil h.nil new
    by_cases ends : sc.home = z ∧ s.turnEnds set sc = true
    · obtain ⟨home, clears, -, -, clear⟩ := ends.imp_right State.turnEnds_iff.mp
      rw [home] at clear
      have slot : (s.setOcc z (s.judgedOcc z)).seq.bare k = .free (some p.scene) .abandoned := by
        rcases h.slot with plays | free
        · obtain ⟨q, hq⟩ := State.mem_abandonedSlots.mp (h.abandoned_iff.mpr ⟨plays, clears, home⟩)
          have same := State.scene_of_bare plays (State.abandoned_iff.mp hq).1
          have ended := (State.setOcc_abandons new clear h.nil hq (same ▸ h.scene)).1
          rw [Seq.bare, ended, same]
          rfl
        · refine (State.setOcc_bare new fun _ => ⟨h.nil, fun mem => ?_⟩).trans free
          rw [(h.abandoned_iff.mp mem).1] at free
          cases free
      rw [if_pos ends]
      exact ⟨⟨nil, scene, .inr slot⟩, slot⟩
    · have stays : (s.setOcc z (s.judgedOcc z)).seq.bare k = s.seq.bare k := by
        refine State.setOcc_bare new fun clear => ⟨h.nil, fun mem => ends ?_⟩
        obtain ⟨-, clears, rfl⟩ := h.abandoned_iff.mp mem
        exact ⟨rfl, State.turnEnds_iff.mpr ⟨clears, member, fun e => new (e.trans clear.symm), clear⟩⟩
      rw [if_neg ends]
      exact ⟨⟨nil, scene, stays ▸ h.slot⟩, stays⟩

/-- The slots once the zones are judged, with nothing queued: those that R20 names have ended ABANDONED (R20, R36). -/
theorem State.judgeAll_bare (h : State.Playing k p sc s) (set : BitVec 4) : (s.judgeAll set).seq.bare k =
    if s.turnEnds set sc then .free (some p.scene) .abandoned else s.seq.bare k := by
  have other (y : ZoneId) (t : State) (playing : State.Playing k p sc t) (ne : y ≠ sc.home) :
      (t.judgeIn set y).seq.bare k = t.seq.bare k := by
    rw [(playing.turn set y).2, if_neg fun e => ne e.1.symm]
  refine forEach_at_of (f := State.judgeIn set) (i := sc.home) (view := fun t : State => t.seq.bare k)
    (g := fun t => if t.turnEnds set sc then .free (some p.scene) .abandoned else t.seq.bare k)
    (P := State.Playing k p sc) (fun y t playing => (playing.turn set y).1) other (fun t playing => ?_)
    (fun y t playing ne => ?_) s h
  · rw [(playing.turn set sc.home).2]
    simp only [true_and]
  · have zones : (t.judgeIn set y).iou.zones[sc.home] = t.iou.zones[sc.home] := by
      have view := State.judgeIn_zoneView set y sc.home t
      rw [if_neg ne.symm] at view
      exact congrArg Prod.fst view
    have same : (t.judgeIn set y).turnEnds set sc = t.turnEnds set sc := by
      simp only [State.turnEnds, State.judgeIn_judgedOcc set ne, zones]
    simp only [same, other y t playing ne]

end Sys2Proof.Machine
end

section
/-! SUPPORT. What the blocks do with the records that a load has written (R26, R91, R110, R158, R183). -/

namespace Sys2Proof.Machine

variable {s t u : State} {l : Load}

theorem inLoad_iff (l : Load) (i : Nat) : inLoad l i = true ↔ l.writesIndex i := decide_eq_true_iff

/-! ### ROUTE, ALRM and TRIG -/

theorem clampDuck_taken (f : Mu → Mu) (s : State) :
    RouteTaken s ((s.onMu f).onNmx (Nmx.clampDuck (s.onMu f).mu.tables.route)) := by
  refine ⟨fun o => ?_, rfl, rfl⟩
  simp only [State.onNmx_nmx, State.onNmx_mu, Nmx.clampDuck, Fin.getElem_fin, Vector.getElem_ofFn, Config.unityGain]
  rw [Nat.max_comm, Nat.min_comm]
  rfl

/-- The alarms of the records that a load wrote (R158). -/
def Sck.alarmsLoaded (l : Load) (records : Vector (Option AlrmRec) 8) (x : Sck) : Sck :=
  { x with alarms := Vector.ofFn fun n => if inLoad l n.val then loadedAlarm records[n] x.cal x.alarms[n] else x.alarms[n] }

theorem alarmsLoaded_taken (l : Load) (f : Mu → Mu) (s : State) :
    AlarmsTaken s ((s.onMu f).onSck (Sck.alarmsLoaded l (s.onMu f).mu.tables.alrm)) fun n => l.writesIndex n.val := by
  have alarm (n : AlarmId) : ((s.onMu f).onSck (Sck.alarmsLoaded l (s.onMu f).mu.tables.alrm)).sck.alarms[n] =
      if inLoad l n.val then loadedAlarm (s.onMu f).mu.tables.alrm[n] s.sck.cal s.sck.alarms[n]
      else s.sck.alarms[n] := by
    simp [Sck.alarmsLoaded]
  refine ⟨fun n out => ?_, fun n written => ?_, rfl, rfl⟩
  · rw [alarm, if_neg fun h => out ((inLoad_iff l _).mp h)]
  · dsimp only
    rw [alarm, if_pos ((inLoad_iff l _).mpr written), State.onSck_mu]
    refine ⟨fun empty => ?_, fun r hr => ?_⟩
    · rw [empty]
      rfl
    · rw [hr]
      simp [loadedAlarm]

/-- Beside the IOU and the LCO, judging the indicators leaves the state. -/
theorem State.judgeIndicators_blocks (s t : State) : { s.judgeIndicators with mu := t.mu, iou := t.iou, lco := t.lco } =
    { s with mu := t.mu, iou := t.iou, lco := t.lco } := by
  refine forEach_same (f := State.judgeIndicator) (g := fun u : State => { u with mu := t.mu, iou := t.iou, lco := t.lco })
    (fun n u => ?_) s
  unfold State.judgeIndicator
  (repeat' split) <;> rfl

theorem renewIndicators_taken (f : Mu → Mu) (s : State) : TrigTaken s (s.onMu f).renewIndicators := by
  have blocks : { (s.onMu f).renewIndicators with mu := s.mu, iou := s.iou, lco := s.lco } = s := by
    have blocks := State.judgeIndicators_blocks (s.onMu f).unlit s
    rw [State.renewIndicators_eq]
    have kept (g : Lco → Lco) : { (s.onMu f).onLco g with mu := s.mu, iou := s.iou, lco := s.lco } = s := rfl
    exact blocks.trans (kept _)
  have lco : (s.onMu f).lco = s.lco := rfl
  have iouSame : (s.onMu f).iou = s.iou := rfl
  generalize s.onMu f = r at *
  have unnamed (c : ChannelId) (h : unnamedChannel r.renewIndicators c) :
      (r.renewIndicators.lco.channels[c]).indicator = none :=
    State.renewIndicators_unnamed ((unnamedChannel_congr (by simp only [State.renewIndicators_frame]) c).mp h)
  have judged := State.renewIndicators_judged r
  have channels := fun c => State.renewIndicators_channel c r
  have rest := State.renewIndicators_lco_rest r
  have iou := State.renewIndicators_iou_eq r
  rw [lco] at channels
  generalize r.renewIndicators = t at *
  refine ⟨judged, channels, unnamed, ?_, ?_, blocks⟩
  · have kept := congrArg (fun x : Lco => { x with channels := s.lco.channels }) rest
    simp only [State.unlit_frame, lco] at kept
    exact kept
  · rw [iou, iouSame]

/-! ### ENV -/

/-- The record of an axis after a load of its envelope, before its mode is judged (R110). -/
def Axis.envTaken (occ : Vector OccKind 4) (old new : EnvRec) (x : Axis) : Axis :=
  if old.guardZones = new.guardZones then x else guardReload occ new x

theorem guardReload_rest (occ : Vector OccKind 4) (e : EnvRec) (x : Axis) :
    guardReload occ e x = { x with guarded := (guardReload occ e x).guarded, rearm := (guardReload occ e x).rearm } := by
  unfold guardReload Axis.guardOn Axis.guardOff
  (repeat' split) <;> rfl

theorem Axis.envTaken_rest (occ : Vector OccKind 4) (old new : EnvRec) (x : Axis) : x.envTaken occ old new =
    { x with guarded := (x.envTaken occ old new).guarded, rearm := (x.envTaken occ old new).rearm } := by
  unfold Axis.envTaken
  split
  · rfl
  · exact guardReload_rest occ new x

/-- The guard of an axis whose guard zones a load has changed (R110). -/
theorem guardReload_guard (occ : Vector OccKind 4) (e : EnvRec) (x : Axis) :
    let y := guardReload occ e x
    let active : Prop := ∃ z : ZoneId, e.guardZones.getLsbD z = true ∧ occ[z] ≠ .clear
    let waits : Prop := x.guarded = true ∧ x.rearm = 0
    (e.guardZones = 0 → y.guarded = false ∧ y.rearm = 0) ∧ (active → y.guarded = true ∧ y.rearm = 0) ∧
    (e.guardZones ≠ 0 → ¬active → waits → y.guarded = decide (0 < e.rearm) ∧ y.rearm = e.rearm) ∧
    (e.guardZones ≠ 0 → ¬active → ¬waits → y.guarded = x.guarded ∧ y.rearm = x.rearm) := by
  intro y active waits
  have isActive : guardActive occ e.guardZones = true ↔ active := guardActive_iff
  have empty : e.guardZones = 0 → ¬active := by
    rintro none ⟨z, member, -⟩
    rw [none] at member
    exact Bool.false_ne_true (BitVec.getLsbD_zero.symm.trans member)
  have reload : y = if e.guardZones = 0 then { x with guarded := false, rearm := 0 }
      else if guardActive occ e.guardZones = true then x.guardOn
      else if x.guarded = true ∧ x.rearm = 0 then x.guardOff e.rearm else x := rfl
  refine ⟨fun none => ?_, fun on => ?_, fun some off w => ?_, fun some off w => ?_⟩
  · rw [reload, if_pos none]
    exact ⟨rfl, rfl⟩
  · rw [reload, if_neg fun none => empty none on, if_pos (isActive.mpr on)]
    exact ⟨rfl, rfl⟩
  · rw [reload, if_neg some, if_neg (mt isActive.mp off), if_pos w, Axis.guardOff]
    obtain ⟨guarded, -⟩ := w
    by_cases zero : e.rearm = 0
    · rw [if_pos zero, zero]
      exact ⟨rfl, rfl⟩
    · rw [if_neg zero, decide_eq_true (Nat.pos_of_ne_zero zero)]
      exact ⟨guarded, rfl⟩
  · rw [reload, if_neg some, if_neg (mt isActive.mp off), if_neg w]
    exact ⟨rfl, rfl⟩

/-- The guard reload of R110, before the mode is judged. -/
def State.guardReloaded (a : AxisId) (old : EnvRec) (s : State) : State :=
  s.onAxis a (Axis.envTaken s.mgt.occ old s.mu.tables.env[a])

theorem State.envLoaded_eq (a : AxisId) (old : EnvRec) (s : State) :
    s.envLoaded a old = (s.guardReloaded a old).judgeAxis a := by
  rw [State.envLoaded, State.guardReloaded]
  unfold Axis.envTaken
  split
  · next same =>
    have kept : s.onAxis a (fun x => x) = s := by
      simp [State.onAxis, State.onMgt, modifyAt]
    rw [kept]
  · rfl

/-- Beside the axes and the marks of the slots, a state is as another was. -/
structure EnvBeside (s t : State) : Prop where
  mgt : { t.mgt with axes := s.mgt.axes } = s.mgt
  flags : t.seq.flags = s.seq.flags
  rest : { t with mgt := s.mgt, seq := s.seq } = s

theorem EnvBeside.trans (h : EnvBeside s t) (g : EnvBeside t u) : EnvBeside s u :=
  ⟨(congrArg (fun x : Mgt => { x with axes := s.mgt.axes }) g.mgt).trans h.mgt, g.flags.trans h.flags,
    (congrArg (fun x : State => { x with mgt := s.mgt, seq := s.seq }) g.rest).trans h.rest⟩

theorem EnvBeside.inputs (h : EnvBeside s t) : SameInputs s t :=
  ⟨(congrArg (fun x : State => x.mu.tables.env) h.rest :), (congrArg (fun x : State => x.arb.owners) h.rest :),
    (congrArg (fun x : State => x.sli.sources) h.rest :), (congrArg Mgt.powerFault h.mgt :),
    (congrArg Mgt.showStopped h.mgt :)⟩

/-- The mode that a state's inputs give a record of an axis. -/
def State.modeFor (s : State) (a : AxisId) (x : Axis) : AxisMode :=
  judgedMode s.mu.tables.env[a] (s.mgt.powerFault.getLsbD (axisZone a)) s.mgt.showStopped (s.axisOwner a).isNone
    (s.isFresh (.setpoint a)) x

theorem SameInputs.modeFor (h : SameInputs s t) (a : AxisId) : t.modeOf a = s.modeFor a t.mgt.axes[a] := h.modeOf_judged a

theorem State.modeFor_congr (h : SameInputs s t) (a : AxisId) (x : Axis) : t.modeFor a x = s.modeFor a x := by
  rw [State.modeFor, State.axisOwner, State.isFresh, h.env, h.owners, h.sources, h.power, h.stopped]
  rfl

/-- The record of an axis once it has taken its new envelope, its mode judged (R110). -/
def State.envAxis (s : State) (a : AxisId) (old : EnvRec) : Axis :=
  let x := (s.mgt.axes[a]).envTaken s.mgt.occ old s.mu.tables.env[a]
  Axis.enter (s.modeFor a x) x

theorem State.envLoaded_beside (a : AxisId) (old : EnvRec) (s : State) : EnvBeside s (s.envLoaded a old) := by
  rw [State.envLoaded_eq]
  refine ⟨?_, ?_, ?_⟩
  · rw [State.judgeAxis_mgt]
    rfl
  · rw [State.judgeAxis_flags]
    rfl
  · exact congrArg (fun x : State => { x with mgt := s.mgt, seq := s.seq }) (State.judgeAxis_rest a (s.guardReloaded a old))

theorem State.envLoaded_axes (a b : AxisId) (old : EnvRec) (s : State) :
    (s.envLoaded a old).mgt.axes[b] = if b = a then s.envAxis a old else s.mgt.axes[b] := by
  have axes (b : AxisId) : (s.guardReloaded a old).mgt.axes[b] =
      if b = a then (s.mgt.axes[a]).envTaken s.mgt.occ old s.mu.tables.env[a] else s.mgt.axes[b] := State.onAxis_axes ..
  have inputs : SameInputs s (s.guardReloaded a old) := ⟨rfl, rfl, rfl, rfl, rfl⟩
  rw [State.envLoaded_eq, State.judgeAxis_axes, inputs.modeFor, axes, axes, if_pos rfl]
  split <;> rfl

/-- The axes of a load's envelopes take them, in axis order. -/
def State.envsLoaded (l : Load) (old : Vector EnvRec 32) (s : State) : State :=
  forEach 32 (fun a s => if inLoad l a.val then s.envLoaded a old[a] else s) s

theorem State.envsLoaded_beside (l : Load) (old : Vector EnvRec 32) (s : State) : EnvBeside s (s.envsLoaded l old) := by
  refine forEach_inv (P := EnvBeside s) (fun a t h => ?_) s ⟨rfl, rfl, rfl⟩
  split
  · exact h.trans (State.envLoaded_beside a _ t)
  · exact h

theorem State.envsLoaded_axes (l : Load) (old : Vector EnvRec 32) (a : AxisId) (s : State) :
    (s.envsLoaded l old).mgt.axes[a] = if inLoad l a.val then s.envAxis a old[a] else s.mgt.axes[a] := by
  refine forEach_at (f := fun a (s : State) => if inLoad l a.val then s.envLoaded a old[a] else s) (i := a)
    (view := fun t : State => t.mgt.axes[a])
    (g := fun t => if inLoad l a.val then t.envAxis a old[a] else t.mgt.axes[a]) (fun b t ne => ?_) (fun t => ?_)
    (fun b t ne => ?_) s
  · split
    · rw [State.envLoaded_axes, if_neg ne.symm]
    · rfl
  · split
    · rw [State.envLoaded_axes, if_pos rfl]
    · rfl
  · by_cases taken : inLoad l b.val = true
    · have beside := State.envLoaded_beside b old[b] t
      have occ : (t.envLoaded b old[b]).mgt.occ = t.mgt.occ := (congrArg Mgt.occ beside.mgt :)
      have same : (t.envLoaded b old[b]).mgt.axes[a] = t.mgt.axes[a] := by rw [State.envLoaded_axes, if_neg ne.symm]
      simp only [if_pos taken, State.envAxis, State.modeFor_congr beside.inputs, beside.inputs.env, occ, same]
    · simp only [if_neg taken]

/-- An ENV load reaches the axes it writes as `EnvTaken` has it; `s` holds the records from before it (R110). -/
theorem envsLoaded_taken (l : Load) (f : Mu → Mu) (s : State) :
    EnvTaken s ((s.onMu f).envsLoaded l s.mu.tables.env) fun a => l.writesIndex a.val := by
  have axes := fun a => State.envsLoaded_axes l s.mu.tables.env a (s.onMu f)
  have beside := State.envsLoaded_beside l s.mu.tables.env (s.onMu f)
  generalize (s.onMu f).envsLoaded l s.mu.tables.env = t at axes beside
  have env : t.mu.tables.env = (s.onMu f).mu.tables.env := beside.inputs.env
  refine ⟨fun a out => ?_, fun a written => ?_, beside.mgt, beside.flags,
    congrArg (fun x : State => { x with mu := s.mu }) beside.rest⟩
  · rw [axes, if_neg fun h => out ((inLoad_iff l _).mp h)]
    rfl
  · have own := axes a
    rw [if_pos ((inLoad_iff l _).mpr written)] at own
    have mode : t.modeOf a = (s.onMu f).modeFor a
        ((s.mgt.axes[a]).envTaken s.mgt.occ s.mu.tables.env[a] t.mu.tables.env[a]) := by
      rw [beside.inputs.modeFor, own, env]
      exact judgedMode_enter ..
    have entered : t.mgt.axes[a] = Axis.enter (t.modeOf a)
        ((s.mgt.axes[a]).envTaken s.mgt.occ s.mu.tables.env[a] t.mu.tables.env[a]) := by
      rw [mode, own, env]
      rfl
    rw [Axis.enter_eq, Axis.envTaken_rest] at entered
    have guarded := congrArg Axis.guarded entered
    have rearm := congrArg Axis.rearm entered
    dsimp only at guarded rearm ⊢
    refine ⟨?_, fun off => ?_, fun same => ?_, fun new => ?_⟩
    · rw [guarded, rearm]
      exact entered
    · rw [congrArg Axis.mode entered, State.modeOf, off]
      rfl
    · rw [guarded, rearm, Axis.envTaken, if_pos same.symm]
      exact ⟨rfl, rfl⟩
    · rw [guarded, rearm, Axis.envTaken, if_neg (Ne.symm new)]
      exact guardReload_guard s.mgt.occ t.mu.tables.env[a] s.mgt.axes[a]

end Sys2Proof.Machine
end

section
/-! SUPPORT. What the blocks do with new LINE records (R26, R36, R119). -/

namespace Sys2Proof.Machine

variable {s t : State} {k : SlotId} {p : PlayRec} {sc : SceneRec} {z : ZoneId}

theorem ZoneOcc.judged_held {o : ZoneOcc} (linger : Nat) (unheld : o.kind ≠ .occupied) :
    o.judged linger true = { kind := .occupied, count := 0 } := by
  rw [ZoneOcc.judged, if_pos rfl, if_neg unheld]

theorem ZoneOcc.judged_left {o : ZoneOcc} (linger : Nat) (held : o.kind = .occupied) :
    o.judged linger false = lingerOcc linger := by
  rw [ZoneOcc.judged, if_neg Bool.false_ne_true, if_pos held]

theorem ZoneOcc.judged_kept {o : ZoneOcc} (linger : Nat) {present : Bool} (same : present = true ↔ o.kind = .occupied) :
    o.judged linger present = o := by
  cases present with
  | true => rw [ZoneOcc.judged, if_pos rfl, if_pos (same.mp rfl)]
  | false => rw [ZoneOcc.judged, if_neg Bool.false_ne_true, if_neg (mt same.mpr Bool.false_ne_true)]

theorem lineDiffers_iff (old new : LineRec) : lineDiffers old new = true ↔
    old.role ≠ new.role ∨ old.zone ≠ new.zone ∨ old.activeLow ≠ new.activeLow := by
  simp only [lineDiffers, Bool.or_eq_true, bne_iff_ne, or_assoc]

theorem zonesLeft_iff (old new : Vector LineRec 16) (z : ZoneId) : (zonesLeft old new).getLsbD z = true ↔
    ∃ n : LineId, lineDiffers old[n] new[n] = true ∧ (old[n]).role = .presence ∧ (old[n]).zone = z.val := by
  simp only [zonesLeft, BitVec.getLsbD_ofFnLE, z.isLt, dite_true, List.any_eq_true, List.mem_finRange, true_and,
    Bool.and_eq_true, beq_iff_eq, and_assoc]

/-- The runtime records of the lines that a load changed are reset (R26). -/
def State.linesReset (old : Vector LineRec 16) (s : State) : State :=
  s.onIou fun x => { x with
    lines := Vector.ofFn fun n => if lineDiffers old[n] s.mu.tables.line[n] then {} else x.lines[n] }

theorem State.linesLoaded_eq (old : Vector LineRec 16) (s : State) : s.linesLoaded old =
    ((s.linesReset old).judgeAll (zonesLeft old s.mu.tables.line)).judgeIndicators := rfl

theorem State.linesReset_line (old : Vector LineRec 16) (n : LineId) (s : State) : (s.linesReset old).iou.lines[n] =
    if lineDiffers old[n] s.mu.tables.line[n] then {} else s.iou.lines[n] := by
  simp [State.linesReset]

/-! ### The zones -/

section
variable {set : BitVec 4}

variable (view : t.zoneView z = s.zoneViewAfter set z)
include view

/-- A zone that an event judges takes the judged occupancy. -/
theorem State.zone_judged (member : set.getLsbD z = true) : t.iou.zones[z] = s.judgedOcc z := by
  rw [State.zoneViewAfter] at view
  split at view
  · exact congrArg Prod.fst view
  · next idle =>
    have zones : t.iou.zones[z] = s.iou.zones[z] := congrArg Prod.fst view
    rcases State.judgeZone_cases z s with ⟨same, -⟩ | ⟨new, -⟩
    · exact zones.trans same.symm
    · exact absurd ⟨member, new⟩ idle

theorem State.zone_unjudged (out : ¬set.getLsbD z = true) : t.iou.zones[z] = s.iou.zones[z] :=
  congrArg Prod.fst (view.trans (if_neg fun turn => out turn.1))

theorem State.views_same (same : (t.iou.zones[z]).kind = (s.iou.zones[z]).kind) :
    t.arb.occ[z] = s.arb.occ[z] ∧ t.mgt.occ[z] = s.mgt.occ[z] := by
  rw [State.zoneViewAfter] at view
  split at view
  · next turn =>
    have zones : t.iou.zones[z] = s.judgedOcc z := congrArg Prod.fst view
    exact absurd (same.symm.trans (congrArg ZoneOcc.kind zones)) turn.2
  · exact Prod.ext_iff.mp (congrArg Prod.snd view)

theorem State.views_new (new : (t.iou.zones[z]).kind ≠ (s.iou.zones[z]).kind) :
    t.arb.occ[z] = (t.iou.zones[z]).kind ∧ t.mgt.occ[z] = (t.iou.zones[z]).kind := by
  rw [State.zoneViewAfter] at view
  split at view
  · have zones : t.iou.zones[z] = s.judgedOcc z := congrArg Prod.fst view
    rw [zones]
    exact Prod.ext_iff.mp (congrArg Prod.snd view)
  · exact absurd (congrArg (fun v => v.1.kind) view) new

/-- A busy zone is CLEAR afterwards when its judgement makes it so. -/
theorem State.cleared_after (busy : (s.iou.zones[z]).kind ≠ .clear) :
    (t.iou.zones[z]).kind = .clear ↔ set.getLsbD z = true ∧ (s.judgedOcc z).kind = .clear := by
  by_cases member : set.getLsbD z = true
  · rw [State.zone_judged view member]
    exact ⟨fun clear => ⟨member, clear⟩, And.right⟩
  · rw [State.zone_unjudged view member]
    exact ⟨fun clear => absurd clear busy, fun turn => absurd turn.1 member⟩

/-- The cases of R36 for a zone that an event may judge, and the views of the other blocks (R38). -/
theorem State.zone_taken {judged held : Prop} (isJudged : set.getLsbD z = true ↔ judged)
    (isHeld : s.isPresentIn z = true ↔ held) :
    let linger := s.mu.tables.unit.linger
    (judged → held → (s.iou.zones[z]).kind ≠ .occupied → t.iou.zones[z] = { kind := .occupied, count := 0 }) ∧
    (judged → ¬held → (s.iou.zones[z]).kind = .occupied →
      t.iou.zones[z] = if 0 < linger then { kind := .linger, count := linger } else { kind := .clear, count := 0 }) ∧
    (¬judged ∨ (held ↔ (s.iou.zones[z]).kind = .occupied) → t.iou.zones[z] = s.iou.zones[z]) ∧
    ((t.iou.zones[z]).kind = (s.iou.zones[z]).kind → t.arb.occ[z] = s.arb.occ[z] ∧ t.mgt.occ[z] = s.mgt.occ[z]) ∧
    ((t.iou.zones[z]).kind ≠ (s.iou.zones[z]).kind →
      t.arb.occ[z] = (t.iou.zones[z]).kind ∧ t.mgt.occ[z] = (t.iou.zones[z]).kind) := by
  rw [← isJudged, ← isHeld]
  refine ⟨fun member held unheld => ?_, fun member left held => ?_, fun same => ?_, State.views_same view,
    State.views_new view⟩
  · rw [State.zone_judged view member, State.judgedOcc, held, ZoneOcc.judged_held _ unheld]
  · rw [State.zone_judged view member, State.judgedOcc, eq_false_of_ne_true left, ZoneOcc.judged_left _ held, lingerOcc_eq]
  · by_cases member : set.getLsbD z = true
    · rw [State.zone_judged view member]
      exact ZoneOcc.judged_kept _ (same.resolve_left (not_not_intro member))
    · exact State.zone_unjudged view member

end

/-- The slots once a set of zones is judged, with nothing queued, as the zones' new occupancy tells them (R20). -/
theorem State.slot_taken (h : State.Playing k p sc s) (plays : s.seq.bare k = .playing { p with marks := 0 })
    {set : BitVec 4} (view : t.zoneView sc.home = s.zoneViewAfter set sc.home)
    (bare : t.seq.bare k = (s.judgeAll set).seq.bare k) :
    let ends : Prop := sc.abandonOnClear = true ∧ (s.iou.zones[sc.home]).kind ≠ .clear ∧
      (t.iou.zones[sc.home]).kind = .clear
    (ends → t.seq.slots[k] = .free (some p.scene) .abandoned) ∧
    (¬ends → ∃ q, t.play k = some q ∧ q = { p with marks := q.marks }) := by
  intro ends
  have isEnds : s.turnEnds set sc = true ↔ ends := by
    rw [State.turnEnds_iff]
    constructor
    · rintro ⟨clears, member, busy, clear⟩
      exact ⟨clears, busy, (State.cleared_after view busy).mpr ⟨member, clear⟩⟩
    · rintro ⟨clears, busy, clear⟩
      obtain ⟨member, clear⟩ := (State.cleared_after view busy).mp clear
      exact ⟨clears, member, busy, clear⟩
  rw [State.judgeAll_bare h set] at bare
  refine ⟨fun h => ?_, fun h => ?_⟩
  · rw [if_pos (isEnds.mpr h)] at bare
    exact State.slot_of_bare bare
  · rw [if_neg (mt isEnds.mp h)] at bare
    exact State.play_of_bare (bare.trans plays)

/-! ### A LINE load -/

/-- A set of zones is judged, and then the indicators: what that leaves, and what it makes of the zones and the guards. -/
theorem State.judgeAll_indicators (set : BitVec 4) (s : State) :
    let t := (s.judgeAll set).judgeIndicators
    t.mu = s.mu ∧ t.sck = s.sck ∧ t.ports = s.ports ∧ t.iou.lines = s.iou.lines ∧ t.seq = (s.judgeAll set).seq ∧
    (∀ z, t.zoneView z = s.zoneViewAfter set z) ∧ GuardsJudged s t := by
  obtain ⟨mu, sck, ports, lines⟩ := State.judgeAll_frame set s
  have guards := State.judgeAll_guards set s
  simp only [guardsJudged_iff, State.judgeIndicators_frame, State.judgeIndicators_iou, ← State.judgeAll_zoneView,
    State.zoneView, mu, sck, ports, lines] at guards ⊢
  exact ⟨trivial, trivial, trivial, trivial, trivial, fun _ => trivial, guards⟩

/-- The reset of lines leaves all but them. -/
theorem State.linesReset_rest (old : Vector LineRec 16) (f : Mu → Mu) (s : State) :
    { (s.onMu f).linesReset old with mu := s.mu, iou := s.iou } = s ∧
    ((s.onMu f).linesReset old).iou.zones = s.iou.zones ∧ ((s.onMu f).linesReset old).mu = (s.onMu f).mu :=
  ⟨rfl, rfl, rfl⟩

/-- A LINE load reaches the lines, the zones, the slots and the guards; `s` holds the records from before it (R26, R36). -/
theorem linesLoaded_taken (f : Mu → Mu) (s : State) : LinesTaken s ((s.onMu f).linesLoaded s.mu.tables.line) := by
  rw [State.linesLoaded_eq]
  have lines := fun n => State.linesReset_line s.mu.tables.line n (s.onMu f)
  obtain ⟨rest, zones, mu⟩ := State.linesReset_rest s.mu.tables.line f s
  generalize (s.onMu f).linesReset s.mu.tables.line = r at *
  have arb : r.arb = s.arb := (congrArg State.arb rest :)
  have mgt : r.mgt = s.mgt := (congrArg State.mgt rest :)
  have seq : r.seq = s.seq := (congrArg State.seq rest :)
  have sck : r.sck = s.sck := (congrArg State.sck rest :)
  have ports : r.ports = s.ports := (congrArg State.ports rest :)
  rw [← mu] at lines ⊢
  have judges := zonesLeft_iff s.mu.tables.line r.mu.tables.line
  generalize zonesLeft s.mu.tables.line r.mu.tables.line = set at *
  obtain ⟨mu', sck', ports', lines', seq', view, guards⟩ := State.judgeAll_indicators set r
  have indicators := State.judgeIndicators_judged (r.judgeAll set)
  generalize (r.judgeAll set).judgeIndicators = t at *
  have changed (n : LineId) := lineDiffers_iff s.mu.tables.line[n] t.mu.tables.line[n]
  rw [← mu'] at lines judges
  have isHeld (z : ZoneId) : r.isPresentIn z = true ↔ ∃ n : LineId, (t.mu.tables.line[n]).role = .presence ∧
      (t.mu.tables.line[n]).zone = z.val ∧ (t.iou.lines[n]).accepted = true := by
    rw [State.isPresentIn_iff, mu', lines']
  have guarded : GuardsJudged s t := by
    rw [guardsJudged_iff, mgt] at guards
    exact guardsJudged_iff.mpr guards
  refine ⟨fun n => ⟨fun differs => ?_, fun same => ?_⟩, fun z => ?_, fun nil k p sc plays scene => ?_, guarded,
    indicators, sck'.trans sck, ports'.trans ports⟩
  · rw [lines', lines, if_pos ((changed n).mpr differs)]
  · rw [lines', lines, if_neg (mt (changed n).mp same)]
    rfl
  · have isJudged := judges z
    simp only [changed] at isJudged
    have taken := State.zone_taken (view z) isJudged (isHeld z)
    rw [zones, arb, mgt, ← mu'] at taken
    exact taken
  · have slot : r.seq.bare k = .playing { p with marks := 0 } := by
      rw [seq]
      exact State.bare_of_play plays
    have sceneSame : r.scene p.scene = some sc := by
      rw [State.scene, ← mu']
      exact scene
    have taken := State.slot_taken ⟨arb ▸ nil, sceneSame, .inl slot⟩ slot (view sc.home) (by rw [seq'])
    rw [zones] at taken
    exact taken

end Sys2Proof.Machine
end

section
/-! PROOF. The MU's beat and the completion of a load (R182, R183). -/

namespace Sys2Proof.Machine

variable {s : State} {l : Load} {st : MuState}

/-! ### The MU's beat -/

theorem State.muBeat_still (still : s.mu.st = .idle ∨ s.mu.st = .resetPending) : s.muBeat = s := by
  rcases still with st | st <;> rw [State.muBeat, st]

theorem State.muBeat_counts (loads : s.mu.st = .loading l) (more : 1 < l.writes) :
    s.muBeat = { s with mu := { s.mu with st := .loading { l with writes := l.writes - 1 } } } := by
  rw [State.muBeat, loads]
  exact if_neg (Nat.not_le.mpr more)

theorem State.muBeat_completes (loads : s.mu.st = .loading l) (last : l.writes ≤ 1) : s.muBeat = s.completeLoad l := by
  rw [State.muBeat, loads]
  exact if_pos last

theorem exec_loadComplete (loads : s.mu.st = .loading l) (last : l.writes ≤ 1) :
    exec .loadComplete s = .next (s.completeLoad l) := by
  have arm : exec .loadComplete s = execLoadComplete s := rfl
  rw [arm, execLoadComplete, loads]
  exact congrArg Host.Outcome.next (if_pos last)

/-! ### The checks of a completion -/

/-- The MU with its state set. -/
def State.muSt (st : MuState) (s : State) : State := s.onMu fun x => { x with st := st }

theorem State.muSt_inUse (i : Nat) (r : TableRec) : (s.muSt st).inUse i r = s.inUse i r := by
  cases r <;> rfl

/-- Whether records are in use does not depend on the MU's state. -/
theorem State.muSt_firstInUse (i : Nat) (recs : List TableRec) : (s.muSt st).firstInUse i recs = s.firstInUse i recs := by
  induction recs generalizing i with
  | nil => rfl
  | cons r rs ih => rw [State.firstInUse, State.firstInUse, State.muSt_inUse, ih]

theorem State.completeLoad_inUse {i : Nat} (inUse : s.firstInUse l.first l.recs = some i) :
    s.completeLoad l = (s.muSt .idle).reply 1 .inUse l.tag (put16 i) := by
  rw [← State.muSt_firstInUse (st := .idle)] at inUse
  unfold State.completeLoad
  dsimp only
  rw [← State.muSt, inUse]

section
variable (free : s.firstInUse l.first l.recs = none)
include free

theorem State.completeLoad_checked : s.completeLoad l =
    if l.table = 6 ∧ Config.lookPool < pairsInUse (writeRecs s.mu.tables l.first l.recs) then
      (s.muSt .idle).reply 1 .noSpace l.tag []
    else ((s.onMu fun _ => { st := .idle, tables := writeRecs s.mu.tables l.first l.recs }).afterLoad l s.mu.tables).reply 1
      .done l.tag [] := by
  rw [← State.muSt_firstInUse (st := .idle)] at free
  unfold State.completeLoad
  dsimp only
  rw [← State.muSt, free]
  rfl

end

/-! ### The blocks' share -/

/-- The state that a load's write gives the blocks, before they take the records. -/
def State.written (l : Load) (s : State) : State :=
  s.onMu fun _ => { st := .idle, tables := writeRecs s.mu.tables l.first l.recs }

/-- Each block takes the records of its table, and no other block any. -/
theorem State.afterLoad_taken (l : Load) (s : State) :
    let t := (s.written l).afterLoad l s.mu.tables
    (l.table ∈ [1, 3, 4, 6, 7, 8] → { t with mu := s.mu } = s) ∧
    (l.table = 2 → RouteTaken s t) ∧ (l.table = 5 → EnvTaken s t fun a => l.writesIndex a.val) ∧
    (l.table = 9 → LinesTaken s t) ∧ (l.table = 10 → TrigTaken s t) ∧
    (l.table = 11 → AlarmsTaken s t fun n => l.writesIndex n.val) := by
  refine ⟨fun other => ?_, fun table => ?_, fun table => ?_, fun table => ?_, fun table => ?_, fun table => ?_⟩
  · have same : (s.written l).afterLoad l s.mu.tables = s.written l := by
      unfold State.afterLoad
      simp only [List.mem_cons, List.not_mem_nil, or_false] at other
      rcases other with h | h | h | h | h | h <;> rw [h] <;> rfl
    rw [same]
    rfl
  · have share : (s.written l).afterLoad l s.mu.tables =
        (s.written l).onNmx (Nmx.clampDuck (s.written l).mu.tables.route) := by
      unfold State.afterLoad
      rw [table]
      rfl
    rw [share]
    exact clampDuck_taken _ s
  · have share : (s.written l).afterLoad l s.mu.tables = (s.written l).envsLoaded l s.mu.tables.env := by
      unfold State.afterLoad
      rw [table]
      rfl
    rw [share]
    exact envsLoaded_taken l _ s
  · have share : (s.written l).afterLoad l s.mu.tables = (s.written l).linesLoaded s.mu.tables.line := by
      unfold State.afterLoad
      rw [table]
      rfl
    rw [share]
    exact linesLoaded_taken _ s
  · have share : (s.written l).afterLoad l s.mu.tables = (s.written l).renewIndicators := by
      unfold State.afterLoad
      rw [table]
      rfl
    rw [share]
    exact renewIndicators_taken _ s
  · have share : (s.written l).afterLoad l s.mu.tables =
        (s.written l).onSck (Sck.alarmsLoaded l (s.written l).mu.tables.alrm) := by
      unfold State.afterLoad
      rw [table]
      rfl
    rw [share]
    exact alarmsLoaded_taken l _ s

/-- Settles O50: the beat by the MU's state, the completion by its two checks, and the blocks' share by the table. -/
theorem loadCompletes : Obligations.LoadCompletes := by
  refine ⟨fun b s => ⟨State.muBeat_still, fun l loads => ⟨State.muBeat_counts loads, fun last => ?_⟩⟩,
    fun l s loads last => ⟨fun i inUse => ?_, fun free table overflows => ?_, fun free fits => ?_⟩⟩
  · exact (exec_loadComplete loads last).trans (congrArg Host.Outcome.next (State.muBeat_completes loads last).symm)
  · rw [exec_loadComplete loads last, State.completeLoad_inUse inUse]
    rfl
  · rw [exec_loadComplete loads last, State.completeLoad_checked free, if_pos ⟨table, overflows⟩]
    rfl
  · refine ⟨(s.written l).afterLoad l s.mu.tables, ?_, ?_, ?_, State.afterLoad_taken l s⟩
    · rw [exec_loadComplete loads last, State.completeLoad_checked free,
        if_neg fun ⟨table, overflows⟩ => Nat.not_lt.mpr (fits table) overflows]
      rfl
    · exact congrArg Mu.st (State.afterLoad_frame (s.written l) l _).1
    · exact congrArg Mu.tables (State.afterLoad_frame (s.written l) l _).1

end Sys2Proof.Machine
end

section
/-! SUPPORT. The cues that an event cancels one by one, whatever ends their slots: the reports that the queue has room for,
and the ramps (R100, R101, R106). -/

namespace Sys2Proof.Machine

variable {s t u : State} {k j : SlotId} {c : Cue} {cause : CancelCause}

/-- One turn of an event that cancels cues: the slot's cue is cancelled, or no cue changes; reports only join. -/
structure CueTurn (cause : CancelCause) (k : SlotId) (s t : State) : Prop where
  cue : (t.nmx = s.nmx ∧ t.lco.cueLive = s.lco.cueLive ∧ t.sli = s.sli) ∨ CueCancelled k cause s t.askStatus
  reports : s.sli.Extends t.sli
  asked : s.sli.asked → t.sli.asked

/-- A step that leaves the NMX, the LIVE marks and the reports is such a turn. -/
theorem CueTurn.same (nmx : t.nmx = s.nmx) (live : t.lco.cueLive = s.lco.cueLive) (sli : t.sli = s.sli) :
    CueTurn cause k s t := ⟨.inl ⟨nmx, live, sli⟩, sli ▸ .refl _, sli ▸ id⟩

/-- A report that joins, or is dropped, leaves a STATUS asked for. -/
theorem Sli.asked.join {x : Sli} (h : x.asked) (r : Report) : (x.join r).asked := by
  by_cases room : x.ownQueue.length < 32
  · rw [Sli.join_room r room]
    exact h.imp (List.mem_append_left _) id
  · rw [Sli.join_full r (Nat.not_lt.mp room)]
    exact Sli.askStatus_asked _

theorem State.cancelCue_asked (cause : CancelCause) (k : SlotId) (h : s.sli.asked) : (s.cancelCue k cause).sli.asked := by
  obtain ⟨quiet, told⟩ := State.cancelCue_sli (k := k) cause s
  by_cases running : ∃ c, s.nmx.cues[k] = some c ∧ ¬c.ended
  · obtain ⟨c, hc, running⟩ := running
    rw [told c hc running]
    exact h.join _
  · rwa [quiet fun c hc => by_contra fun h => running ⟨c, hc, h⟩]

theorem State.cancelCue_turn (cause : CancelCause) (k : SlotId) (s : State) : CueTurn cause k s (s.cancelCue k cause) :=
  ⟨.inr (State.cancelCue_cancelled cause s), State.cancelCue_extends cause s, State.cancelCue_asked cause k⟩

/-- The end of a slot with the release of its claims is such a turn. -/
theorem State.freeSlot_cueTurn (reason : EndReason) (k : SlotId) (s : State) :
    CueTurn reason.cause k s (s.freeSlot k reason) := by
  cases hp : s.play k with
  | none =>
    rw [State.freeSlot_none hp]
    exact .same rfl rfl rfl
  | some p =>
    rw [State.freeSlot_ended hp]
    obtain ⟨sli, nmx, lco, -⟩ := State.ended_frame (k := k) (p := p) reason s
    have asked : (s.endSlot k reason {}).sli = ((s.slotDark k p reason {}).cancelCue k reason.cause).sli.askStatus :=
      (State.endSlot_cancelled hp reason {}).2.2
    refine ⟨.inr ((State.endSlot_cue hp reason {}).congr rfl rfl rfl ?_ (by simp only [State.askStatus_frame, nmx])
      (by simp only [State.askStatus_frame, lco])), ?_, fun _ => ?_⟩
    · rw [State.askStatus, State.onSli_sli, sli, asked, Sli.askStatus_idem]
    · rw [sli, asked]
      exact (State.cancelCue_extends reason.cause (s.slotDark k p reason {})).trans (Sli.askStatus_extends _)
    · rw [sli, asked]
      exact Sli.askStatus_asked _

/-! ### What a turn leaves of the cues -/

namespace CueTurn

theorem cues_other (turn : CueTurn cause k s t) (ne : j ≠ k) : t.nmx.cues[j] = s.nmx.cues[j] := by
  rcases turn.cue with ⟨nmx, -⟩ | ⟨cues, -⟩
  · rw [nmx]
  · exact (cues j).trans (if_neg ne)

/-- No turn makes a cue. -/
theorem cues_old (turn : CueTurn cause k s t) (hc : t.nmx.cues[j] = some c) : s.nmx.cues[j] = some c := by
  rcases turn.cue with ⟨nmx, -⟩ | ⟨cues, -⟩
  · rwa [← nmx]
  · have own : t.nmx.cues[j] = if j = k then none else s.nmx.cues[j] := cues j
    rw [own] at hc
    split at hc
    · cases hc
    · exact hc

theorem alone (turn : CueTurn cause k s t) (h : s.alone j c) : t.alone j c :=
  fun i d ne hd => h i d ne (turn.cues_old hd)

end CueTurn

/-! ### The ramp of a LIVE cue (R101) -/

/-- A cue that no other LIVE cue shares its stream with still stands, or has left its ramp and its slot's LIVE mark. -/
def State.cueRamped (j : SlotId) (c : Cue) (t : State) : Prop :=
  t.alone j c ∧ (t.nmx.cues[j] = some c ∨ t.nmx.cues[j] = none ∧
    t.nmx.ramps[c.stream] = some { outputs := c.outputs, gain := c.gain } ∧ t.lco.cueLive.getLsbD j = false)

/-- Every turn keeps the ramp of a LIVE cue that is alone on its stream, or makes it. -/
theorem CueTurn.ramped (turn : CueTurn cause k s t) (live : c.state = .live) (h : s.cueRamped j c) : t.cueRamped j c := by
  obtain ⟨alone, stands⟩ := h
  refine ⟨turn.alone alone, ?_⟩
  rcases turn.cue with ⟨nmx, dark, -⟩ | ⟨cues, -, -, told, silent, others, -⟩
  · rwa [nmx, dark]
  · have own : t.nmx.cues[j] = if j = k then none else s.nmx.cues[j] := cues j
    rcases stands with stands | ⟨gone, ramp, dark⟩
    · by_cases e : j = k
      · subst e
        obtain ⟨ramps, dark⟩ := told c stands live
        refine .inr ⟨own.trans (if_pos rfl), ?_, dark⟩
        exact (congrArg (·[c.stream]) ramps).trans (by rw [getElem_set_at, if_pos rfl])
      · exact .inl (own.trans ((if_neg e).trans stands))
    · refine .inr ⟨own.trans (by rw [gone]; split <;> rfl), ?_, ?_⟩
      · by_cases loud : ∃ d, s.nmx.cues[k] = some d ∧ d.state = .live
        · obtain ⟨d, hd, loud⟩ := loud
          have ne : k ≠ j := fun e => by rw [e, gone] at hd; cases hd
          have apart : d.stream ≠ c.stream := alone k d ne hd loud
          refine (congrArg (·[c.stream]) (told d hd loud).1).trans ?_
          rw [getElem_set_at, if_neg (Ne.symm apart), ramp]
        · exact (congrArg (·[c.stream]) (silent fun d hd h => loud ⟨d, hd, h⟩).1).trans ramp
      · by_cases e : j = k
        · subst e
          exact (silent fun d hd => by rw [gone] at hd; cases hd).2.trans dark
        · exact (others j e).trans dark

/-! ### The report of a cue that runs (R100) -/

/-- The slots that have a cue. -/
def State.cueSlots (s : State) : Finset SlotId := Finset.univ.filter fun k => (s.nmx.cues[k]).isSome = true

theorem State.mem_cueSlots : k ∈ s.cueSlots ↔ ∃ c, s.nmx.cues[k] = some c := by
  rw [State.cueSlots, Finset.mem_filter, Option.isSome_iff_exists]
  exact ⟨And.right, fun h => ⟨Finset.mem_univ k, h⟩⟩

theorem CueTurn.cueSlots_subset (turn : CueTurn cause k s t) : t.cueSlots ⊆ s.cueSlots := fun j hj => by
  obtain ⟨c, hc⟩ := State.mem_cueSlots.mp hj
  exact State.mem_cueSlots.mpr ⟨c, turn.cues_old hc⟩

/-- The queue has a STATUS waiting, and room for the report of each cue that still stands; a cue stands or is reported. -/
def State.cueReported (cause : CancelCause) (j : SlotId) (c : Cue) (t : State) : Prop :=
  t.sli.waiting ∧ t.sli.ownQueue.length + t.cueSlots.card ≤ 32 ∧
  (t.nmx.cues[j] = some c ∨ .cueCancel (cueInfo j c) cause ∈ t.sli.ownQueue)

/-- While a STATUS waits, a turn on a slot whose cue does not run queues nothing. -/
theorem CueTurn.silent (turn : CueTurn cause k s t) (waits : s.sli.waiting)
    (ended : ∀ d, s.nmx.cues[k] = some d → d.ended) :
    t.sli = s.sli := by
  rcases turn.cue with ⟨-, -, sli⟩ | ⟨-, quiet, -⟩
  · exact sli
  · have asked : t.askStatus.sli = t.sli := Sli.askStatus_waiting (turn.reports.waiting waits)
    rw [asked] at quiet
    exact (quiet ended).trans (Sli.askStatus_waiting waits)

/-- While a STATUS waits and there is room, a turn on a slot whose cue runs queues its report, if it cancels it. -/
theorem CueTurn.tells (turn : CueTurn cause k s t) (waits : s.sli.waiting) (room : s.sli.ownQueue.length < 32)
    (hc : s.nmx.cues[k] = some c) (running : ¬c.ended) : (t.nmx = s.nmx ∧ t.sli = s.sli) ∨
    (t.nmx.cues[k] = none ∧ t.sli.ownQueue = s.sli.ownQueue ++ [.cueCancel (cueInfo k c) cause]) := by
  rcases turn.cue with ⟨nmx, -, sli⟩ | ⟨cues, -, told, -⟩
  · exact .inl ⟨nmx, sli⟩
  · have asked : t.askStatus.sli = t.sli := Sli.askStatus_waiting (turn.reports.waiting waits)
    have joined : t.sli = s.sli.join (.cueCancel (cueInfo k c) cause) := by
      rw [← asked, (told c hc running).1 room, ← Sli.join_room _ room]
      exact Sli.askStatus_waiting ((Sli.join_extends _ _).waiting waits)
    exact .inr ⟨(cues k).trans (if_pos rfl), by rw [joined, Sli.join_room _ room]⟩

theorem CueTurn.cueSlots_less (turn : CueTurn cause k s t) (hc : s.nmx.cues[k] = some c) (gone : t.nmx.cues[k] = none) :
    t.cueSlots.card + 1 ≤ s.cueSlots.card := by
  have mem : k ∈ s.cueSlots := State.mem_cueSlots.mpr ⟨c, hc⟩
  refine Finset.card_lt_card ((Finset.ssubset_iff_of_subset turn.cueSlots_subset).mpr ⟨k, mem, fun stands => ?_⟩)
  obtain ⟨d, hd⟩ := State.mem_cueSlots.mp stands
  rw [gone] at hd
  cases hd

/-- Every turn keeps the room for the reports, and reports a cue that runs or leaves it. -/
theorem CueTurn.reported (turn : CueTurn cause k s t) (running : ¬c.ended) (h : s.cueReported cause j c) :
    t.cueReported cause j c := by
  obtain ⟨waits, room, stands⟩ := h
  have kept : .cueCancel (cueInfo j c) cause ∈ s.sli.ownQueue → .cueCancel (cueInfo j c) cause ∈ t.sli.ownQueue :=
    fun told => turn.reports.queue.subset told
  have other (ne : j ≠ k) : t.nmx.cues[j] = some c ∨ .cueCancel (cueInfo j c) cause ∈ t.sli.ownQueue :=
    stands.imp (turn.cues_other ne).trans kept
  refine ⟨turn.reports.waiting waits, ?_⟩
  by_cases loud : ∃ d, s.nmx.cues[k] = some d ∧ ¬d.ended
  · obtain ⟨d, hd, loud⟩ := loud
    have some : 0 < s.cueSlots.card := Finset.card_pos.mpr ⟨k, State.mem_cueSlots.mpr ⟨d, hd⟩⟩
    rcases turn.tells waits (by omega) hd loud with ⟨nmx, sli⟩ | ⟨gone, queue⟩
    · have slots : t.cueSlots = s.cueSlots := by rw [State.cueSlots, State.cueSlots, nmx]
      rw [sli, slots, nmx]
      exact ⟨room, stands⟩
    · have less := turn.cueSlots_less hd gone
      refine ⟨by rw [queue, List.length_append, List.length_singleton]; omega, ?_⟩
      by_cases e : j = k
      · subst e
        refine .inr (stands.elim (fun hc => ?_) kept)
        obtain rfl := Option.some.inj (hc.symm.trans hd)
        rw [queue]
        exact List.mem_append_right _ (List.mem_singleton_self _)
      · exact other e
  · have fewer := Finset.card_le_card turn.cueSlots_subset
    have same := turn.silent waits fun d hd => by_contra fun h => loud ⟨d, hd, h⟩
    refine ⟨by rw [same]; omega, ?_⟩
    by_cases e : j = k
    · subst e
      exact .inr (stands.elim (fun hc => absurd ⟨c, hc, running⟩ loud) kept)
    · exact other e

end Sys2Proof.Machine
end

section
/-! SUPPORT. A show stop (R62): the slots that it ends one by one, with their claims and axes. -/

namespace Sys2Proof.Machine

variable {s t u : State} {k j : SlotId} {p : PlayRec} {a : AxisId} {x : ResourceId}

/-! ### The end of one slot -/

/-- A slot of a show that stops: one that plays ends SHOW-STOP. -/
def State.stoppedSlot (s : State) (k : SlotId) : Slot :=
  match s.held k with
  | some (scene, _) => .free (some scene) .showStop
  | none => s.seq.bare k

theorem State.freeSlot_bare (k : SlotId) (s : State) (j : SlotId) : (s.freeSlot k .showStop).seq.bare j =
    if j = k then s.stoppedSlot k else s.seq.bare j := by
  cases hp : s.play k with
  | none =>
    rw [State.freeSlot_none hp, State.stoppedSlot, State.held_eq_none.mpr hp]
    split
    · next e => rw [e]
    · rfl
  | some p =>
    rw [State.freeSlot_some hp, State.releaseClaims_bare, State.endSlot_bare hp, State.stoppedSlot,
      State.held_of_play hp]

/-- A slot plays a scene of whose claims something holds. -/
def State.claiming (s : State) (k : SlotId) (P : Claims → Prop) : Prop := ∃ m c, s.held k = some (m, c) ∧ P c

/-- A slot plays a scene that claims a resource. -/
abbrev State.holdsResource (s : State) (k : SlotId) (x : ResourceId) : Prop := s.claiming k fun c => c.mask.getLsbD x = true

/-- A slot plays a scene that claims an axis. -/
abbrev State.holdsAxis (s : State) (k : SlotId) (a : AxisId) : Prop := s.claiming k fun c => c.axes.getLsbD a = true

theorem State.claiming_iff {P : Claims → Prop} : s.claiming k P ↔ ∃ p, s.play k = some p ∧ P p.claims := by
  constructor
  · rintro ⟨m, c, held, claims⟩
    obtain ⟨p, hp, -, rfl⟩ := State.held_eq_some.mp held
    exact ⟨p, hp, claims⟩
  · rintro ⟨p, hp, claims⟩
    exact ⟨p.scene, p.claims, State.held_of_play hp, claims⟩

theorem State.freeSlot_claiming {reason : EndReason} {P : Claims → Prop} :
    (s.freeSlot j reason).claiming k P ↔ k ≠ j ∧ s.claiming k P := by
  unfold State.claiming
  rw [State.freeSlot_held]
  split
  · next e => exact ⟨fun ⟨_, _, h, _⟩ => (nomatch h), fun h => absurd e h.1⟩
  · next ne => exact ⟨fun h => ⟨ne, h⟩, And.right⟩

/-- The end of a slot frees the claims that it owns (R50). -/
theorem State.freeSlot_owner (reason : EndReason) (k : SlotId) (x : ResourceId) (s : State) :
    (s.arb.owners[x] = some k → s.holdsResource k x → (s.freeSlot k reason).arb.owners[x] = none) ∧
    (¬(s.arb.owners[x] = some k ∧ s.holdsResource k x) → (s.freeSlot k reason).arb.owners[x] = s.arb.owners[x]) := by
  rw [State.holdsResource, State.claiming_iff]
  cases hp : s.play k with
  | none =>
    rw [State.freeSlot_none hp]
    exact ⟨fun _ ⟨p, h, _⟩ => (nomatch h), fun _ => rfl⟩
  | some p =>
    have arb : (s.endSlot k reason {}).arb = s.arb := by simp only [State.endSlot_frame]
    rw [State.freeSlot_some hp, State.releaseClaims_owners, arb]
    refine ⟨fun own ⟨q, hq, claims⟩ => ?_, fun other => if_neg fun h => other ?_⟩
    · obtain rfl := Option.some.inj hq
      rw [claims, own]
      simp
    · obtain ⟨claims, own⟩ := (Bool.and_eq_true ..).mp h
      exact ⟨beq_iff_eq.mp own, p, rfl, claims⟩

/-- Beside the owners, the end of a slot leaves the ARB. -/
theorem State.freeSlot_arb_rest (reason : EndReason) (k : SlotId) (s : State) :
    { (s.freeSlot k reason).arb with owners := s.arb.owners } = s.arb := by
  cases hp : s.play k with
  | none => rw [State.freeSlot_none hp]
  | some p =>
    have arb : (s.endSlot k reason {}).arb = s.arb := by simp only [State.endSlot_frame]
    rw [State.freeSlot_some hp, State.releaseClaims_arb_eq, arb]

/-- Beside the axes, the end of a slot leaves the MGT. -/
theorem State.freeSlot_mgt (reason : EndReason) (k : SlotId) (s : State) :
    (s.freeSlot k reason).mgt.powerFault = s.mgt.powerFault ∧
    (s.freeSlot k reason).mgt.showStopped = s.mgt.showStopped := by
  cases hp : s.play k with
  | none =>
    rw [State.freeSlot_none hp]
    exact ⟨rfl, rfl⟩
  | some p =>
    have rest := State.endSlot_mgt_rest (s := s) (k := k) reason {}
    have power : (s.endSlot k reason {}).mgt.powerFault = s.mgt.powerFault := (congrArg Mgt.powerFault rest :)
    have stopped : (s.endSlot k reason {}).mgt.showStopped = s.mgt.showStopped := (congrArg Mgt.showStopped rest :)
    rw [State.freeSlot_some hp, State.releaseClaims]
    simp only [State.judgeAxes_mgt, State.onArb_mgt]
    exact ⟨power, stopped⟩

/-- The end of a slot takes keyframe and scene target from the axes of its claims (R117). -/
theorem State.freeSlot_targets (reason : EndReason) (k : SlotId) (a : AxisId) (s : State) :
    let x := s.mgt.axes[a]
    let y := (s.freeSlot k reason).mgt.axes[a]
    (s.holdsAxis k a → y.keyframe = none ∧ y.sceneTarget = none) ∧
    (¬s.holdsAxis k a → y.keyframe = x.keyframe ∧ y.sceneTarget = x.sceneTarget) := by
  rw [State.holdsAxis, State.claiming_iff]
  cases hp : s.play k with
  | none =>
    rw [State.freeSlot_none hp]
    exact ⟨fun ⟨p, h, _⟩ => (nomatch h), fun _ => ⟨rfl, rfl⟩⟩
  | some p =>
    have record := State.ended_axes hp reason a
    rw [← State.freeSlot_ended hp] at record
    have keyframe := congrArg Axis.keyframe record
    have sceneTarget := congrArg Axis.sceneTarget record
    dsimp only at keyframe sceneTarget ⊢
    rw [keyframe, sceneTarget]
    refine ⟨fun ⟨q, hq, claims⟩ => ?_, fun other => ?_⟩
    · obtain rfl := Option.some.inj hq
      rw [if_pos claims, if_pos claims]
      exact ⟨rfl, rfl⟩
    · have out : ¬p.claims.axes.getLsbD a = true := fun claims => other ⟨p, rfl, claims⟩
      rw [if_neg out, if_neg out]
      exact ⟨rfl, rfl⟩

/-! ### The axes, whose modes are judged again and again -/

/-- Whether an axis is sending turns on its envelope, the power, and its presence and position alone. -/
theorem State.modeOf_sending (env : t.mu.tables.env = s.mu.tables.env) (power : t.mgt.powerFault = s.mgt.powerFault)
    (present : (t.mgt.axes[a]).present = (s.mgt.axes[a]).present) (pos : (t.mgt.axes[a]).pos = (s.mgt.axes[a]).pos) :
    (t.modeOf a).isSending = (s.modeOf a).isSending := by
  rw [State.modeOf_eq, State.modeOf_eq, env, power]
  exact judgedMode_sending present pos ..

/-- An axis may have been judged since, and have lost keyframe and scene target; one that moves has kept its step. -/
structure AxisKept (a : AxisId) (s t : State) : Prop where
  env : t.mu.tables.env = s.mu.tables.env
  power : t.mgt.powerFault = s.mgt.powerFault
  record : t.mgt.axes[a] = { s.mgt.axes[a] with
    mode := (t.mgt.axes[a]).mode, step := (t.mgt.axes[a]).step, resetHold := (t.mgt.axes[a]).resetHold
    keyframe := (t.mgt.axes[a]).keyframe, sceneTarget := (t.mgt.axes[a]).sceneTarget }
  moves : (s.modeOf a).isSending = true →
    (t.mgt.axes[a]).step = (s.mgt.axes[a]).step ∧ (t.mgt.axes[a]).resetHold = (s.mgt.axes[a]).resetHold

namespace AxisKept

theorem same (env : t.mu.tables.env = s.mu.tables.env) (power : t.mgt.powerFault = s.mgt.powerFault)
    (axis : t.mgt.axes[a] = s.mgt.axes[a]) : AxisKept a s t :=
  ⟨env, power, by rw [axis], fun _ => by rw [axis]; exact ⟨rfl, rfl⟩⟩

/-- An axis moves on as it did: that does not turn on what a judgement or a drop changes. -/
theorem sending (h : AxisKept a s t) : (t.modeOf a).isSending = (s.modeOf a).isSending :=
  State.modeOf_sending h.env h.power (congrArg Axis.present h.record :) (congrArg Axis.pos h.record :)

theorem trans (h : AxisKept a s t) (g : AxisKept a t u) : AxisKept a s u := by
  refine ⟨g.env.trans h.env, g.power.trans h.power, ?_, fun moves => ?_⟩
  · have record := g.record
    rw [h.record] at record
    exact record
  · obtain ⟨step, hold⟩ := g.moves (h.sending.trans moves)
    obtain ⟨step', hold'⟩ := h.moves moves
    exact ⟨step.trans step', hold.trans hold'⟩

/-- An axis whose mode has been judged, perhaps with its keyframe and scene target dropped. -/
theorem judged (env : t.mu.tables.env = s.mu.tables.env) (power : t.mgt.powerFault = s.mgt.powerFault)
    (record : t.mgt.axes[a] = { s.mgt.axes[a] with
      mode := t.modeOf a, step := if (t.modeOf a).isSending then (s.mgt.axes[a]).step else 0
      resetHold := (t.modeOf a).isSending && (s.mgt.axes[a]).resetHold
      keyframe := (t.mgt.axes[a]).keyframe, sceneTarget := (t.mgt.axes[a]).sceneTarget }) : AxisKept a s t := by
  have sending : (t.modeOf a).isSending = (s.modeOf a).isSending :=
    State.modeOf_sending env power (congrArg Axis.present record :) (congrArg Axis.pos record :)
  have step := congrArg Axis.step record
  have hold := congrArg Axis.resetHold record
  dsimp only at step hold
  refine ⟨env, power, ?_, fun moves => ?_⟩
  · rw [congrArg Axis.mode record, step, hold]
    exact record
  · rw [step, hold, sending, moves]
    exact ⟨rfl, Bool.true_and _⟩

end AxisKept

theorem State.judgeAxes_kept (a : AxisId) (s : State) : AxisKept a s s.judgeAxes := by
  have record := State.judgeAxes_axes a s
  rw [← State.judgeAxes_modeOf, Axis.enter_eq] at record
  refine .judged (by simp only [State.judgeAxes_frame]) (by simp only [State.judgeAxes_mgt]) (record.trans ?_)
  rw [congrArg Axis.keyframe record, congrArg Axis.sceneTarget record]

theorem State.freeSlot_kept (reason : EndReason) (k : SlotId) (a : AxisId) (s : State) :
    AxisKept a s (s.freeSlot k reason) := by
  cases hp : s.play k with
  | none =>
    rw [State.freeSlot_none hp]
    exact .same rfl rfl rfl
  | some p =>
    have record := State.ended_axes hp reason a
    rw [← State.freeSlot_ended hp] at record
    refine .judged (by simp only [State.freeSlot_frame]) (State.freeSlot_mgt reason k s).1 (record.trans ?_)
    rw [congrArg Axis.keyframe record, congrArg Axis.sceneTarget record]

/-- The mode of an axis once the show is STOPPED (R121). -/
theorem judgedMode_stopped {x y : Axis} (present : y.present = x.present) (pos : y.pos = x.pos)
    (guarded : y.guarded = x.guarded) (e : EnvRec) (fault stopped unowned unowned' fresh fresh' : Bool) :
    judgedMode e fault true unowned' fresh' y =
      if (judgedMode e fault stopped unowned fresh x).isSending then (if x.guarded then .guarded else .holding)
      else judgedMode e fault stopped unowned fresh x := by
  unfold judgedMode
  rw [present, pos, guarded]
  by_cases off : (!e.enable) = true
  · simp only [if_pos off]
    rfl
  by_cases out : (x.present && !inRange e x.pos) = true
  · simp only [if_neg off, if_pos out]
    rfl
  by_cases broken : fault = true
  · simp only [if_neg off, if_neg out, if_pos broken]
    rfl
  by_cases absent : (!x.present) = true
  · simp only [if_neg off, if_neg out, if_neg broken, if_pos absent]
    rfl
  simp only [if_neg off, if_neg out, if_neg broken, if_neg absent, Bool.true_or, if_true]
  by_cases guard : x.guarded = true
  · simp only [if_pos guard]
    rfl
  · simp only [if_neg guard]
    split <;> rfl

end Sys2Proof.Machine
end

section
/-! SUPPORT. A show stop as a whole, block by block (R62, R64, R77, R106, R121). -/

namespace Sys2Proof.Machine

variable {s t : State} {k j : SlotId} {c : Cue} {a : AxisId} {x : ResourceId}

/-! ### Before the slots end -/

/-- The show is STOPPED in every block and the queued requests have left; the slots play on. -/
def State.halted (s : State) : State := (s.setShow true).departAll (fun _ => true) .showStop

theorem State.halted_arb (s : State) : s.halted.arb = { s.arb with
    showStopped := true, queue := []
    log := departuresLogged .showStop s.arb.queue s.arb
    nextNumber := s.arb.nextNumber + BitVec.ofNat 16 s.arb.queue.length } := by
  have arb : (s.setShow true).arb = { s.arb with showStopped := true } := rfl
  have all : s.arb.queue.filter (fun _ => true) = s.arb.queue := by simp
  have none : s.arb.queue.filter (fun _ => !true) = [] := by simp
  rw [State.halted, State.departAll_arb_eq, arb, all, none]
  rfl

theorem State.halted_frame (s : State) : s.halted.mu = s.mu ∧ s.halted.seq = s.seq ∧ s.halted.lco = s.lco ∧
    s.halted.nmx = s.nmx ∧ s.halted.ports = s.ports ∧ s.halted.mgt = { s.mgt with showStopped := true } ∧
    s.halted.iou = { s.iou with showStopped := true } ∧
    s.halted.sck = { s.sck with showStopped := true, showNews := true } := by
  simp only [State.halted, State.departAll_frame, State.setShow_frame, true_and]
  exact ⟨rfl, rfl, rfl⟩

/-- A STATUS is asked for, once (R61). -/
theorem State.halted_sli (s : State) : s.halted.sli = s.sli.askStatus := by
  have departs : ∀ (rs : List Request) (t : State), t.sli = s.sli.askStatus →
      (rs.foldl (fun t r => t.depart r .showStop) t).sli = s.sli.askStatus := by
    intro rs
    induction rs with
    | nil => exact fun t h => h
    | cons r rs ih =>
      refine fun t h => ih _ ?_
      have asks : (t.depart r .showStop).sli = t.sli.askStatus := rfl
      rw [asks, h, Sli.askStatus_idem]
  exact departs _ _ rfl

theorem State.halted_held (s : State) : s.halted.held = s.held :=
  State.held_of_bare (congrArg Seq.bare s.halted_frame.2.1)

theorem State.halted_claiming {P : Claims → Prop} : s.halted.claiming k P ↔ s.claiming k P := by
  rw [State.claiming, State.claiming, s.halted_held]

/-! ### The slots -/

/-- Every PLAYING slot ends SHOW-STOP, with the release of its claims. -/
@[irreducible] def State.slotsStopped (s : State) : State := forEach 8 (fun k => State.freeSlot k .showStop) s

/-- What the end of each slot keeps is kept. -/
theorem State.slotsStopped_inv {P : State → Prop} (turn : ∀ k t, P t → P (t.freeSlot k .showStop)) (h : P s) :
    P s.slotsStopped := by
  unfold State.slotsStopped
  exact forEach_inv turn s h

/-- What holds until a slot's end, what its end makes of it, and that it stays. -/
theorem State.slotsStopped_through {P Q : State → Prop} (k : SlotId)
    (before : ∀ i t, i ≠ k → P t → P (t.freeSlot i .showStop)) (turn : ∀ t, P t → Q (t.freeSlot k .showStop))
    (after : ∀ i t, Q t → Q (t.freeSlot i .showStop)) (h : P s) : Q s.slotsStopped := by
  unfold State.slotsStopped forEach
  exact foldl_through (f := fun t i => State.freeSlot i .showStop t) before turn (fun i t _ => after i t)
    (List.nodup_finRange 8) (List.mem_finRange k) h

theorem State.slotsStopped_bare (k : SlotId) (s : State) : s.slotsStopped.seq.bare k = s.stoppedSlot k := by
  unfold State.slotsStopped
  refine forEach_at (f := fun k => State.freeSlot k .showStop) (i := k) (view := fun t : State => t.seq.bare k)
    (g := fun t => t.stoppedSlot k) (fun j t ne => ?_) (fun t => ?_) (fun j t ne => ?_) s
  · rw [State.freeSlot_bare, if_neg ne.symm]
  · rw [State.freeSlot_bare, if_pos rfl]
  · simp only [State.stoppedSlot, State.freeSlot_held, State.freeSlot_bare, if_neg ne.symm]

theorem State.slotsStopped_frame (s : State) : s.slotsStopped.mu = s.mu ∧ s.slotsStopped.sck = s.sck ∧
    s.slotsStopped.iou = s.iou ∧ s.slotsStopped.ports = s.ports ∧
    s.slotsStopped.mgt.showStopped = s.mgt.showStopped := by
  refine State.slotsStopped_inv (P := fun t => t.mu = s.mu ∧ t.sck = s.sck ∧ t.iou = s.iou ∧ t.ports = s.ports ∧
    t.mgt.showStopped = s.mgt.showStopped) (fun k t h => ?_) ⟨rfl, rfl, rfl, rfl, rfl⟩
  simp only [State.freeSlot_frame, (State.freeSlot_mgt .showStop k t).2]
  exact h

/-- Beside the owners, the ends of the slots leave the ARB. -/
theorem State.slotsStopped_arb (s : State) : s.slotsStopped.arb = { s.arb with owners := s.slotsStopped.arb.owners } := by
  have kept : { s.slotsStopped.arb with owners := s.arb.owners } = s.arb :=
    State.slotsStopped_inv (P := fun t => { t.arb with owners := s.arb.owners } = s.arb)
      (fun k t h => (congrArg (fun x : Arb => { x with owners := s.arb.owners })
        (State.freeSlot_arb_rest .showStop k t)).trans h) rfl
  exact (congrArg (fun x : Arb => { x with owners := s.slotsStopped.arb.owners }) kept :)

/-- The claims of the slots that a show stop ends are free (R50). -/
theorem State.slotsStopped_freed (own : s.arb.owners[x] = some k) (claims : s.holdsResource k x) :
    s.slotsStopped.arb.owners[x] = none := by
  refine State.slotsStopped_through (P := fun t => t.arb.owners[x] = some k ∧ t.holdsResource k x)
    (Q := fun t => t.arb.owners[x] = none) k (fun i t ne h => ?_)
    (fun t h => (State.freeSlot_owner .showStop k x t).1 h.1 h.2) (fun i t free => ?_) ⟨own, claims⟩
  · obtain ⟨own, claims⟩ := h
    have other : ¬(t.arb.owners[x] = some i ∧ t.holdsResource i x) := fun h =>
      ne (Option.some.inj (h.1.symm.trans own))
    exact ⟨((State.freeSlot_owner .showStop i x t).2 other).trans own,
      State.freeSlot_claiming.mpr ⟨ne.symm, claims⟩⟩
  · have unowned : ¬(t.arb.owners[x] = some i ∧ t.holdsResource i x) := fun h => by
      rw [free] at h
      cases h.1
    exact ((State.freeSlot_owner .showStop i x t).2 unowned).trans free

/-- The other claims stay as they were. -/
theorem State.slotsStopped_owned (other : ∀ k, ¬(s.arb.owners[x] = some k ∧ s.holdsResource k x)) :
    s.slotsStopped.arb.owners[x] = s.arb.owners[x] := by
  refine (State.slotsStopped_inv (P := fun t => t.arb.owners[x] = s.arb.owners[x] ∧
    ∀ k, ¬(s.arb.owners[x] = some k ∧ t.holdsResource k x)) (fun i t ⟨same, others⟩ => ?_) ⟨rfl, other⟩).1
  exact ⟨((State.freeSlot_owner .showStop i x t).2 (same ▸ others i)).trans same, fun k ⟨own, claims⟩ =>
    others k ⟨own, (State.freeSlot_claiming.mp claims).2⟩⟩

/-! ### The axes -/

theorem State.slotsStopped_kept (a : AxisId) (s : State) : AxisKept a s s.slotsStopped :=
  State.slotsStopped_inv (P := AxisKept a s) (fun k t h => h.trans (State.freeSlot_kept .showStop k a t))
    (.same rfl rfl rfl)

/-- The axes of the slots that a show stop ends lose keyframe and scene target (R117). -/
theorem State.slotsStopped_dropped (claims : s.holdsAxis k a) :
    (s.slotsStopped.mgt.axes[a]).keyframe = none ∧ (s.slotsStopped.mgt.axes[a]).sceneTarget = none := by
  refine State.slotsStopped_through (P := fun t => t.holdsAxis k a)
    (Q := fun t => (t.mgt.axes[a]).keyframe = none ∧ (t.mgt.axes[a]).sceneTarget = none) k
    (fun i t ne claims => State.freeSlot_claiming.mpr ⟨ne.symm, claims⟩)
    (fun t claims => (State.freeSlot_targets .showStop k a t).1 claims) (fun i t ⟨keyframe, target⟩ => ?_) claims
  by_cases also : t.holdsAxis i a
  · exact (State.freeSlot_targets .showStop i a t).1 also
  · obtain ⟨keyframe', target'⟩ := (State.freeSlot_targets .showStop i a t).2 also
    exact ⟨keyframe'.trans keyframe, target'.trans target⟩

/-- The other axes keep them. -/
theorem State.slotsStopped_targets (other : ∀ k, ¬s.holdsAxis k a) :
    (s.slotsStopped.mgt.axes[a]).keyframe = (s.mgt.axes[a]).keyframe ∧
    (s.slotsStopped.mgt.axes[a]).sceneTarget = (s.mgt.axes[a]).sceneTarget := by
  refine (State.slotsStopped_inv (P := fun t => ((t.mgt.axes[a]).keyframe = (s.mgt.axes[a]).keyframe ∧
    (t.mgt.axes[a]).sceneTarget = (s.mgt.axes[a]).sceneTarget) ∧ ∀ k, ¬t.holdsAxis k a)
    (fun i t ⟨⟨keyframe, target⟩, others⟩ => ?_) ⟨⟨rfl, rfl⟩, other⟩).1
  obtain ⟨keyframe', target'⟩ := (State.freeSlot_targets .showStop i a t).2 (others i)
  exact ⟨⟨keyframe'.trans keyframe, target'.trans target⟩, fun k claims =>
    others k (State.freeSlot_claiming.mp claims).2⟩

/-! ### The lights and the cues -/

/-- What the cancellation of each cue keeps is kept. -/
theorem State.cancelAllCues_inv {P : State → Prop} (turn : ∀ k t, P t → P (t.cancelCue k .showStop)) (h : P s) :
    P s.cancelAllCues := by
  unfold State.cancelAllCues
  exact forEach_inv turn s h

theorem State.cancelAllCues_lco (s : State) : s.cancelAllCues.lco.channels = s.lco.channels ∧
    s.cancelAllCues.lco.effects = s.lco.effects := by
  refine State.cancelAllCues_inv (P := fun t => t.lco.channels = s.lco.channels ∧ t.lco.effects = s.lco.effects)
    (fun k t h => ?_) ⟨rfl, rfl⟩
  rw [State.cancelCue_lco]
  exact h

/-- The show stop cancels every cue (R106). -/
theorem State.cancelAllCues_cues (k : SlotId) (s : State) : s.cancelAllCues.nmx.cues[k] = none := by
  unfold State.cancelAllCues
  refine forEach_all (P := fun k (t : State) => t.nmx.cues[k] = none) (fun k t => ?_) (fun k j t gone => ?_) k s
  · rw [State.cancelCue_cues, if_pos rfl]
  · rw [State.cancelCue_cues, gone]
    split <;> rfl

/-! ### The whole stop -/

/-- The state of a show stop in which the modes and the indicators are judged once more. -/
@[irreducible] def State.silenced (s : State) : State := (s.halted.slotsStopped.onLco Lco.dropAll).cancelAllCues

theorem State.stopShow_eq (running : s.arb.showStopped = false) : s.stopShow = s.silenced.judgeAxes.judgeIndicators := by
  unfold State.silenced State.slotsStopped
  rw [State.stopShow, if_neg (by rw [running]; exact Bool.false_ne_true)]
  rfl

theorem State.dropAll_turn (s : State) : CueTurn .showStop k s (s.onLco Lco.dropAll) := by
  have live (x : Lco) : x.dropAll.cueLive = x.cueLive := by simp only [Lco.dropAll, Lco.mapChannels]
  exact .same (by simp only [State.onLco_nmx]) (by simp only [State.onLco_lco, live]) (by simp only [State.onLco_sli])

/-- What every turn that cancels cues keeps is kept from the departures on to the end of the stop. -/
theorem State.stopShow_turns {P : State → Prop} (running : s.arb.showStopped = false)
    (turns : ∀ k t u, CueTurn .showStop k t u → P t → P u) (start : P s.halted) : P s.stopShow := by
  have silent : P s.silenced := by
    unfold State.silenced
    refine State.cancelAllCues_inv (fun k t => turns k t _ (State.cancelCue_turn .showStop k t)) ?_
    refine turns 0 _ _ (State.dropAll_turn _) ?_
    exact State.slotsStopped_inv (fun k t => turns k t _ (State.freeSlot_cueTurn .showStop k t)) start
  rw [State.stopShow_eq running]
  refine turns 0 _ _ (.same ?_ ?_ ?_) silent
  · simp only [State.judgeIndicators_frame, State.judgeAxes_frame]
  · rw [(State.judgeIndicators_effects _).2]
    simp only [State.judgeAxes_frame]
  · simp only [State.judgeIndicators_frame, State.judgeAxes_frame]

theorem State.silenced_frame (s : State) : s.silenced.mu = s.mu ∧ s.silenced.ports = s.ports ∧
    s.silenced.sck = { s.sck with showStopped := true, showNews := true } ∧
    s.silenced.iou = { s.iou with showStopped := true } ∧ s.silenced.arb = s.halted.slotsStopped.arb ∧
    s.silenced.seq = s.halted.slotsStopped.seq ∧ s.silenced.mgt = s.halted.slotsStopped.mgt := by
  obtain ⟨mu, -, -, -, ports, -, iou, sck⟩ := s.halted_frame
  obtain ⟨mu', sck', iou', ports', -⟩ := s.halted.slotsStopped_frame
  rw [mu] at mu'
  rw [sck] at sck'
  rw [iou] at iou'
  rw [ports] at ports'
  unfold State.silenced
  generalize s.halted.slotsStopped = u at *
  simp only [State.cancelAllCues_frame, State.onLco_mu, State.onLco_ports, State.onLco_sck, State.onLco_iou,
    State.onLco_arb, State.onLco_seq, State.onLco_mgt, and_true]
  exact ⟨mu', ports', sck', iou'⟩

end Sys2Proof.Machine
end

section
/-! SUPPORT. A show that stops is as `StoppedShow` and `CuesCancelled` have it (R61, R62). -/

namespace Sys2Proof.Machine

variable {s t : State} {k : SlotId} {c : Cue}

theorem Cue.not_ended (c : Cue) (h : c.state = .requested ∨ c.state = .pending ∨ c.state = .live) : ¬c.ended := by
  unfold Cue.ended
  rcases h with e | e | e <;> simp [e]

section
variable (running : s.arb.showStopped = false)
include running

/-! ### The cues -/

theorem State.stopShow_cues (k : SlotId) : s.stopShow.nmx.cues[k] = none := by
  have nmx : s.stopShow.nmx = s.silenced.nmx := by
    rw [State.stopShow_eq running]
    simp only [State.judgeIndicators_frame, State.judgeAxes_frame]
  rw [nmx]
  unfold State.silenced
  exact State.cancelAllCues_cues k _

/-- The report of a cue that runs joins where the queue has room for all of them (R100). -/
theorem State.stopShow_reports (hc : s.nmx.cues[k] = some c) (loud : ¬c.ended) (few : s.sli.ownQueue.length ≤ 23) :
    .cueCancel (cueInfo k c) .showStop ∈ s.stopShow.sli.ownQueue := by
  have start : s.halted.cueReported .showStop k c := by
    obtain ⟨waits, short⟩ := Sli.askStatus_waits (x := s.sli) (by omega)
    have eight := Finset.card_le_univ s.halted.cueSlots
    rw [Fintype.card_fin] at eight
    refine ⟨s.halted_sli ▸ waits, ?_, .inl ?_⟩
    · rw [s.halted_sli]
      omega
    · rw [s.halted_frame.2.2.2.1, hc]
  obtain ⟨-, -, stands⟩ := State.stopShow_turns running (fun _ _ _ turn => turn.reported loud) start
  exact stands.resolve_left fun stands => nomatch (State.stopShow_cues running k).symm.trans stands

/-- A LIVE cue that is alone on its stream leaves its ramp (R101). -/
theorem State.stopShow_ramps (hc : s.nmx.cues[k] = some c) (live : c.state = .live) (alone : s.alone k c) :
    s.stopShow.nmx.ramps[c.stream] = some { outputs := c.outputs, gain := c.gain } ∧
    s.stopShow.lco.cueLive.getLsbD k = false := by
  have nmx : s.halted.nmx = s.nmx := s.halted_frame.2.2.2.1
  have start : s.halted.cueRamped k c := by
    refine ⟨?_, .inl ?_⟩
    · unfold State.alone
      rw [nmx]
      exact alone
    · rw [nmx, hc]
  obtain ⟨-, stands⟩ := State.stopShow_turns running (fun _ _ _ turn => turn.ramped live) start
  exact (stands.resolve_left fun stands => nomatch (State.stopShow_cues running k).symm.trans stands).2

theorem State.stopShow_cancels : CuesCancelled (fun _ => True) .showStop s s.stopShow := fun _ c _ hc =>
  ⟨fun runs few => State.stopShow_reports running hc (c.not_ended runs) few,
    fun live alone => State.stopShow_ramps running hc live alone⟩

/-! ### The other blocks -/

theorem State.stopShow_arb : s.stopShow.arb = { s.arb with
    showStopped := true, queue := [], owners := s.stopShow.arb.owners
    log := departuresLogged .showStop s.arb.queue s.arb
    nextNumber := s.arb.nextNumber + BitVec.ofNat 16 s.arb.queue.length } := by
  have arb : s.stopShow.arb = s.halted.slotsStopped.arb := by
    rw [State.stopShow_eq running]
    simp only [State.judgeIndicators_frame, State.judgeAxes_frame, s.silenced_frame]
  have rest := s.halted.slotsStopped_arb
  rw [← arb, s.halted_arb] at rest
  exact rest

theorem State.stopShow_owners (x : ResourceId) :
    let freed : Prop := ∃ k p, s.arb.owners[x] = some k ∧ s.play k = some p ∧ p.claims.mask.getLsbD x = true
    (freed → s.stopShow.arb.owners[x] = none) ∧ (¬freed → s.stopShow.arb.owners[x] = s.arb.owners[x]) := by
  have arb : s.stopShow.arb = s.halted.slotsStopped.arb := by
    rw [State.stopShow_eq running]
    simp only [State.judgeIndicators_frame, State.judgeAxes_frame, s.silenced_frame]
  have owners : s.halted.arb.owners = s.arb.owners := by rw [s.halted_arb]
  rw [arb, ← owners]
  refine ⟨fun ⟨k, p, own, hp, claims⟩ => ?_, fun other => ?_⟩
  · exact State.slotsStopped_freed own (State.halted_claiming.mpr (State.claiming_iff.mpr ⟨p, hp, claims⟩))
  · refine State.slotsStopped_owned fun k ⟨own, claims⟩ => other ?_
    obtain ⟨p, hp, claims⟩ := State.claiming_iff.mp (State.halted_claiming.mp claims)
    exact ⟨k, p, own, hp, claims⟩

theorem State.stopShow_slots (k : SlotId) : s.stopShow.seq.slots[k] = match s.play k with
    | some p => .free (some p.scene) .showStop
    | none => s.seq.slots[k] := by
  have bare : s.stopShow.seq.bare k = s.halted.stoppedSlot k := by
    rw [State.stopShow_eq running, ← State.slotsStopped_bare, ← s.silenced_frame.2.2.2.2.2.1]
    simp only [State.judgeIndicators_frame, State.judgeAxes_bare]
  rw [State.stoppedSlot, s.halted_held] at bare
  cases hp : s.play k with
  | some p =>
    rw [State.held_of_play hp] at bare
    exact State.slot_of_bare bare
  | none =>
    obtain ⟨l, r, free⟩ := State.play_eq_none.mp hp
    have own : s.seq.bare k = .free l r := by
      rw [Seq.bare, free]
      rfl
    rw [State.held_eq_none.mpr hp, s.halted_frame.2.1] at bare
    exact (State.slot_of_bare (bare.trans own)).trans free.symm

theorem State.stopShow_dark : (∀ c : ChannelId, (s.stopShow.lco.channels[c]).layer = {}) ∧
    ∀ k : SlotId, s.stopShow.lco.effects[k] = none := by
  have channels : s.silenced.lco.channels = (Lco.dropAll s.halted.slotsStopped.lco).channels := by
    unfold State.silenced
    rw [(State.cancelAllCues_lco _).1, State.onLco_lco]
  have effects : s.silenced.lco.effects = (Lco.dropAll s.halted.slotsStopped.lco).effects := by
    unfold State.silenced
    rw [(State.cancelAllCues_lco _).2, State.onLco_lco]
  rw [State.stopShow_eq running]
  refine ⟨fun c => ?_, fun k => ?_⟩
  · simp only [State.judgeIndicators_layer, State.judgeAxes_frame, channels]
    simp [Lco.dropAll, Lco.mapChannels]
  · simp only [State.judgeIndicators_effects, State.judgeAxes_frame, effects]
    simp [Lco.dropAll]

/-! ### The axes -/

/-- The record of an axis once the show is STOPPED, but for its keyframe and scene target. -/
theorem State.stopShow_axis (a : AxisId) :
    let x := s.mgt.axes[a]
    let y := s.stopShow.mgt.axes[a]
    y.mode = (if (s.modeOf a).isSending then (if x.guarded then .guarded else .holding) else s.modeOf a) ∧
    y = { x with
      mode := y.mode, step := if y.mode.isSending then x.step else 0
      resetHold := y.mode.isSending && x.resetHold, keyframe := y.keyframe, sceneTarget := y.sceneTarget } := by
  have mgt : s.halted.mgt = { s.mgt with showStopped := true } := s.halted_frame.2.2.2.2.2.1
  have kept : AxisKept a s s.silenced := by
    have first : AxisKept a s s.halted := .same (by rw [s.halted_frame.1]) (by rw [mgt]) (by rw [mgt])
    have second := first.trans (State.slotsStopped_kept a s.halted)
    exact second.trans (.same (by rw [s.silenced_frame.1, s.halted.slotsStopped_frame.1, s.halted_frame.1])
      (by rw [s.silenced_frame.2.2.2.2.2.2]) (by rw [s.silenced_frame.2.2.2.2.2.2]))
  have stopped : s.silenced.mgt.showStopped = true := by
    rw [s.silenced_frame.2.2.2.2.2.2, s.halted.slotsStopped_frame.2.2.2.2, mgt]
  have mode : s.silenced.modeOf a =
      if (s.modeOf a).isSending then (if (s.mgt.axes[a]).guarded then .guarded else .holding) else s.modeOf a := by
    have present : (s.silenced.mgt.axes[a]).present = (s.mgt.axes[a]).present := by rw [kept.record]
    have pos : (s.silenced.mgt.axes[a]).pos = (s.mgt.axes[a]).pos := by rw [kept.record]
    have guarded : (s.silenced.mgt.axes[a]).guarded = (s.mgt.axes[a]).guarded := by rw [kept.record]
    rw [State.modeOf_eq, State.modeOf_eq, stopped, kept.env, kept.power]
    exact judgedMode_stopped present pos guarded ..
  have axis : s.stopShow.mgt.axes[a] = Axis.enter (s.silenced.modeOf a) s.silenced.mgt.axes[a] := by
    rw [State.stopShow_eq running]
    simp only [State.judgeIndicators_frame, State.judgeAxes_axes]
  have sending : (s.silenced.modeOf a).isSending = (s.modeOf a).isSending := kept.sending
  have record := kept.record
  have moves := kept.moves
  generalize s.silenced.mgt.axes[a] = w at *
  rw [Axis.enter_eq] at axis
  rw [axis]
  refine ⟨mode, ?_⟩
  rw [record]
  cases send : (s.silenced.modeOf a).isSending with
  | false => rfl
  | true =>
    obtain ⟨step, hold⟩ := moves (sending.symm.trans send)
    rw [step, hold]

/-- The axes of the ended slots have lost keyframe and scene target (R117). -/
theorem State.stopShow_targets (a : AxisId) :
    let x := s.mgt.axes[a]
    let y := s.stopShow.mgt.axes[a]
    (claimedByPlay s a → y.keyframe = none ∧ y.sceneTarget = none) ∧
    (¬claimedByPlay s a → y.keyframe = x.keyframe ∧ y.sceneTarget = x.sceneTarget) := by
  have mgt : s.halted.mgt.axes = s.mgt.axes := by rw [s.halted_frame.2.2.2.2.2.1]
  have axis : s.stopShow.mgt.axes[a] = Axis.enter (s.silenced.modeOf a) s.halted.slotsStopped.mgt.axes[a] := by
    rw [State.stopShow_eq running, ← s.silenced_frame.2.2.2.2.2.2]
    simp only [State.judgeIndicators_frame, State.judgeAxes_axes]
  dsimp only
  rw [axis, Axis.enter_eq, ← mgt]
  refine ⟨fun ⟨k, claims⟩ => ?_, fun other => ?_⟩
  · exact State.slotsStopped_dropped (State.halted_claiming.mpr (State.claiming_iff.mpr claims))
  · exact State.slotsStopped_targets fun k claims => other ⟨k, State.claiming_iff.mp (State.halted_claiming.mp claims)⟩

/-! ### The whole -/

theorem State.stopShow_sck : s.stopShow.sck = { s.sck with showStopped := true, showNews := true } := by
  rw [State.stopShow_eq running]
  simp only [State.judgeIndicators_frame, State.judgeAxes_frame, s.silenced_frame]

theorem State.stopShow_views : s.stopShow.arb.showStopped = true ∧ s.stopShow.iou.showStopped = true ∧
    s.stopShow.mgt.showStopped = true ∧ s.stopShow.sck.showStopped = true := by
  refine ⟨by rw [State.stopShow_arb running], ?_, ?_, by rw [State.stopShow_sck running]⟩
  · rw [State.stopShow_eq running, (State.judgeIndicators_view _).stopped]
    simp only [State.judgeAxes_frame, s.silenced_frame]
  · rw [State.stopShow_eq running]
    simp only [State.judgeIndicators_frame, State.judgeAxes_mgt, s.silenced_frame, s.halted.slotsStopped_frame,
      s.halted_frame]

theorem State.stopShow_asked : s.stopShow.sli.asked :=
  State.stopShow_turns running (fun _ _ _ turn => turn.asked) (s.halted_sli ▸ Sli.askStatus_asked s.sli)

theorem State.stopShow_stopped : StoppedShow s s.stopShow where
  views := State.stopShow_views running
  arb := State.stopShow_arb running
  slots := State.stopShow_slots running
  owners := State.stopShow_owners running
  layers := (State.stopShow_dark running).1
  effects := (State.stopShow_dark running).2
  cues := State.stopShow_cues running
  modes a := (State.stopShow_axis running a).1
  axes a := ⟨(State.stopShow_axis running a).2, State.stopShow_targets running a⟩
  indicators := by
    rw [State.stopShow_eq running]
    exact State.judgeIndicators_judged _
  status := State.stopShow_asked running

end

end Sys2Proof.Machine
end

section
/-! PROOF. The show-stop line, and the show commands (R39, R61, R63). -/

namespace Sys2Proof.Machine

variable {s t : State}

/-! ### The show-stop line -/

/-- The show-stop line with a level accepted, before the stop that it may bring. -/
def State.stopLevel (active : Bool) (s : State) : State :=
  s.onIou fun x => { x with stopAccepted := active, stopDebounce := 0 }

/-- A show that stops with the line's level recorded stops as without. -/
theorem StoppedShow.of_stopLevel {active : Bool} (h : StoppedShow (s.stopLevel active) t) : StoppedShow s t :=
  ⟨h.views, h.arb, h.slots, h.owners, h.layers, h.effects, h.cues, h.modes, h.axes, h.indicators, h.status⟩

theorem CuesCancelled.of_stopLevel {active : Bool} {which : SlotId → Prop} {cause : CancelCause}
    (h : CuesCancelled which cause (s.stopLevel active) t) : CuesCancelled which cause s t := fun k c => h k c

theorem exec_showstopLineChange {active : Bool} (h : s.stopChanges active) :
    exec (.showstopLineChange active) s = .next (s.acceptStop active) := by
  have arm : exec (.showstopLineChange active) s = execShowstopLineChange active s := rfl
  rw [arm, execShowstopLineChange, if_pos (State.stopAccepts_iff.mpr h)]

theorem State.acceptStop_active (s : State) : s.acceptStop true = (s.stopLevel true).stopShow := by
  rw [State.acceptStop, State.stopLevel]
  exact if_pos rfl

theorem State.acceptStop_inactive (s : State) : s.acceptStop false = s.stopLevel false := rfl

/-- Settles O30: the accepted level is recorded, and an active one stops the show. -/
theorem showStopLine : Obligations.ShowStopLine := by
  intro s debounced
  have counted : 2 ≤ s.iou.stopDebounce + 1 := Nat.succ_le_succ debounced
  refine ⟨fun inactive running => ?_, fun accepted => ?_⟩
  · have changes : s.stopChanges true := ⟨by rw [inactive]; decide, counted⟩
    have running' : (s.stopLevel true).arb.showStopped = false := running
    obtain ⟨lines, zones, stop, debounce, -⟩ := State.stopShow_iou (s.stopLevel true)
    obtain ⟨mu, ports, -⟩ := State.stopShow_frame (s.stopLevel true)
    refine ⟨(s.stopLevel true).stopShow, by rw [exec_showstopLineChange changes, State.acceptStop_active],
      (State.stopShow_stopped running').of_stopLevel, (State.stopShow_cancels running').of_stopLevel, stop,
      debounce, State.stopShow_flags _,
      ?_, mu, State.stopShow_sck running', lines, zones, State.stopShow_lights _, ports⟩
    rw [State.stopShow_arb running']
    rfl
  · have changes : s.stopChanges false := ⟨by rw [accepted]; decide, counted⟩
    rw [exec_showstopLineChange changes, State.acceptStop_inactive]
    rfl

/-! ### The show commands -/

/-- What a stop does of a state is what it does of one with the sequence number of a taken frame. -/
theorem StoppedShow.of_record {seq : Half} (h : StoppedShow (s.record seq) t) : StoppedShow s t :=
  ⟨h.views, h.arb, h.slots, h.owners, h.layers, h.effects, h.cues, h.modes, h.axes, h.indicators, h.status⟩

theorem CuesCancelled.of_record {seq : Half} {which : SlotId → Prop} {cause : CancelCause}
    (h : CuesCancelled which cause (s.record seq) t) : CuesCancelled which cause s t := fun k c => h k c

theorem State.stopShow_still (stopped : s.arb.showStopped = true) : s.stopShow = s := by
  rw [State.stopShow, if_pos stopped]

/-- The show resumed. -/
def State.resumed (s : State) : State := (s.setShow false).judgeAxes.judgeIndicators

theorem State.resume_runs (running : s.arb.showStopped = false) : s.resume = (true, s) := by
  rw [State.resume, running]
  rfl

theorem State.resume_barred (stopped : s.arb.showStopped = true) (line : s.iou.stopAccepted = true) :
    s.resume = (false, s) := by
  rw [State.resume, stopped, line]
  rfl

theorem State.resume_done (stopped : s.arb.showStopped = true) (free : s.iou.stopAccepted = false) :
    s.resume = (true, s.resumed) := by
  rw [State.resume, stopped, free]
  rfl

theorem State.resumed_views (s : State) : s.resumed.arb.showStopped = false ∧ s.resumed.iou.showStopped = false ∧
    s.resumed.mgt.showStopped = false ∧ s.resumed.sck.showStopped = false := by
  unfold State.resumed
  rw [(State.judgeIndicators_view _).stopped]
  simp only [State.judgeIndicators_frame, State.judgeAxes_frame, State.judgeAxes_mgt]
  exact ⟨rfl, rfl, rfl, rfl⟩

/-- Every axis is judged again, and stays where it is (R63). -/
theorem State.resumed_axes (a : AxisId) (s : State) :
    (s.resumed.mgt.axes[a]).mode = s.resumed.modeOf a ∧ (s.resumed.mgt.axes[a]).pos = (s.mgt.axes[a]).pos := by
  have axis : s.resumed.mgt.axes[a] = Axis.enter ((s.setShow false).modeOf a) s.mgt.axes[a] := by
    unfold State.resumed
    simp only [State.judgeIndicators_frame, State.judgeAxes_axes]
    rfl
  have mode : s.resumed.modeOf a = (s.setShow false).modeOf a := by
    rw [State.resumed, State.judgeIndicators_modeOf, State.judgeAxes_modeOf]
  rw [axis, mode, Axis.enter_eq]
  exact ⟨rfl, rfl⟩

theorem State.resumed_frame (s : State) : s.resumed.arb.queue = s.arb.queue ∧ s.resumed.seq.bare = s.seq.bare ∧
    s.resumed.seq.flags = s.seq.flags ∧ s.resumed.mu = s.mu ∧ s.resumed.nmx = s.nmx ∧
    s.resumed.iou.lines = s.iou.lines ∧ s.resumed.ports = s.ports := by
  unfold State.resumed
  simp only [State.judgeIndicators_frame, State.judgeIndicators_iou, State.judgeAxes_frame, State.judgeAxes_bare,
    State.judgeAxes_flags, State.setShow_frame, State.setShow_iou, and_true]
  rfl

section
variable {c : Cmd} (hears : s.hears c) (empty : c.fields = [])
include hears empty

theorem exec_stopShow : exec (.stopShow c) s = .next ((s.record c.seq).stopShow.reply 13 .done c.tag []) := by
  have arm : exec (.stopShow c) s = execStopShow c s := rfl
  rw [arm, execStopShow, empty, List.isEmpty_nil, State.command_run hears]
  rfl

theorem exec_resumeShow : exec (.resumeShow c) s = .next ((s.record c.seq).resume.2.reply 14
    (if (s.record c.seq).resume.1 then .done else .notReady) c.tag []) := by
  have arm : exec (.resumeShow c) s = execResumeShow c s := rfl
  rw [arm, execResumeShow, empty, List.isEmpty_nil, State.command_run hears]
  rfl

end

/-- Settles O39: a running show stops, a stopped one resumes unless the line bars it, and the rest is an answer alone. -/
theorem showCommands : Obligations.ShowCommands := by
  intro c s hears empty
  refine ⟨fun running => ?_, fun stopped => ?_, fun stopped free => ?_, fun stopped line => ?_, fun running => ?_⟩
  · have running' : (s.record c.seq).arb.showStopped = false := running
    obtain ⟨lines, -⟩ := State.stopShow_iou (s.record c.seq)
    obtain ⟨mu, ports, -⟩ := State.stopShow_frame (s.record c.seq)
    exact ⟨(s.record c.seq).stopShow, exec_stopShow hears empty, (State.stopShow_stopped running').of_record,
      (State.stopShow_cancels running').of_record, State.stopShow_flags _, mu, State.stopShow_sck running', lines, ports⟩
  · have still : (s.record c.seq).stopShow = s.record c.seq := State.stopShow_still stopped
    rw [exec_stopShow hears empty, still]
  · have resumes : (s.record c.seq).resume = (true, (s.record c.seq).resumed) := State.resume_done stopped free
    obtain ⟨arb, iou, mgt, sck⟩ := (s.record c.seq).resumed_views
    obtain ⟨queue, bare, flags, mu, nmx, lines, ports⟩ := (s.record c.seq).resumed_frame
    refine ⟨(s.record c.seq).resumed, ?_, arb, iou, mgt, sck, fun a => State.resumed_axes a _,
      State.judgeIndicators_judged _, queue, fun k => ?_, flags, mu, nmx, lines, ports⟩
    · rw [exec_resumeShow hears empty, resumes, if_pos rfl]
    · have some := State.play_isSome_congr (k := k) (congrFun bare k)
      rw [← Option.not_isSome, ← Option.not_isSome, some]
      rfl
  · have barred : (s.record c.seq).resume = (false, s.record c.seq) := State.resume_barred stopped line
    rw [exec_resumeShow hears empty, barred, if_neg Bool.false_ne_true]
  · have runs : (s.record c.seq).resume = (true, s.record c.seq) := State.resume_runs running
    rw [exec_resumeShow hears empty, runs, if_pos rfl]

end Sys2Proof.Machine
end

section
/-! PROOF. The laws at reset (O3), and the order of the request queue (O34). -/

namespace Sys2Proof.Machine

/-! ### The laws at reset -/

/-- The STATUS that a reset asks for is the only report (R172). -/
theorem reportLaw_afterFullReset (pins : BitVec 4) (stop : Bool) : ReportLaw (State.afterFullReset pins stop).sli where
  length_le := by simp [State.afterFullReset]
  oneStatus := (List.length_filter_le _ _).trans (by simp [State.afterFullReset])
  owedFull := fun owed => nomatch owed
  forward_le := by simp [State.afterFullReset]

theorem showLaw_afterFullReset (pins : BitVec 4) (stop : Bool) : ShowLaw (State.afterFullReset pins stop) :=
  showLawBut_none_iff.mp (Lawful.fullReset pins stop (State.afterFullReset pins stop))

/-- The calendar of a full reset, UNSET on the first day of year 0, lies in its ranges (R156). -/
theorem calendar_default_valid : ({} : Calendar).valid := ⟨rfl, by decide⟩

theorem clockLaw_afterFullReset (pins : BitVec 4) (stop : Bool) : ClockLaw (State.afterFullReset pins stop).sck := by
  refine ⟨?_, ?_, ?_, ?_, fun _ => ?_, ?_, fun following => (nomatch following), ?_,
    fun n spacing => (nomatch spacing), calendar_default_valid⟩
  all_goals simp [State.afterFullReset]

/-- A full reset leaves no census record (R134). -/
theorem census_afterFullReset (pins : BitVec 4) (stop : Bool) (z : ZoneId) (q : PosId) :
    (State.afterFullReset pins stop).ports[z].census[q] = none := by
  simp [State.afterFullReset]

theorem censusLaw_afterFullReset (pins : BitVec 4) (stop : Bool) : CensusLaw (State.afterFullReset pins stop) where
  within := fun z q r held => by cases (census_afterFullReset pins stop z q).symm.trans held
  apart := fun z p q x y held => by cases (census_afterFullReset pins stop z p).symm.trans held

/-- Settles O3. -/
theorem resetMeetsLaws : Obligations.ResetMeetsLaws := fun pins stop =>
  ⟨reportLaw_afterFullReset pins stop, showLaw_afterFullReset pins stop, clockLaw_afterFullReset pins stop,
    censusLaw_afterFullReset pins stop⟩

/-! ### The order of the request queue -/

/-- In an ordered queue every request behind the first of lower priority has lower priority too. -/
theorem priority_lt_of_mem_dropWhile {q : List Request} (n : Nat) (ordered : q.Pairwise fun x y => y.priority ≤ x.priority) :
    ∀ x ∈ q.dropWhile (fun x => decide (n ≤ x.priority)), x.priority < n := by
  induction q with
  | nil => exact fun x h => nomatch h
  | cons y ys ih =>
    obtain ⟨below, rest⟩ := List.pairwise_cons.mp ordered
    by_cases c : n ≤ y.priority
    · rw [List.dropWhile_cons_of_pos (by simpa using c)]
      exact ih rest
    · rw [List.dropWhile_cons_of_neg (by simpa using c)]
      refine List.forall_mem_cons.mpr ⟨Nat.not_le.mp c, fun x hx => ?_⟩
      exact (below x hx).trans_lt (Nat.not_le.mp c)

/-- Settles O34: the queue is cut where its priorities fall below the request's. -/
theorem queueOrderKept : Obligations.QueueOrderKept := by
  intro r q ordered
  refine ⟨insertRequest_ordered r ordered, _, _, rfl, List.takeWhile_append_dropWhile.symm, fun x hx => ?_,
    priority_lt_of_mem_dropWhile r.priority ordered⟩
  have kept := List.mem_takeWhile_imp hx
  exact of_decide_eq_true kept

end Sys2Proof.Machine
end

section
/-! SUPPORT. Eligibility, and one turn of a walk: a request that leaves, one that waits and one that starts (R44, R45, R52
to R55). -/

namespace Sys2Proof.Machine

variable {s t : State} {k : SlotId} {sc : SceneRec} {r : Request} {i : SceneId}

/-! ### Sets that share no member -/

theorem set_and_eq_zero_iff {w : Nat} {a b : BitVec w} :
    a &&& b = 0 ↔ ∀ x : Fin w, a.getLsbD x = true → b.getLsbD x = false := by
  constructor
  · intro h x hx
    have both : (a &&& b).getLsbD x = false := by rw [h]; exact BitVec.getLsbD_zero
    rwa [BitVec.getLsbD_and, hx, Bool.true_and] at both
  · intro h
    refine BitVec.eq_of_getLsbD_eq fun x lt => ?_
    have apart := h ⟨x, lt⟩
    rw [BitVec.getLsbD_and]
    cases hx : a.getLsbD x with
    | false => simp
    | true => simp [apart hx]

/-! ### Eligibility (R44, R45) -/

theorem State.eligible_of_empty (scene : s.scene i = none) : s.eligible i = false := by
  rw [State.eligible, scene]

theorem State.eligible_of_scene (scene : s.scene i = some sc) :
    s.eligible i = (sc.claims.streams &&& s.mu.tables.route.ambient == 0 && s.foldTests i sc.tests) := by
  rw [State.eligible, scene]

/-- A scene that claims an AMBIENT stream is ineligible. -/
theorem State.eligible_of_ambient (scene : s.scene i = some sc)
    (claimed : ∃ x : StreamId, sc.claims.streams.getLsbD x = true ∧ s.mu.tables.route.ambient.getLsbD x = true) :
    s.eligible i = false := by
  obtain ⟨x, hx, ambient⟩ := claimed
  have shared : ¬sc.claims.streams &&& s.mu.tables.route.ambient = 0 := fun h => by
    have apart := set_and_eq_zero_iff.mp h x hx
    rw [ambient] at apart
    cases apart
  rw [State.eligible_of_scene scene, beq_eq_false_iff_ne.mpr shared, Bool.false_and]

/-- A scene that claims no AMBIENT stream is as eligible as its tests say. -/
theorem State.eligible_of_unambient (scene : s.scene i = some sc)
    (free : ∀ x : StreamId, sc.claims.streams.getLsbD x = true → s.mu.tables.route.ambient.getLsbD x = false) :
    s.eligible i = s.foldTests i sc.tests := by
  rw [State.eligible_of_scene scene, beq_iff_eq.mpr (set_and_eq_zero_iff.mpr free), Bool.true_and]

theorem State.isPlaying_eq_false : s.isPlaying i = false ↔ ∀ (k : SlotId) (p : PlayRec), s.play k = some p → p.scene ≠ i := by
  rw [State.isPlaying, Option.isSome_eq_false_iff, Option.isNone_iff_eq_none, State.playingSlot_none]

theorem State.isQueued_eq_false : s.isQueued i = false ↔ ∀ r ∈ s.arb.queue, r.scene ≠ i := by
  rw [← Bool.not_eq_true, State.isQueued_iff]
  exact ⟨fun h r hr e => h ⟨r, hr, e⟩, fun h ⟨r, hr, e⟩ => h r hr e⟩

theorem State.testValue_zoneOccupied (z : ZoneId) :
    s.testValue i (.zoneOccupied z) = true ↔ s.arb.occ[z] = .occupied ∨ s.arb.occ[z] = .linger := by
  rw [State.testValue]
  cases s.arb.occ[z] <;> decide

theorem State.testValue_zoneClear (z : ZoneId) : s.testValue i (.zoneClear z) = true ↔ s.arb.occ[z] = .clear :=
  beq_iff_eq

theorem State.testValue_mode (m : HouseMode) : s.testValue i (.mode m) = true ↔ s.arb.mode = m := beq_iff_eq

/-- A scene is idle for a test when no slot plays it and, if it is another than the one judged, no request is for it. -/
theorem State.testValue_sceneIdle (j : SceneId) : s.testValue i (.sceneIdle j) = true ↔
    (∀ (k : SlotId) (p : PlayRec), s.play k = some p → p.scene ≠ j) ∧ (j ≠ i → ∀ r ∈ s.arb.queue, r.scene ≠ j) := by
  rw [← State.isPlaying_eq_false, ← State.isQueued_eq_false, State.testValue]
  by_cases self : j = i <;> simp [self]

/-- A request for an INELIGIBLE scene is refused, if no earlier check of R42 refuses it. -/
theorem State.refusal_ineligible (running : s.arb.showStopped = false) (admitted : admits s.arb.mode r.source = true)
    (unbusy : s.isBusy r.scene = false) (eligible : s.eligible r.scene = false) : s.refusal r = some .ineligible := by
  rw [State.refusal, running, admitted, unbusy, eligible]
  rfl

/-! ### Starting and waiting (R52 to R55) -/

/-- Where some slot can be used, one is the lowest. -/
theorem exists_lowest_mayUse {c : Claims} (h : ∃ k, mayUse s c k) :
    ∃ k, mayUse s c k ∧ ∀ j : SlotId, j < k → ¬mayUse s c j := by
  obtain ⟨k, use, least⟩ := wellFounded_lt.has_min {k : SlotId | mayUse s c k} h
  exact ⟨k, use, fun j lt used => least j used lt⟩

/-- A request that R52 lets wait before a blocked set cannot start. -/
theorem State.canStart_eq_none {b : BitVec 96} (h : waits s sc r.priority b) : s.canStart b r sc = none := by
  rcases h with ⟨x, hx, blocked⟩ | ⟨x, hx, held⟩ | full
  · refine if_neg fun ⟨apart, _⟩ => ?_
    have free := set_and_eq_zero_iff.mp apart x hx
    rw [blocked] at free
    cases free
  · refine State.canStart_blocked ?_ b
    rw [← Bool.not_eq_true, State.resourceTest_iff]
    exact fun passes => held (passes x hx)
  · rw [State.canStart, State.startSlot_none full, ite_self]

/-- A request that need not wait can start in the lowest slot it can use. -/
theorem State.canStart_eq_some {b : BitVec 96} (h : ¬waits s sc r.priority b) (use : mayUse s sc.claims k)
    (lower : ∀ j : SlotId, j < k → ¬mayUse s sc.claims j) : s.canStart b r sc = some k := by
  simp only [waits, not_or] at h
  obtain ⟨unblocked, passes, -⟩ := h
  have apart : sc.claims.mask &&& b = 0 := set_and_eq_zero_iff.mpr fun x hx => by
    rw [← Bool.not_eq_true]
    exact fun blocked => unblocked ⟨x, hx, blocked⟩
  have test : s.resourceTest r sc = true := State.resourceTest_iff.mpr fun x hx => by
    by_contra held
    exact passes ⟨x, hx, held⟩
  rw [State.canStart, if_pos ⟨apart, test⟩, State.startSlot_lowest use lower]

/-- A longer blocked set lets no more start. -/
theorem waits_of_waits_zero {n : Nat} (h : waits s sc n 0) (b : BitVec 96) : waits s sc n b := by
  rcases h with ⟨x, -, blocked⟩ | rest
  · simp at blocked
  · exact .inr rest

/-! ### One turn of a walk (R52) -/

section
variable (rs : List Request) (b : BitVec 96)

theorem State.walkFrom_ineligible (h : s.eligible r.scene = false) :
    State.walkFrom (r :: rs) b s = State.walkFrom rs b (s.depart r .ineligible) := by
  rw [State.walkFrom, h]
  rfl

variable {b} (scene : s.scene r.scene = some sc) (eligible : s.eligible r.scene = true)
include scene eligible

theorem State.walkFrom_waits (h : waits s sc r.priority b) :
    State.walkFrom (r :: rs) b s = State.walkFrom rs (b ||| sc.claims.mask) s := by
  rw [State.walkFrom, eligible, scene, Bool.not_true, if_neg Bool.false_ne_true]
  simp only [State.canStart_eq_none h]

theorem State.walkFrom_starts (h : s.canStart b r sc = some k) :
    State.walkFrom (r :: rs) b s = State.walkFrom rs b (s.start k r sc) := by
  rw [State.walkFrom, eligible, scene, Bool.not_true, if_neg Bool.false_ne_true]
  simp only [h]

end

/-- A walk in which every request must wait leaves the state as it is. -/
theorem State.walkFrom_all_wait (l : List Request) (h : ∀ r ∈ l, s.eligible r.scene = true ∧
    ∃ sc, s.scene r.scene = some sc ∧ waits s sc r.priority 0) : ∀ b : BitVec 96, State.walkFrom l b s = s := by
  induction l with
  | nil => exact fun b => rfl
  | cons r rs ih =>
    intro b
    obtain ⟨⟨eligible, sc, scene, wait⟩, rest⟩ := List.forall_mem_cons.mp h
    rw [State.walkFrom_waits rs scene eligible (waits_of_waits_zero wait b), ih rest]

end Sys2Proof.Machine
end

section
/-! PROOF. Eligibility and the walk (O33). -/

namespace Sys2Proof.Machine

variable {s : State} {k : SlotId} {sc sa sb : SceneRec} {r a b : Request} {i : SceneId}

/-- The blocked set that a request joins, given bit by bit. -/
theorem blocked_eq {after blocked mask : BitVec 96}
    (h : ∀ x : ResourceId, after.getLsbD x = (blocked.getLsbD x || mask.getLsbD x)) : after = blocked ||| mask :=
  BitVec.eq_of_getLsbD_eq fun x lt => by rw [BitVec.getLsbD_or, h ⟨x, lt⟩]

/-- A request that need not wait starts in its turn of the walk, in the lowest slot it can use. -/
theorem State.walkFrom_starts_lowest (rs : List Request) {blocked : BitVec 96} (scene : s.scene r.scene = some sc)
    (eligible : s.eligible r.scene = true) (h : ¬waits s sc r.priority blocked) :
    ∃ k, mayUse s sc.claims k ∧ (∀ j : SlotId, j < k → ¬mayUse s sc.claims j) ∧
      State.walkFrom (r :: rs) blocked s = State.walkFrom rs blocked (s.start k r sc) ∧
      (s.start k r sc).arb.queue = s.arb.queue.erase r := by
  obtain ⟨k, use, lower⟩ : ∃ k, mayUse s sc.claims k ∧ ∀ j : SlotId, j < k → ¬mayUse s sc.claims j := by
    refine exists_lowest_mayUse ?_
    by_contra none
    exact h (.inr (.inr fun k use => none ⟨k, use⟩))
  exact ⟨k, use, lower, State.walkFrom_starts rs scene eligible (State.canStart_eq_some h use lower), State.start_queue k r sc s⟩

section
variable (queue : s.arb.queue = [a, b]) (sceneA : s.scene a.scene = some sa) (sceneB : s.scene b.scene = some sb)
  (eligibleA : s.eligible a.scene = true) (eligibleB : s.eligible b.scene = true) (waitsA : waits s sa a.priority 0)
include queue sceneA sceneB eligibleA eligibleB waitsA

/-- A waiting request holds back a later one that claims what it claims. -/
theorem State.walk_held_back
    (shared : ∃ x : ResourceId, sa.claims.mask.getLsbD x = true ∧ sb.claims.mask.getLsbD x = true) :
    s.walk = s.judgeIndicators := by
  obtain ⟨x, hxa, hxb⟩ := shared
  have blocked : (0 ||| sa.claims.mask).getLsbD x = true := by rw [BitVec.getLsbD_or, hxa, Bool.or_true]
  rw [State.walk, queue, State.walkFrom_waits [b] sceneA eligibleA waitsA,
    State.walkFrom_waits [] sceneB eligibleB (.inl ⟨x, hxb, blocked⟩), State.walkFrom]

/-- A waiting request holds back none that claims nothing of what it claims. -/
theorem State.walk_passes (apart : ∀ x : ResourceId, sa.claims.mask.getLsbD x = true → sb.claims.mask.getLsbD x = false)
    (may : ∀ x : ResourceId, sb.claims.mask.getLsbD x = true → mayTake s sb b.priority x) (use : mayUse s sb.claims k)
    (lower : ∀ j : SlotId, j < k → ¬mayUse s sb.claims j) : s.walk = (s.start k b sb).judgeIndicators := by
  have free : ¬waits s sb b.priority (0 ||| sa.claims.mask) := by
    rintro (⟨x, hxb, blocked⟩ | ⟨x, hxb, held⟩ | full)
    · have blocked : sa.claims.mask.getLsbD x = true := by simpa using blocked
      rw [apart x blocked] at hxb
      cases hxb
    · exact held (may x hxb)
    · exact full k use
  rw [State.walk, queue, State.walkFrom_waits [b] sceneA eligibleA waitsA,
    State.walkFrom_starts [] sceneB eligibleB (State.canStart_eq_some free use lower), State.walkFrom]

end

/-- Settles O33: the scene's eligibility by its record and its tests, and the walk turn by turn. -/
theorem eligibilityFold : Obligations.EligibilityFold := by
  refine ⟨fun s i => ⟨State.eligible_of_empty, fun sc scene => ⟨State.eligible_of_ambient scene, fun free => ?_, ?_,
    fun f => ⟨rfl, rfl⟩, fun z => ⟨State.testValue_zoneOccupied z, State.testValue_zoneClear z⟩, State.testValue_mode,
    State.testValue_sceneIdle⟩⟩, fun s => rfl, fun blocked s => rfl,
    fun r rs sc blocked after s scene eligible joined => ⟨fun wait => ?_, State.walkFrom_starts_lowest rs scene eligible⟩,
    fun a b sa sb s queue sceneA sceneB eligibleA eligibleB waitsA => ⟨fun shared => ?_,
      fun k apart may use lower distinct => ?_⟩⟩
  · rw [State.eligible_of_unambient scene free]
    refine ⟨fun tests => ?_, fun t ts tests => ?_, fun a b c tests orB andC => ?_, fun a b c tests andB orC => ?_⟩
    all_goals rw [tests]
    · rfl
    · rfl
    · simp [State.foldTests, State.foldTest, orB, andC]
    · simp [State.foldTests, State.foldTest, andB, orC]
  · rintro r rfl ineligible
    exact ⟨fun running admitted unbusy => State.refusal_ineligible running admitted unbusy ineligible,
      fun rs blocked => State.walkFrom_ineligible rs blocked ineligible⟩
  · rw [blocked_eq joined]
    exact State.walkFrom_waits rs scene eligible wait
  · rw [State.walk_held_back queue sceneA sceneB eligibleA eligibleB waitsA shared]
    simp only [State.judgeIndicators_frame, and_self]
  · obtain ⟨p, hp, same⟩ := State.start_play k b sb s
    rw [State.walk_passes queue sceneA sceneB eligibleA eligibleB waitsA apart may use lower, State.judgeIndicators_play,
      hp, same]
    simp only [State.judgeIndicators_frame, State.start_queue, queue]
    exact ⟨by simp [distinct], _, rfl, rfl, rfl, rfl⟩

end Sys2Proof.Machine
end

section
/-! PROOF. The ARB's beat (R48, R58, R64). -/

namespace Sys2Proof.Machine

variable {s : State}

/-- Where some deadline is due, the due requests leave and one walk follows. -/
theorem State.expire_some {limit : Nat} (h : s.arb.queue.filter (fun r => decide (r.deadline ≤ limit)) ≠ []) :
    s.expire limit = (s.departAll (fun r => decide (r.deadline ≤ limit)) .timedOut).walk := by
  refine if_pos (List.any_eq_true.mpr ?_)
  obtain ⟨r, hr⟩ := List.exists_mem_of_ne_nil _ h
  exact ⟨r, List.mem_filter.mp hr⟩

theorem State.expire_idle {limit : Nat} (h : s.arb.queue.filter (fun r => decide (r.deadline ≤ limit)) = []) :
    s.expire limit = s :=
  State.expire_none fun r hr => Nat.not_le.mp fun due => List.filter_eq_nil_iff.mp h r hr (decide_eq_true due)

/-- After an expiry only requests that were not due are queued. -/
theorem State.expire_queue (limit : Nat) (s : State) :
    ∀ r ∈ (s.expire limit).arb.queue, r ∈ s.arb.queue.filter fun r => !decide (r.deadline ≤ limit) := by
  intro r hr
  by_cases h : s.arb.queue.filter (fun r => decide (r.deadline ≤ limit)) = []
  · rw [State.expire_idle h] at hr
    have kept := List.filter_eq_nil_iff.mp h r hr
    exact List.mem_filter.mpr ⟨hr, by simpa using kept⟩
  · rw [State.expire_some h] at hr
    rw [← (State.departAll_queue (s := s) _ .timedOut).1]
    exact State.walk_queue r hr

/-- A walk in which every queued request must wait leaves queue, owners and slots. -/
theorem State.walk_all_wait (h : ∀ r ∈ s.arb.queue, s.eligible r.scene = true ∧
    ∃ sc, s.scene r.scene = some sc ∧ waits s sc r.priority 0) : s.walk.arb = s.arb ∧ s.walk.seq = s.seq := by
  rw [State.walk, State.walkFrom_all_wait s.arb.queue h]
  simp only [State.judgeIndicators_frame, and_self]

/-- Settles O35: the beat lowers the deadlines, and what is then due at 0 expires as the row's requests do at 1. -/
theorem deadlinesExpire : Obligations.DeadlinesExpire := by
  unfold Obligations.DeadlinesExpire
  intro removed
  have expires (limit : Nat) (s : State) : removed limit s (s.expire limit) := by
    refine ⟨State.expire_idle, fun due => ⟨_, State.expire_some due, ?_⟩, State.expire_queue limit s, ?_⟩
    · refine ⟨State.departAll_arb_eq _ _ s, State.departs_asked _ _ s (.inl due), State.departAll_rest _ _ s, fun wait => ?_⟩
      rw [State.expire_some due]
      exact State.walk_all_wait fun r hr => wait r ((State.departAll_queue _ _).1 ▸ hr)
    · simp only [State.expire_frame, State.expire_arb, State.expire_iou, and_self]
  exact ⟨fun s => ⟨s.expire 1, rfl, expires 1 s⟩, fun b s => expires 0 _⟩

end Sys2Proof.Machine
end

section
/-! PROOF. A refused START-SCENE (R42, R46, R64). -/

namespace Sys2Proof.Machine

variable {s : State} {r : Request}

/-- The first check of R42 that refuses a request whose source the house mode admits. -/
def firstRefusal (s : State) (i : SceneId) (code : RefuseCode) : Prop :=
  (code = .stopped ∧ s.arb.showStopped = true) ∨
  (code = .duplicate ∧ s.arb.showStopped = false ∧ s.isBusy i = true) ∨
  (code = .ineligible ∧ s.arb.showStopped = false ∧ s.isBusy i = false ∧ s.eligible i = false) ∨
  (code = .notReady ∧ s.arb.showStopped = false ∧ s.isBusy i = false ∧ s.eligible i = true ∧ s.motionBlocked i = true) ∨
  (code = .queueFull ∧ s.arb.showStopped = false ∧ s.isBusy i = false ∧ s.eligible i = true ∧
    s.motionBlocked i = false ∧ 16 ≤ s.arb.queue.length)

theorem State.refusal_first {code : RefuseCode} (admitted : admits s.arb.mode r.source = true)
    (h : firstRefusal s r.scene code) : s.refusal r = some code := by
  rcases h with ⟨rfl, stopped⟩ | ⟨rfl, running, busy⟩ | ⟨rfl, running, unbusy, ineligible⟩ |
    ⟨rfl, running, unbusy, eligible, blocked⟩ | ⟨rfl, running, unbusy, eligible, moves, full⟩
  · rw [State.refusal, stopped]
    rfl
  · rw [State.refusal, running, admitted, busy]
    rfl
  · exact State.refusal_ineligible running admitted unbusy ineligible
  · rw [State.refusal, running, admitted, unbusy, eligible, blocked]
    rfl
  · rw [State.refusal, running, admitted, unbusy, eligible, moves]
    exact if_pos full

/-- What a refusal leaves. -/
def State.refused (r : Request) (code : RefuseCode) (s : State) : State :=
  if code = .queueFull then (s.enter r (.refused code)).raiseQueueFull else s.enter r (.refused code)

theorem State.arrive_refused {code : RefuseCode} (h : s.refusal r = some code) :
    s.arrive r = (.refused code, s.refused r code) := by
  rw [State.arrive, State.judgeInsert_refused h]
  rfl

/-- A refusal enters its request in the outcome log and leaves the rest of the ARB. -/
theorem State.refused_arb (r : Request) (code : RefuseCode) (s : State) :
    (s.refused r code).arb = s.arb.enter r.scene r.source r.priority (.refused code) r.tag := by
  unfold State.refused
  split <;> rfl

/-- Beside the ARB a refusal writes the SLI alone. -/
theorem State.refused_rest (r : Request) (code : RefuseCode) (s : State) :
    { s.refused r code with arb := s.arb, sli := s.sli } = s := by
  unfold State.refused
  split <;> rfl

/-- A refusal QUEUE-FULL raises its notice (R42, R174). -/
theorem State.refused_queueFull (r : Request) (s : State) : (s.refused r .queueFull).sli.queueFull = true := by
  rw [State.refused, if_pos rfl]
  exact congrArg Sli.queueFull (Sli.askStatus_rest { (s.enter r (.refused .queueFull)).sli with queueFull := true })

/-- Settles O37: the first failing check is the refusal of the command's request. -/
theorem startSceneRefused : Obligations.StartSceneRefused := by
  intro c i pr sc s hears fields range scene code first
  obtain ⟨n, named⟩ : ∃ n : Nat, (c.fields = [BitVec.ofNat 8 i.val, 255] ∧ n = sc.priority) ∨
      (c.fields = [BitVec.ofNat 8 i.val, BitVec.ofNat 8 n] ∧ n ≤ 7) := by
    rcases range with small | rfl
    · exact ⟨pr.toNat, .inr ⟨by rw [BitVec.ofNat_toNat, BitVec.setWidth_eq]; exact fields, small⟩⟩
    · exact ⟨sc.priority, .inl ⟨fields, rfl⟩⟩
  let r := serverRequest i sc n c.tag
  have refused : (s.record c.seq).refusal r = some code := State.refusal_first (s := s.record c.seq) (admits_server _) first
  have arb := State.refused_arb r code (s.record c.seq)
  rw [Arb.enter_log] at arb
  refine ⟨(s.record c.seq).refused r code, exec_startScene hears named scene (State.arrive_refused refused), ?_, ?_, ?_,
    ?_, ?_, ?_⟩
  · rw [arb]; rfl
  · rw [arb]; rfl
  · rw [arb]; rfl
  · exact congrArg (fun u : State => { u with arb := s.arb, sli := s.sli }) (State.refused_rest r code (s.record c.seq))
  · rintro rfl
    exact State.refused_queueFull r _
  · rw [arb]
    exact ⟨_, lastOf_getLast _ _ _, rfl, rfl, rfl⟩

end Sys2Proof.Machine
end

section
/-! PROOF. The fade factor, the capture and the pre-effect level (R71, R79, R80), and the stages that a light channel's
level passes (R74, R81 to R87). -/

namespace Sys2Proof.Machine

/-! ### A weighted mean lies between its ends (R80) -/

/-- The weights of the fade factor and of its complement add up to 65536. -/
theorem weights_total (m : Nat) {f : Nat} (h : f ≤ 65536) : m * f + m * (65536 - f) = m * 65536 := by
  rw [← Nat.mul_add, Nat.add_sub_cancel' h]

theorem weighted_ge {m a b f : Nat} (ha : m ≤ a) (hb : m ≤ b) (h : f ≤ 65536) :
    m * 65536 ≤ b * f + a * (65536 - f) := by
  rw [← weights_total m h]
  exact Nat.add_le_add (Nat.mul_le_mul_right _ hb) (Nat.mul_le_mul_right _ ha)

theorem weighted_le {m a b f : Nat} (ha : a ≤ m) (hb : b ≤ m) (h : f ≤ 65536) :
    b * f + a * (65536 - f) ≤ m * 65536 := by
  rw [← weights_total m h]
  exact Nat.add_le_add (Nat.mul_le_mul_right _ hb) (Nat.mul_le_mul_right _ ha)

theorem blend_between (a b : Nat) {f : Nat} (h : f ≤ 65536) : min a b ≤ blend a b f ∧ blend a b f ≤ max a b := by
  have low := weighted_ge (Nat.min_le_left a b) (Nat.min_le_right a b) h
  have high := weighted_le (Nat.le_max_left a b) (Nat.le_max_right a b) h
  unfold blend
  constructor <;> omega

theorem fadeFactor_le {p len : Nat} (h : p ≤ len) : fadeFactor p len ≤ 65536 := by
  unfold fadeFactor
  split
  · exact le_rfl
  · exact Nat.div_le_of_le_mul (Nat.mul_le_mul_right _ h)

/-! ### The pre-effect level by phase (R80) -/

variable {ch : Channel}

theorem preEffect_idle (h : ch.layer.phase = .idle) : preEffect ch = (ch.base, ch.stale) := by rw [preEffect, h]

theorem preEffect_settled (h : ch.layer.phase = .settled) : preEffect ch = (ch.layer.toLevel, false) := by
  rw [preEffect, h]

theorem preEffect_fading (h : ch.layer.phase = .fading) :
    preEffect ch = (blend ch.layer.fromLevel ch.layer.toLevel (fadeFactor ch.layer.pos ch.layer.len), false) := by
  rw [preEffect, h]

theorem preEffect_releasing (h : ch.layer.phase = .releasing) :
    preEffect ch = (blend ch.layer.fromLevel ch.base (fadeFactor ch.layer.pos ch.layer.len),
      ch.stale && decide (0 < fadeFactor ch.layer.pos ch.layer.len)) := by
  rw [preEffect, h]

/-- Settles O43: each phase gives its level, and a moving level is a weighted mean of its ends. -/
theorem preEffectLevel : Obligations.PreEffectLevel := by
  unfold Obligations.PreEffectLevel
  refine ⟨fun _ _ => rfl, fun ch => ⟨rfl, preEffect_idle, preEffect_settled,
    fun f => ⟨fun fading => ?_, fun releasing => ?_⟩, fadeFactor_le, fun a b f ha hb hf => ?_⟩⟩
  · rw [preEffect_fading fading]
    exact ⟨rfl, rfl, blend_between _ _ f⟩
  · rw [preEffect_releasing releasing]
    exact ⟨rfl, rfl, blend_between _ _ f⟩
  · have bound := weighted_le ha hb hf
    omega

/-! ### The effect and master stages (R81, R82) -/

theorem effectStage_le (y d : Nat) : effectStage y d ≤ y := by
  have := Nat.mul_le_mul_left y (Nat.sub_le 256 d)
  unfold effectStage
  omega

theorem masterStage_le (e : Nat) {m : Nat} (h : m ≤ 256) : masterStage e m ≤ e := by
  have := Nat.mul_le_mul_left e h
  unfold masterStage
  omega

/-! ### The state of an effect (R74) -/

variable {s : State} {k : SlotId} {c : ChannelId}

theorem State.slotLow_none (h : s.lco.effects[k] = none) : s.slotLow k = false := by rw [State.slotLow, h]

theorem State.slotLow_empty {e : Effect} (h : s.lco.effects[k] = some e) (fx : s.mu.tables.fx[e.pattern] = none) :
    s.slotLow k = false := by
  simp only [State.slotLow, h, fx]

theorem State.slotLow_some {e : Effect} {r : FxRec} (h : s.lco.effects[k] = some e)
    (fx : s.mu.tables.fx[e.pattern] = some r) : s.slotLow k = Machine.effectLow r e (s.lco.cueLive.getLsbD k) := by
  simp only [State.slotLow, h, fx]

/-- The toggle list in force is told by the parity of the period count. -/
theorem toggles_eq (r : FxRec) (n : Half) :
    toggles r n = if n.toNat % 2 = 0 then r.even.take r.evenCount else r.odd.take r.oddCount := by
  have parity : n.getLsbD 0 = decide (n.toNat % 2 = 1) := by simp [BitVec.getLsbD, Nat.testBit_zero]
  rw [toggles, parity]
  rcases Nat.mod_two_eq_zero_or_one n.toNat with h | h <;> simp [h]

theorem effectLow_hushed {r : FxRec} (hush : r.hush = true) (e : Effect) : effectLow r e true = false := by
  simp [effectLow, hush]

/-- An effect that is not hushed is LOW when an even number of flips leaves a LOW start or an odd number a HIGH one. -/
theorem effectLow_iff {r : FxRec} {live : Bool} (heard : r.hush = false ∨ live = false) (e : Effect) :
    effectLow r e live = true ↔
      (r.startLow = true ↔ ((toggles r e.count).countP fun p => decide (p ≤ e.phase)) % 2 = 0) := by
  have quiet : (r.hush && live) = false := by rcases heard with h | h <;> simp [h]
  rw [effectLow, quiet, if_neg Bool.false_ne_true, ← List.countP_eq_length_filter]
  rcases Nat.mod_two_eq_zero_or_one ((toggles r e.count).countP fun p => decide (p ≤ e.phase)) with h | h <;>
    cases r.startLow <;> simp [h]

/-! ### The depth that reaches a channel (R81) -/

theorem State.depthAt_low {l : Layer} {e : Effect} (owner : l.owner = some k) (h : s.lco.effects[k] = some e)
    (target : e.targets.getLsbD (channelGroup c) = true) (low : s.slotLow k = true) : s.depthAt c l = e.depth := by
  simp [State.depthAt, owner, h, target, low]

theorem State.depthAt_other {l : Layer} (high : ∀ k e, l.owner = some k → s.lco.effects[k] = some e →
    e.targets.getLsbD (channelGroup c) = true → s.slotLow k = false) : s.depthAt c l = 0 := by
  unfold State.depthAt
  split
  · next k owner =>
    split
    · next e h =>
      cases target : e.targets.getLsbD (channelGroup c) with
      | true => simp [high k e owner h target]
      | false => simp
    · rfl
  · rfl

/-! ### The output (R83 to R87) -/

theorem State.outputOf_absent (h : ch.present = false) : s.outputOf c ch = 65535 := by
  simp [State.outputOf, h, Config.lightHold]

theorem State.outputOf_stale (present : ch.present = true) (bare : ch.indicator = none)
    (stale : (preEffect ch).2 = true) :
    s.outputOf c ch = 65535 := by
  simp [State.outputOf, present, bare, stale, Config.lightHold]

theorem State.outputOf_fresh (present : ch.present = true) (bare : ch.indicator = none)
    (fresh : (preEffect ch).2 = false) : s.outputOf c ch =
      min (masterStage (effectStage (preEffect ch).1 (s.depthAt c ch.layer)) s.lco.masters[channelZone c])
        (min 65534 s.mu.tables.ceil[c]) := by
  simp [State.outputOf, present, bare, fresh, clipStage, Config.lightMax]

/-- A moving layer that is short of its length advances by 1 on a beat; any other stays (R79). -/
theorem advanceLayer_eq (l : Layer) : advanceLayer l = { l with
    pos := if (l.phase = .fading ∨ l.phase = .releasing) ∧ l.pos < l.len then l.pos + 1 else l.pos } := by
  obtain ⟨owner, phase, f, t, len, pos⟩ := l
  by_cases short : pos < len
  · cases phase <;> simp [advanceLayer, short]
  · cases phase <;> simp [advanceLayer, short]

/-- Settles O42, stage by stage. -/
theorem masterStage_holds : Obligations.MasterStage := by
  unfold Obligations.MasterStage
  refine ⟨fun _ _ => rfl, fun e => ?_, fun e => ?_, fun e _ => masterStage_le e, fun y d => ⟨rfl, effectStage_le y d⟩,
    fun y => ⟨?_, ?_⟩, fun s k => ⟨State.slotLow_none, fun e he => ⟨State.slotLow_empty he, fun r hr => ?_⟩⟩,
    fun s c l => ⟨fun k e => State.depthAt_low, State.depthAt_other⟩,
    fun s c ch =>
      ⟨State.outputOf_absent, fun l => State.outputOf_indicator, State.outputOf_stale, State.outputOf_fresh⟩,
    fun s c => ?_⟩
  · unfold masterStage; omega
  · unfold masterStage; omega
  · unfold effectStage; omega
  · unfold effectStage; omega
  · rw [State.slotLow_some he hr]
    dsimp only
    rw [← toggles_eq]
    refine ⟨fun hush live => ?_, fun heard => effectLow_iff heard e⟩
    rw [live, effectLow_hushed hush]
  · rw [State.composed, advanceChannel, advanceLayer_eq]

end Sys2Proof.Machine
end

section
/-! PROOF. The LCO's beat: layers that advance and complete, and effects that advance and wrap (R73, R79, R87). -/

namespace Sys2Proof.Machine

variable {s t : State} {k j : SlotId} {c : ChannelId}

/-! ### A layer's beat (R79) -/

/-- A layer after its share of a beat: one that moves advances, and completes where it reaches its length. -/
theorem layerBeat_eq (l : Layer) :
    let moving := l.phase = .fading ∨ l.phase = .releasing
    let pos := if moving ∧ l.pos < l.len then l.pos + 1 else l.pos
    completeLayer (advanceLayer l) = { l with
      pos
      phase := if moving ∧ pos = l.len then (if l.phase = .fading then .settled else .idle) else l.phase
      owner := if l.phase = .releasing ∧ pos = l.len then none else l.owner } := by
  rw [advanceLayer_eq]
  obtain ⟨owner, phase, f, t, len, pos⟩ := l
  dsimp only
  generalize (if (phase = .fading ∨ phase = .releasing) ∧ pos < len then pos + 1 else pos) = p
  by_cases full : p = len
  · cases phase <;> simp [completeLayer, full]
  · cases phase <;> simp [completeLayer, full]

/-- A layer whose beat is its last is at its length and has completed. -/
theorem layerBeat_last {l : Layer} (last : l.pos + 1 = l.len) :
    (l.phase = .fading → completeLayer (advanceLayer l) = { l with phase := .settled, pos := l.len }) ∧
    (l.phase = .releasing →
      completeLayer (advanceLayer l) = { l with phase := .idle, owner := none, pos := l.len }) := by
  have short : l.pos < l.len := by omega
  constructor <;> intro phase
  · simp [layerBeat_eq, phase, short, last]
  · simp [layerBeat_eq, phase, short, last]

theorem fadeDue_last {l : Layer} (moving : l.phase = .fading ∨ l.phase = .releasing) (last : l.pos + 1 = l.len) :
    fadeDue l = true := by
  have short : l.pos < l.len := by omega
  simp [fadeDue, advanceLayer_eq, moving, short, last]

theorem Lco.mapChannels_rest (f : ChannelId → Channel → Channel) (x : Lco) :
    (x.mapChannels f).effects = x.effects ∧ (x.mapChannels f).cueLive = x.cueLive ∧
    { x.mapChannels f with channels := x.channels, effects := x.effects } = x := by
  unfold Lco.mapChannels
  exact ⟨rfl, rfl, rfl⟩

/-- Handing the levels leaves all but the ports. -/
theorem State.handLights_rest (levels : ChannelId → Nat) (f : Lco → Lco) (s : State) :
    { forEach 4 (State.handLight levels) (s.onLco f) with lco := s.lco, ports := s.ports } = s :=
  forEach_same (f := State.handLight levels) (g := fun t : State => { t with lco := s.lco, ports := s.ports })
    (fun _ _ => rfl) (s.onLco f)

theorem Lco.mapChannels_channels (f : ChannelId → Channel → Channel) (x : Lco) (c : ChannelId) :
    (x.mapChannels f).channels[c] = f c x.channels[c] := by
  simp [Lco.mapChannels]

/-! ### An effect's beat (R73) -/

/-- A slot's effect after its share of a beat. -/
def State.beatenEffect (s : State) (k : SlotId) : Option Effect :=
  (s.lco.effects[k]).map fun e => match s.mu.tables.fx[e.pattern] with
    | some r => advanceEffect r.period (s.slotLow k) e
    | none => e

theorem State.effectBeat_lco (k : SlotId) (s : State) :
    (s.effectBeat k).lco = { s.lco with effects := s.lco.effects.set k (s.beatenEffect k) } := by
  have keeps : ∀ x, s.lco.effects[k] = x → s.lco = { s.lco with effects := s.lco.effects.set k x } := by
    rintro _ rfl
    simp
  unfold State.effectBeat State.beatenEffect
  cases h : s.lco.effects[k] with
  | none => exact keeps _ h
  | some e =>
    cases fx : s.mu.tables.fx[e.pattern] with
    | none => simpa only [Option.map_some, fx] using keeps _ h
    | some r => simp only [Option.map_some, fx, State.onLco_lco]

theorem State.effectBeat_effects (k j : SlotId) (s : State) :
    (s.effectBeat k).lco.effects[j] = if j = k then s.beatenEffect k else s.lco.effects[j] := by
  rw [State.effectBeat_lco, getElem_set_at]

theorem State.effectBeat_rest (k : SlotId) (s : State) : { s.effectBeat k with lco := s.lco } = s := by
  unfold State.effectBeat
  (repeat' split) <;> rfl

/-- An effect's beat is read from its own record, its pattern and the mark of its cue. -/
theorem State.beatenEffect_congr (effects : t.lco.effects[k] = s.lco.effects[k]) (live : t.lco.cueLive = s.lco.cueLive)
    (mu : t.mu = s.mu) : t.beatenEffect k = s.beatenEffect k := by
  simp only [State.beatenEffect, State.slotLow, effects, live, mu]

/-- The state of the LCO's beat in which the effects advance: the layers have moved and the levels are handed. -/
def State.lightsHanded (s : State) : State :=
  forEach 4 (State.handLight s.composed) <| s.onLco fun x =>
    x.mapChannels fun _ ch => completeChannel (advanceChannel ch)

theorem State.lcoBeat_eq (s : State) : s.lcoBeat = forEach 8 State.effectBeat s.lightsHanded := rfl

theorem State.lightsHanded_lco (s : State) :
    s.lightsHanded.lco = s.lco.mapChannels fun _ ch => completeChannel (advanceChannel ch) := by
  rw [State.lightsHanded, forEach_lco (fun _ _ => by simp)]
  rfl

theorem State.lightsHanded_rest (s : State) : { s.lightsHanded with lco := s.lco, ports := s.ports } = s := by
  unfold State.lightsHanded
  exact State.handLights_rest ..

theorem State.lcoBeat_channels (c : ChannelId) (s : State) :
    s.lcoBeat.lco.channels[c] = completeChannel (advanceChannel s.lco.channels[c]) := by
  rw [State.lcoBeat_eq, forEach_same (f := State.effectBeat) (g := fun t : State => t.lco.channels[c])
    (fun k t => by rw [State.effectBeat_lco]), State.lightsHanded_lco, Lco.mapChannels_channels]

theorem State.lcoBeat_effects (k : SlotId) (s : State) : s.lcoBeat.lco.effects[k] = s.beatenEffect k := by
  have start : s.lightsHanded.beatenEffect k = s.beatenEffect k :=
    State.beatenEffect_congr (by rw [State.lightsHanded_lco, (Lco.mapChannels_rest _ _).1])
      (by rw [State.lightsHanded_lco, (Lco.mapChannels_rest _ _).2.1])
      (by rw [State.lightsHanded]; simp)
  rw [State.lcoBeat_eq, ← start]
  refine forEach_at (f := State.effectBeat) (i := k) (view := fun t : State => t.lco.effects[k])
    (g := fun t => t.beatenEffect k) (fun j t ne => ?_) (fun t => ?_) (fun j t ne => ?_) _
  · rw [State.effectBeat_effects, if_neg (Ne.symm ne)]
  · rw [State.effectBeat_effects, if_pos rfl]
  · refine State.beatenEffect_congr ?_ (by rw [State.effectBeat_lco]) (by simp)
    rw [State.effectBeat_effects, if_neg (Ne.symm ne)]

theorem State.lcoBeat_lco_rest (s : State) :
    { s.lcoBeat.lco with channels := s.lco.channels, effects := s.lco.effects } = s.lco := by
  rw [State.lcoBeat_eq]
  refine (forEach_same (f := State.effectBeat)
    (g := fun t : State => { t.lco with channels := s.lco.channels, effects := s.lco.effects })
    (fun k t => by rw [State.effectBeat_lco]) _).trans ?_
  rw [State.lightsHanded_lco]
  exact (Lco.mapChannels_rest _ s.lco).2.2

theorem State.lcoBeat_rest (s : State) : { s.lcoBeat with lco := s.lco, ports := s.ports } = s := by
  rw [State.lcoBeat_eq]
  exact (forEach_same (f := State.effectBeat) (g := fun t : State => { t with lco := s.lco, ports := s.ports })
    (fun k t => congrArg (fun x : State => { x with lco := s.lco, ports := s.ports })
      (State.effectBeat_rest k t)) _).trans
    (State.lightsHanded_rest s)

theorem State.beatenEffect_some {e : Effect} {r : FxRec} (h : s.lco.effects[k] = some e)
    (fx : s.mu.tables.fx[e.pattern] = some r) :
    s.beatenEffect k = some (advanceEffect r.period (s.slotLow k) e) := by
  rw [State.beatenEffect, h, Option.map_some, fx]

/-! ### Completion given alone (R73, R79) -/

theorem exec_fadeComplete
    (phase : (s.lco.channels[c]).layer.phase = .fading ∨ (s.lco.channels[c]).layer.phase = .releasing)
    (last : (s.lco.channels[c]).layer.pos + 1 = (s.lco.channels[c]).layer.len) :
    exec (.fadeComplete c) s = .next (s.layerBeat c) := by
  rw [show exec (.fadeComplete c) s = execFadeComplete c s from rfl, execFadeComplete, if_pos (fadeDue_last phase last)]

/-- A rewrite of one channel is told by what it makes of that channel. -/
theorem modifyAt_congr {α : Type} {n : Nat} {v : Vector α n} {i : Fin n} {f g : α → α} (h : f v[i] = g v[i]) :
    modifyAt v i f = modifyAt v i g := by
  rw [modifyAt, modifyAt, h]

/-- Settles O44: the beat is every layer's and every effect's share, and the rows are one item's share. -/
theorem fadesAndEffectsComplete : Obligations.FadesAndEffectsComplete := by
  unfold Obligations.FadesAndEffectsComplete
  refine ⟨fun b s => ?_, fun c s last => ?_, fun k e r s he hr last => ?_⟩
  · dsimp only
    rw [show s.blockBeat b .lco = s.lcoBeat from rfl]
    refine ⟨fun c => ?_, fun k => ⟨fun none => ?_, fun e r he hr => ?_⟩, State.lcoBeat_lco_rest s, State.lcoBeat_rest s⟩
    · rw [State.lcoBeat_channels, completeChannel, advanceChannel, layerBeat_eq]
    · rw [State.lcoBeat_effects, State.beatenEffect, none, Option.map_none]
    · rw [State.lcoBeat_effects, State.beatenEffect_some he hr, advanceEffect]
      exact ⟨fun short => by rw [if_pos short], fun wraps => by rw [if_neg (Nat.not_lt.mpr wraps)]⟩
  · obtain ⟨settles, leaves⟩ := layerBeat_last last
    refine ⟨fun fading => ?_, fun releasing => ?_⟩
    · rw [exec_fadeComplete (.inl fading) last, State.layerBeat]
      refine congrArg (fun v => Host.Outcome.next (s.onLco fun x => { x with channels := v })) (modifyAt_congr ?_)
      rw [completeChannel, advanceChannel, settles fading]
    · rw [exec_fadeComplete (.inr releasing) last, State.layerBeat]
      refine congrArg (fun v => Host.Outcome.next (s.onLco fun x => { x with channels := v })) (modifyAt_congr ?_)
      rw [completeChannel, advanceChannel, leaves releasing]
  · have due : s.wrapDue k = true := by simp [State.wrapDue, he, hr, last]
    have wraps : advanceEffect r.period (s.slotLow k) e =
        { e with phase := 0, count := e.count + 1, lastLow := some (s.slotLow k) } := by
      rw [advanceEffect, if_neg (by omega)]
    rw [show exec (.effectPeriodWrap k) s = execEffectPeriodWrap k s from rfl, execEffectPeriodWrap, if_pos due,
      State.effectBeat]
    simp only [he, hr, wraps]

end Sys2Proof.Machine
end

section
/-! PROOF. A LIGHT frame writes its zone (R67, R165, R170). -/

namespace Sys2Proof.Machine

/-! ### Places of a zone's channels -/

theorem channelZone_globalChannel (z : ZoneId) (i : Fin 192) : channelZone (globalChannel z i) = z := by
  apply Fin.ext
  simp only [channelZone, globalChannel]
  omega

theorem globalChannel_mod (z : ZoneId) (i : Fin 192) : (globalChannel z i).val % 192 = i.val := by
  simp only [globalChannel]
  omega

/-! ### The write (R67) -/

theorem Lco.writeZone_same (z : ZoneId) (level : Nat → Nat) (master : Nat) (x : Lco) (i : Fin 192) :
    (x.writeZone z level master).channels[globalChannel z i] = { x.channels[globalChannel z i] with
      base := min (level i.val) 65534, stale := false, lastFresh := min (level i.val) 65534 } := by
  rw [Lco.writeZone, Lco.mapChannels_channels, if_pos (channelZone_globalChannel z i), globalChannel_mod]
  rfl

theorem Lco.writeZone_other {z : ZoneId} {c : ChannelId} (h : channelZone c ≠ z) (level : Nat → Nat) (master : Nat)
    (x : Lco) : (x.writeZone z level master).channels[c] = x.channels[c] := by
  rw [Lco.writeZone, Lco.mapChannels_channels, if_neg h]

theorem Lco.writeZone_rest (z : ZoneId) (level : Nat → Nat) (master : Nat) (x : Lco) :
    (x.writeZone z level master).masters = x.masters.set z (min master 256) ∧
    (x.writeZone z level master).effects = x.effects ∧ (x.writeZone z level master).cueLive = x.cueLive := by
  unfold Lco.writeZone
  dsimp only
  exact ⟨rfl, (Lco.mapChannels_rest _ x).1, (Lco.mapChannels_rest _ x).2.1⟩

theorem State.lightArrival_zone {body : List Byte} {z : ZoneId} (h : u8 body 0 = z.val) (s : State) :
    s.lightArrival body =
      (s.onLco (Lco.writeZone z (fun i => u16 body (4 + 2 * i)) (u16 body 2))).refresh (.light z) := by
  have small : u8 body 0 < 4 := by omega
  have zone : (⟨u8 body 0, small⟩ : ZoneId) = z := Fin.ext h
  rw [State.lightArrival, dif_pos small, zone]

/-- Settles O16: the frame is the unit's own and agrees with its layout, and its zone byte names the zone. -/
theorem lightFrameWritesZone : Obligations.LightFrameWritesZone := by
  unfold Obligations.LightFrameWritesZone
  intro f z s own length zone
  have layout : agrees (Rx.frame f 2) = true := by simp [agrees, Rx.frame, length]
  have run : exec (.lightFrame f) s = .next (((s.record f.seq).onLco
      (Lco.writeZone z (fun i => u16 f.body (4 + 2 * i)) (u16 f.body 2))).refresh (.light z)) := by
    rw [show exec (.lightFrame f) s = execLightFrame f s from rfl, execLightFrame,
      State.receive_own (f := Rx.frame f 2) own layout, State.lightArrival_zone zone]
    rfl
  obtain ⟨masters, effects, live⟩ :=
    Lco.writeZone_rest z (fun i => u16 f.body (4 + 2 * i)) (u16 f.body 2) s.lco
  refine ⟨_, run, ?_⟩
  simp only [State.refresh_frame, State.onLco_lco, State.record_lco]
  exact ⟨fun i => Lco.writeZone_same z _ _ s.lco i, fun c other => Lco.writeZone_other other _ _ s.lco, masters,
    effects, live, rfl, rfl⟩

end Sys2Proof.Machine
end

section
/-! PROOF. A zone port forms its control frame and sends (R125, R129 to R131, R140, R141, R148). -/

namespace Sys2Proof.Machine

variable {s : State} {z : ZoneId} {p : Port}

/-! ### Writing a port -/

theorem State.onPort_congr {f g : Port → Port} (h : f s.ports[z] = g s.ports[z]) : s.onPort z f = s.onPort z g := by
  rw [State.onPort, State.onPort, h]

theorem State.onPort_twice (f g : Port → Port) : (s.onPort z f).onPort z g = s.onPort z fun p => g (f p) := by
  simp [State.onPort]

theorem State.onPort_onMgt (f : Mgt → Mgt) (g : Port → Port) : (s.onMgt f).onPort z g = (s.onPort z g).onMgt f := rfl

/-- The first index that meets a test is the lowest that does. -/
theorem find?_finRange_lowest {n : Nat} {test : Fin n → Bool} {q : Fin n} (meets : test q = true)
    (lowest : ∀ r : Fin n, r < q → test r = false) : (List.finRange n).find? test = some q := by
  rw [List.find?_eq_some_iff_getElem]
  refine ⟨meets, q.val, by simp, by simp, fun j hj => ?_⟩
  simpa using lowest ⟨j, by omega⟩ hj

/-! ### The transmitter (R130) -/

theorem exec_zbusTransmitNext (z : ZoneId) (s : State) :
    exec (.zbusTransmitNext z) s = .next (s.onPort z Port.transmit) := rfl

theorem Port.transmit_audio {b : AudioBlock} {rest : List AudioBlock} (h : p.audio = b :: rest) :
    p.transmit = { p with audio := rest, sending := some (.audio b) } := by
  rw [Port.transmit, h]

theorem Port.transmit_control {f : CtrlFrame} (audio : p.audio = []) (h : p.waiting = some f) :
    p.transmit = p.sendFrame f := by
  simp only [Port.transmit, audio, h]

theorem Port.transmit_idle (audio : p.audio = []) (h : p.waiting = none) : p.transmit = { p with sending := none } := by
  simp only [Port.transmit, audio, h]

theorem Port.callsAfter_member (p : Port) (f : CtrlFrame) (q : PosId) :
    (p.callsAfter f).getLsbD q = (p.calls.getLsbD q && f.call != some q) := by
  unfold Port.callsAfter
  split
  · next r call =>
    by_cases e : q = r
    · subst e
      rw [withoutMember_same, call, bne_self_eq_false, Bool.and_false]
    · rw [withoutMember_other _ e, call]
      have : (some r != some q) = true := by simpa [bne_iff_ne] using Ne.symm e
      rw [this, Bool.and_true]
  · next call => rw [call]; exact (Bool.and_true _).symm

theorem Port.sweepAfter_called {f : CtrlFrame} {q : PosId} (called : f.sweepCall = true) (call : f.call = some q)
    (sweep : p.sweep = some q) :
    p.sweepAfter f = if h : q.val < 11 then some ⟨q.val + 1, by omega⟩ else none := by
  simp [Port.sweepAfter, called, call, sweep]

/-! ### Forming (R129, R140, R141, R148) -/

theorem Port.form_fresh {l : Vector Nat 192} {m : Vector Int 8} (light : p.light = some l) (motion : p.motion = some m)
    (lightFresh : p.lightFresh = true) (motionFresh : p.motionFresh = true) :
    p.form = { p with
      waiting := some (p.frameOf l m), superseded := if p.waiting.isSome then p.superseded + 1 else p.superseded
      frameNo := p.frameNo + 1, lightFresh := false, motionFresh := false, awaiting := false } := by
  rw [Port.form, light, motion]
  dsimp only
  rw [lightFresh, motionFresh]
  rfl

theorem Port.formStep_fresh (lightFresh : p.lightFresh = true) (motionFresh : p.motionFresh = true) :
    p.formStep = p.form := by simp [Port.formStep, lightFresh, motionFresh]

theorem Port.formStep_waits (h : p.lightFresh = false ∨ p.motionFresh = false) :
    p.formStep = { p with awaiting := true } := by
  rcases h with h | h <;> simp [Port.formStep, h]

/-- A port that does not wait for a part only keeps the one it is handed. -/
theorem Port.takeLight_still (h : p.awaiting = false) (l : Vector Nat 192) :
    p.takeLight l = { p with light := some l, lightFresh := true } := by rw [Port.takeLight, if_neg (by simp [h])]

theorem Port.takeMotion_still (h : p.awaiting = false) (m : Vector Int 8) :
    p.takeMotion m = { p with motion := some m, motionFresh := true } := by rw [Port.takeMotion, if_neg (by simp [h])]

/-- The frame a port forms when the part it waits for arrives. -/
theorem Port.takeLight_forms {m : Vector Int 8} (waits : p.awaiting = true) (motion : p.motion = some m)
    (fresh : p.motionFresh = true) (l : Vector Nat 192) :
    (p.takeLight l).waiting = some (p.frameOf l m) ∧ (p.takeLight l).lightFresh = false ∧
    (p.takeLight l).awaiting = false := by
  rw [Port.takeLight, if_pos waits,
    Port.form_fresh (p := { p with light := some l, lightFresh := true }) rfl motion rfl fresh]
  exact ⟨rfl, rfl, rfl⟩

theorem Port.takeMotion_forms {l : Vector Nat 192} (waits : p.awaiting = true) (light : p.light = some l)
    (fresh : p.lightFresh = true) (m : Vector Int 8) :
    (p.takeMotion m).waiting = some (p.frameOf l m) ∧ (p.takeMotion m).motionFresh = false ∧
    (p.takeMotion m).awaiting = false := by
  rw [Port.takeMotion, if_pos waits,
    Port.form_fresh (p := { p with motion := some m, motionFresh := true }) light rfl fresh rfl]
  exact ⟨rfl, rfl, rfl⟩

theorem Port.nextCall_sweep {q : PosId} (sweep : p.sweep = some q) : p.nextCall = some q := by
  rw [Port.nextCall, sweep]

theorem Port.nextCall_lowest {q : PosId} (idle : p.sweep = none) (pending : p.calls.getLsbD q = true)
    (lowest : ∀ r : PosId, r < q → p.calls.getLsbD r = false) : p.nextCall = some q := by
  rw [Port.nextCall, idle]
  exact find?_finRange_lowest pending lowest

theorem Port.nextCall_none (idle : p.sweep = none) (none : p.calls = 0) : p.nextCall = .none := by
  rw [Port.nextCall, idle]
  simp [none]

theorem Port.admittedSet_member (p : Port) (q : PosId) :
    p.admittedSet.getLsbD q = true ↔ ∃ r, p.census[q] = some r ∧ r.state = .admitted := by
  have member : p.admittedSet.getLsbD q = isAdmitted p.census[q] := by simp [Port.admittedSet, posSet]
  rw [member]
  cases p.census[q] <;> simp [isAdmitted]

/-- A port with its power ON and no window to close, whose sense is OK, only drops the positions of the hand-over before
and takes step 3 of R148. -/
theorem State.portBeat_quiet (window : s.ports[z].window = none) (on : s.ports[z].powerOff = none) :
    s.portBeat z false = (s.onPort z fun p => { p with senseFault := false }.formStep).onMgt (Mgt.dropReplies z) := by
  have close : s.closeWindow z = s.onMgt (Mgt.dropReplies z) := by
    simp only [State.closeWindow, State.onMgt_ports, window]
  have hold : (s.onMgt (Mgt.dropReplies z)).holdOffBeat z = s.onMgt (Mgt.dropReplies z) := by
    simp only [State.holdOffBeat, State.onMgt_ports, on]
  rw [State.portBeat, close, State.senseBeat, Bool.false_and, if_neg Bool.false_ne_true, if_neg Bool.false_ne_true,
    hold, State.onPort_twice, State.onPort_onMgt]

/-! ### The parts of the blocks (R87, R125) -/

theorem State.lcoBeat_ports (z : ZoneId) (s : State) : s.lcoBeat.ports[z] =
    Port.takeLight (Vector.ofFn fun i => s.composed (globalChannel z i)) s.ports[z] := by
  rw [State.lcoBeat_eq, forEach_ports (fun _ _ => by simp), State.lightsHanded]
  generalize s.composed = levels
  generalize (fun x : Lco => x.mapChannels fun _ ch => completeChannel (advanceChannel ch)) = move
  exact forEach_at (f := State.handLight levels) (i := z) (view := fun t : State => t.ports[z])
    (g := fun t => Port.takeLight (Vector.ofFn fun i => levels (globalChannel z i)) t.ports[z])
    (fun y t ne => State.onPort_other (Ne.symm ne) _ t) (fun t => State.onPort_same z _ t)
    (fun y t ne => congrArg _ (State.onPort_other (Ne.symm ne) _ t)) (s.onLco move)

theorem State.mgtBeat_mgt (s : State) : s.mgtBeat.mgt = (forEach 32 State.axisBeat s).mgt := by
  rw [State.mgtBeat, forEach_mgt (fun _ _ => by simp)]

/-- The positions that a zone's port takes on a beat. -/
def State.sentPositions (z : ZoneId) (s : State) : Vector Int 8 :=
  Vector.ofFn fun i => (s.mgt.axes[globalAxis z i]).sent

theorem State.mgtBeat_ports (z : ZoneId) (s : State) :
    s.mgtBeat.ports[z] = Port.takeMotion (s.mgtBeat.sentPositions z) s.ports[z] := by
  have before : (forEach 32 State.axisBeat s).ports[z] = s.ports[z] := by rw [forEach_ports (fun _ _ => by simp)]
  have sent : s.mgtBeat.sentPositions z = (forEach 32 State.axisBeat s).sentPositions z := by
    rw [State.sentPositions, State.mgtBeat_mgt, State.sentPositions]
  rw [sent, ← before, State.mgtBeat]
  exact forEach_at (f := State.handMotion) (i := z) (view := fun t : State => t.ports[z])
    (g := fun t => Port.takeMotion (t.sentPositions z) t.ports[z])
    (fun y t ne => State.onPort_other (Ne.symm ne) _ t) (fun t => State.onPort_same z _ t)
    (fun y t ne => congrArg (Port.takeMotion (t.sentPositions z)) (State.onPort_other (Ne.symm ne) _ t)) _

theorem Axis.sent_eq (x : Axis) : x.sent = if x.mode ∈ [.guarded, .holding, .tracking] then x.pos else -32768 := by
  have sending : x.mode.isSending = true ↔ x.mode ∈ [.guarded, .holding, .tracking] := by
    cases x.mode <;> decide
  rw [Axis.sent]
  simp only [sending]
  rfl

theorem State.sentPositions_at (s : State) (i : Fin 8) : (s.sentPositions z)[i] =
    if (s.mgt.axes[globalAxis z i]).mode ∈ [.guarded, .holding, .tracking] then (s.mgt.axes[globalAxis z i]).pos
    else -32768 := by
  rw [← Axis.sent_eq]
  simp [State.sentPositions]

/-- Settles O25: the transmitter's three cases, step 3 of R148, and the arrival of each part. -/
theorem zoneBusTransmits : Obligations.ZoneBusTransmits := by
  unfold Obligations.ZoneBusTransmits
  refine ⟨fun z s => ⟨fun b rest audio => ?_, fun f audio waiting => ?_, fun audio waiting => ?_⟩,
    fun b z s window on ok => ⟨fun l m light motion lightFresh motionFresh => ?_, fun stale => ?_⟩,
    fun b z s => ?_⟩
  · exact congrArg Host.Outcome.next (State.onPort_congr (Port.transmit_audio audio))
  · have sent : (s.onPort z Port.transmit).ports[z] = s.ports[z].sendFrame f := by
      rw [State.onPort_same, Port.transmit_control audio waiting]
    refine ⟨_, exec_zbusTransmitNext z s, ?_⟩
    rw [sent]
    exact ⟨rfl, rfl, rfl, ⟨_, rfl, rfl, rfl, rfl⟩, Port.callsAfter_member _ f,
      fun q called call sweep => Port.sweepAfter_called called call sweep, rfl,
      fun y ne => State.onPort_other ne _ s, rfl⟩
  · exact congrArg Host.Outcome.next (State.onPort_congr (Port.transmit_idle audio waiting))
  · refine ⟨s.ports[z].frameOf l m, ?_, rfl, rfl, rfl, rfl, fun q => Port.nextCall_sweep, fun q => Port.nextCall_lowest,
      Port.nextCall_none, Port.admittedSet_member _⟩
    rw [State.blockBeat, ok, State.portBeat_quiet window on]
    refine congrArg _ (State.onPort_congr ?_)
    exact (Port.formStep_fresh (p := { s.ports[z] with senseFault := false }) lightFresh motionFresh).trans
      (Port.form_fresh light motion lightFresh motionFresh)
  · rw [State.blockBeat, ok, State.portBeat_quiet window on]
    exact congrArg _ (State.onPort_congr (Port.formStep_waits stale))
  · rw [State.blockBeat, State.lcoBeat_ports, State.blockBeat, State.mgtBeat_ports]
    refine ⟨fun m motion fresh awaits => ?_, fun l light fresh awaits => ?_, fun still => ?_⟩
    · obtain ⟨waiting, spent, formed⟩ := Port.takeLight_forms awaits motion fresh
        (Vector.ofFn fun i => s.composed (globalChannel z i))
      exact ⟨_, waiting, rfl, rfl, fun i => by simp [Port.frameOf], spent, formed⟩
    · obtain ⟨waiting, spent, formed⟩ := Port.takeMotion_forms awaits light fresh (s.mgtBeat.sentPositions z)
      exact ⟨_, waiting, rfl, rfl, State.sentPositions_at _, spent, formed⟩
    · exact ⟨⟨_, Port.takeLight_still still _, fun i => by simp⟩,
        _, Port.takeMotion_still still _, State.sentPositions_at _⟩

end Sys2Proof.Machine
end

section
/-! SUPPORT. The stages of a SOUND frame: cues that meet their tags and finish, and the blocks that the ports are handed
(R93, R96, R97, R104, R130). -/

namespace Sys2Proof.Machine

variable {s : State} {k j : SlotId} {test : Cue → Bool} {st : CueState} {blocks : List StreamBlock}

theorem withMember_member {w : Nat} (x : BitVec w) (i j : Fin w) :
    (withMember x i).getLsbD j = (x.getLsbD j || decide (j = i)) := by
  rw [withMember, BitVec.getLsbD_or, getLsbD_single]

theorem Lco.tellLive_member (k j : SlotId) (live : Bool) (x : Lco) :
    (x.tellLive k live).cueLive.getLsbD j = if j = k then live else x.cueLive.getLsbD j := by
  cases live with
  | true =>
    simp only [Lco.tellLive, if_true, withMember_member]
    split <;> simp [*]
  | false =>
    simp only [Lco.tellLive, Bool.false_eq_true, if_false]
    split
    · next e => rw [e, withoutMember_same]
    · next e => rw [withoutMember_other _ e]

/-! ### A cue that changes its state -/

/-- A slot's cue that meets a test takes a state, and the LCO is told whether that is LIVE. -/
def State.turnCue (test : Cue → Bool) (st : CueState) (k : SlotId) (s : State) : State :=
  match s.nmx.cues[k] with
  | some c => if test c then (s.setCue k (some { c with state := st })).onLco (Lco.tellLive k (st == .live)) else s
  | none => s

/-- A cue after its test. -/
def cueTurned (test : Cue → Bool) (st : CueState) (c : Cue) : Cue := if test c then { c with state := st } else c

theorem State.turnCue_some {c : Cue} (h : s.nmx.cues[k] = some c) (meets : test c = true) :
    s.turnCue test st k = (s.setCue k (some { c with state := st })).onLco (Lco.tellLive k (st == .live)) := by
  simp only [State.turnCue, h, meets, if_true]

theorem State.turnCue_skip (h : (s.nmx.cues[k]).any test = false) : s.turnCue test st k = s := by
  unfold State.turnCue
  split
  · next c hc => rw [hc] at h; exact if_neg (by simpa using h)
  · rfl

/-- A slot's cue meets the test, or it is skipped. -/
theorem State.any_cue (test : Cue → Bool) (k : SlotId) (s : State) :
    (∃ c, s.nmx.cues[k] = some c ∧ test c = true) ∨ (s.nmx.cues[k]).any test = false := by
  cases h : s.nmx.cues[k] with
  | none => exact .inr rfl
  | some c => cases m : test c with
    | true => exact .inl ⟨c, rfl, m⟩
    | false => exact .inr m

theorem map_cueTurned_skip {c : Option Cue} (h : c.any test = false) : c.map (cueTurned test st) = c := by
  cases c with
  | none => rfl
  | some c => simp only [Option.any_some] at h; simp [cueTurned, h]

theorem State.turnCue_cues (k j : SlotId) (s : State) : (s.turnCue test st k).nmx.cues[j] =
    if j = k then (s.nmx.cues[k]).map (cueTurned test st) else s.nmx.cues[j] := by
  rcases s.any_cue test k with ⟨c, hc, meets⟩ | skip
  · rw [State.turnCue_some hc meets, State.onLco_nmx, State.setCue_cues, hc, Option.map_some, cueTurned, if_pos meets]
  · rw [State.turnCue_skip skip, map_cueTurned_skip skip]
    split
    · next e => rw [e]
    · rfl

theorem State.turnCue_live (k j : SlotId) (s : State) : (s.turnCue test st k).lco.cueLive.getLsbD j =
    if j = k ∧ (s.nmx.cues[k]).any test = true then st == .live else s.lco.cueLive.getLsbD j := by
  rcases s.any_cue test k with ⟨c, hc, meets⟩ | skip
  · rw [State.turnCue_some hc meets, State.onLco_lco, Lco.tellLive_member, hc, Option.any_some, meets]
    simp
  · rw [State.turnCue_skip skip, skip, if_neg (by simp)]

/-- All but the cues and their marks at the LCO. -/
def State.besideCues (s : State) : State :=
  { s with nmx := { s.nmx with cues := Vector.replicate 8 none }, lco := { s.lco with cueLive := 0 } }

theorem State.turnCue_rest (k : SlotId) (s : State) : (s.turnCue test st k).besideCues = s.besideCues := by
  rcases s.any_cue test k with ⟨c, hc, meets⟩ | skip
  · rw [State.turnCue_some hc meets]
    rfl
  · rw [State.turnCue_skip skip]

/-- Every slot's cue that meets a test takes a state. Irreducible, so that no check of definitional equality runs the
eight turns. -/
@[irreducible] def State.turnCues (test : Cue → Bool) (st : CueState) (s : State) : State :=
  forEach 8 (State.turnCue test st) s

theorem State.turnCues_cues (k : SlotId) (s : State) :
    (s.turnCues test st).nmx.cues[k] = (s.nmx.cues[k]).map (cueTurned test st) := by
  unfold State.turnCues
  refine forEach_at (f := State.turnCue test st) (i := k) (view := fun s : State => s.nmx.cues[k])
    (g := fun s => (s.nmx.cues[k]).map (cueTurned test st)) (fun j s ne => ?_) (fun s => ?_) (fun j s ne => ?_) s
  · rw [State.turnCue_cues, if_neg (Ne.symm ne)]
  · rw [State.turnCue_cues, if_pos rfl]
  · simp only [State.turnCue_cues, if_neg (Ne.symm ne)]

theorem State.turnCues_live (k : SlotId) (s : State) : (s.turnCues test st).lco.cueLive.getLsbD k =
    if (s.nmx.cues[k]).any test = true then st == .live else s.lco.cueLive.getLsbD k := by
  unfold State.turnCues
  refine forEach_at (f := State.turnCue test st) (i := k) (view := fun s : State => s.lco.cueLive.getLsbD k)
    (g := fun s => if (s.nmx.cues[k]).any test = true then st == .live else s.lco.cueLive.getLsbD k)
    (fun j s ne => ?_) (fun s => ?_) (fun j s ne => ?_) s
  · rw [State.turnCue_live, if_neg fun h => ne h.1.symm]
  · rw [State.turnCue_live]
    simp only [true_and]
  · simp only [State.turnCue_live, State.turnCue_cues, if_neg (Ne.symm ne), if_neg fun h => Ne.symm ne (And.left h)]

theorem State.turnCues_rest (s : State) : (s.turnCues test st).besideCues = s.besideCues := by
  unfold State.turnCues
  exact forEach_same (f := State.turnCue test st) (g := State.besideCues) State.turnCue_rest s

/-! ### Stages 2 and 5 (R96, R97) -/

/-- A PENDING cue whose stream's block carries its clip (R96). -/
def meetsTag (blocks : List StreamBlock) (c : Cue) : Bool := c.state == .pending && (cueBlock blocks c).isSome

/-- A LIVE cue whose routed block has the last-block mark (R97). -/
def meetsEnd (blocks : List StreamBlock) (c : Cue) : Bool := c.state == .live && (cueBlock blocks c).any (·.last)

theorem State.matchTag_eq (blocks : List StreamBlock) (k : SlotId) (s : State) :
    s.matchTag blocks k = s.turnCue (meetsTag blocks) .live k := by
  rw [State.matchTag, State.turnCue]
  cases s.nmx.cues[k] with
  | none => rfl
  | some c =>
    have iff : meetsTag blocks c = true ↔ c.state = .pending ∧ (cueBlock blocks c).isSome = true := by simp [meetsTag]
    simp only [iff]
    rfl

theorem State.finishCue_eq (blocks : List StreamBlock) (k : SlotId) (s : State) :
    s.finishCue blocks k = s.turnCue (meetsEnd blocks) .done k := by
  rw [State.finishCue, State.turnCue]
  cases s.nmx.cues[k] with
  | none => rfl
  | some c =>
    by_cases live : c.state = .live
    · cases h : cueBlock blocks c with
      | none => simp [live, meetsEnd, h]
      | some b =>
        cases last : b.last with
        | true =>
          have meets : meetsEnd blocks c = true := by simp [meetsEnd, live, h, last]
          simp only [live, h, last, meets, if_true]
          rfl
        | false => simp [live, meetsEnd, h, last]
    · simp [live, meetsEnd]

/-- Stages 2 and 5 together make what R96 and R97 say of a cue. -/
theorem cueAfter_eq (blocks : List StreamBlock) (c : Cue) :
    cueAfter blocks c = cueTurned (meetsEnd blocks) .done (cueTurned (meetsTag blocks) .live c) := by
  cases h : cueBlock blocks c with
  | none => simp [cueAfter, cueTurned, meetsTag, meetsEnd, h]
  | some b =>
    have routed (st : CueState) : cueBlock blocks { c with state := st } = some b := h
    have same : c.state = .live → { c with state := .live } = c := fun live => by rw [← live]
    cases st : c.state <;> cases last : b.last <;>
      simp [cueAfter, cueTurned, meetsTag, meetsEnd, h, routed, st, last, same]

end Sys2Proof.Machine
end

section
/-! PROOF. A SOUND frame: cues, ducks, the mix and its hand-over (R93, R96, R97, R101 to R104, R170). -/

namespace Sys2Proof.Machine

variable {s : State} {k j : SlotId} {blocks : List StreamBlock}

/-! ### The sources of the streams (R170) -/

theorem sourceIndex_inj {x y : SourceId} : sourceIndex x = sourceIndex y ↔ x = y := by
  constructor
  · intro h
    cases x <;> cases y <;> simp only [sourceIndex, Fin.mk.injEq] at h
    case light.light | stream.stream | setpoint.setpoint => congr 1; apply Fin.ext; omega
    all_goals omega
  · exact congrArg sourceIndex

theorem State.refresh_isFresh (x y : SourceId) (s : State) :
    (s.refresh x).isFresh y = (s.isFresh y || decide (y = x)) := by
  simp only [State.isFresh, State.refresh, State.onSli_sli, getElem_set_at, sourceIndex_inj]
  split <;> simp [*]

theorem State.refreshStreams_isFresh (blocks : List StreamBlock) (k : StreamId) (s : State) :
    (s.refreshStreams blocks).isFresh (.stream k) = (s.isFresh (.stream k) || (blockOf blocks k).isSome) := by
  have turn (j : StreamId) (s : State) :
      (if (blockOf blocks j).isSome then s.refresh (.stream j) else s).isFresh (.stream k) =
        (s.isFresh (.stream k) || (blockOf blocks j).isSome && decide (k = j)) := by
    cases h : (blockOf blocks j).isSome <;> simp [State.refresh_isFresh]
  unfold State.refreshStreams
  refine forEach_at (i := k) (view := fun s : State => s.isFresh (.stream k))
    (g := fun s => s.isFresh (.stream k) || (blockOf blocks k).isSome) (fun j s ne => ?_) (fun s => ?_)
    (fun j s ne => ?_) s
  · rw [turn]; simp [Ne.symm ne]
  · rw [turn]; simp
  · simp only [turn, Ne.symm ne, decide_false, Bool.and_false, Bool.or_false]

theorem State.refreshStreams_rest (blocks : List StreamBlock) (s : State) :
    { s.refreshStreams blocks with sli := s.sli } = s := by
  unfold State.refreshStreams
  refine forEach_same (g := fun t : State => { t with sli := s.sli }) (fun j t => ?_) s
  split <;> rfl

theorem State.refreshStreams_sli (blocks : List StreamBlock) (s : State) :
    { (s.refreshStreams blocks).sli with sources := s.sli.sources } = s.sli := by
  unfold State.refreshStreams
  refine forEach_same (g := fun t : State => { t.sli with sources := s.sli.sources }) (fun j t => ?_) s
  split <;> rfl

/-! ### The hand-over of the blocks (R104, R130) -/

/-- The block that an output offers: none while it is absent. -/
def Nmx.offered (x : Nmx) (samples : OutputId → List Int) (o : OutputId) : Option AudioBlock :=
  if x.present.getLsbD o then some { second := o.val % 2 == 1, samples := samples o } else none

theorem Port.handed_some (b : AudioBlock) (p : Port) : Port.handed (some b) p = p.takeBlock b := by
  rw [Port.handed, Port.takeBlock, List.drop_one]
  rfl

theorem State.handBlock_ports (samples : OutputId → List Int) (o : OutputId) (z : ZoneId) (s : State) :
    (s.handBlock samples o).ports[z] =
      if o.val / 2 = z.val then Port.handed (s.nmx.offered samples o) s.ports[z] else s.ports[z] := by
  rw [State.handBlock, Nmx.offered]
  by_cases present : s.nmx.present.getLsbD o = true
  · rw [if_pos present, if_pos present, Port.handed_some]
    split
    · next e =>
      rw [show z = (⟨o.val / 2, by omega⟩ : ZoneId) from Fin.ext e.symm]
      exact State.onPort_same _ _ s
    · next e => exact State.onPort_other (fun h => e (congrArg Fin.val h).symm) _ s
  · rw [if_neg present, if_neg present]
    exact (ite_self _).symm

/-- The outputs of a zone, in their order. -/
theorem zone_outputs (z : ZoneId) : (List.finRange 8).filter (fun o : OutputId => decide (o.val / 2 = z.val)) =
    [globalOutput z 0, globalOutput z 1] := by
  revert z
  decide

theorem State.handBlocks_ports (samples : OutputId → List Int) (z : ZoneId) (s : State) :
    (forEach 8 (State.handBlock samples) s).ports[z] =
      Port.handed (s.nmx.offered samples (globalOutput z 1))
        (Port.handed (s.nmx.offered samples (globalOutput z 0)) s.ports[z]) := by
  have fold : ∀ (l : List OutputId) (s : State), (l.foldl (fun t o => t.handBlock samples o) s).ports[z] =
      (l.filter fun o => decide (o.val / 2 = z.val)).foldl (fun p o => Port.handed (s.nmx.offered samples o) p)
        s.ports[z] := by
    intro l
    induction l with
    | nil => intro s; rfl
    | cons o os ih =>
      intro s
      rw [List.foldl_cons, ih, State.handBlock_ports, (State.handBlock_frame s samples o).2.2.2.2.2.2.2.1,
        List.filter_cons]
      by_cases here : o.val / 2 = z.val
      · rw [if_pos here, if_pos (decide_eq_true here), List.foldl_cons]
      · rw [if_neg here, if_neg (by simpa using here)]
  rw [forEach, fold, zone_outputs]
  rfl

/-! ### The mix (R101 to R103) -/

theorem cueBlock_some {c : Cue} {b : StreamBlock} (h : cueBlock blocks c = some b) :
    blockOf blocks c.stream = some b := by
  unfold cueBlock at h
  split at h
  · split at h
    · rwa [← h]
    · cases h
  · cases h

/-- The cue term of a slot's cue as it was before the frame, as `frameSample` adds it. -/
def cueShare (blocks : List StreamBlock) (o : OutputId) (n : Nat) (c : Option Cue) : Int :=
  match c with
  | some c => if (c.state = .pending ∨ c.state = .live) ∧ c.outputs.getLsbD o ∧ (cueBlock blocks c).isSome
      then (c.gain : Int) * sampleOf blocks c.stream n else 0
  | none => 0

/-- After stage 2 a slot's cue term is that of its cue before the frame. -/
theorem cueTerm_tagged {x y : Nmx} (cues : y.cues[k] = (x.cues[k]).map (cueTurned (meetsTag blocks) .live))
    (o : OutputId) (n : Nat) : cueTerm y blocks o n k = cueShare blocks o n x.cues[k] := by
  rw [cueTerm, cues]
  cases x.cues[k] with
  | none => rfl
  | some c =>
    cases h : cueBlock blocks c with
    | none =>
      have skip : cueTurned (meetsTag blocks) .live c = c := if_neg (by simp [meetsTag, h])
      simp [skip, cueShare, h]
    | some b =>
      have routed (st : CueState) : cueBlock blocks { c with state := st } = some b := h
      have sample : sampleOf blocks c.stream n = b.samples.getD n 0 := by rw [sampleOf, cueBlock_some h]
      cases st : c.state <;> simp [cueTurned, cueShare, meetsTag, sample, h, routed, st]

theorem frameSample_eq {x y : Nmx} {r : RouteRec}
    (cues : ∀ k : SlotId, y.cues[k] = (x.cues[k]).map (cueTurned (meetsTag blocks) .live)) (ramps : y.ramps = x.ramps)
    (o : OutputId) (n : Nat) : outSample (mixAcc r y blocks o n) = frameSample r x blocks y.duck[o] o n := by
  have terms : cueTerm y blocks o n = fun k => cueShare blocks o n x.cues[k] :=
    funext fun k => cueTerm_tagged (cues k) o n
  rw [mixAcc, terms]
  unfold bedTerm rampTerm
  rw [ramps]
  rfl

/-! ### The stages together (R93) -/

/-- What a change of the cues leaves. -/
theorem State.turnCues_keeps (test : Cue → Bool) (st : CueState) (s : State) :
    let t := s.turnCues test st
    (t.nmx.nextCue = s.nmx.nextCue ∧ t.nmx.present = s.nmx.present ∧ t.nmx.ramps = s.nmx.ramps ∧
      t.nmx.duck = s.nmx.duck) ∧
    t.lco = { s.lco with cueLive := t.lco.cueLive } ∧ { t with nmx := s.nmx, lco := s.lco } = s := by
  have rest := s.turnCues_rest (test := test) (st := st)
  exact ⟨⟨(congrArg (fun u : State => u.nmx.nextCue) rest :), (congrArg (fun u : State => u.nmx.present) rest :),
      (congrArg (fun u : State => u.nmx.ramps) rest :), (congrArg (fun u : State => u.nmx.duck) rest :)⟩,
    (congrArg (fun u : State => { u.lco with cueLive := (s.turnCues test st).lco.cueLive }) rest :),
    (congrArg (fun u : State => { u with nmx := s.nmx, lco := s.lco }) rest :)⟩

/-- The state after stages 2 and 3: the cues have met their tags and the ducks have moved. -/
def State.ducked (blocks : List StreamBlock) (s : State) : State :=
  (s.turnCues (meetsTag blocks) .live).onNmx (Nmx.duckAll s.mu.tables.route)

/-- The state after stage 5: the cues have finished and the ramps have ended. -/
def State.mixed (blocks : List StreamBlock) (s : State) : State :=
  ((s.ducked blocks).turnCues (meetsEnd blocks) .done).onNmx fun x => { x with ramps := Vector.replicate 8 none }

theorem State.soundArrival_eq (blocks : List StreamBlock) (s : State) : s.soundArrival blocks =
    forEach 8 (State.handBlock (mixOutput s.mu.tables.route (s.ducked blocks).nmx blocks)) (s.mixed blocks) := by
  have tags : forEach 8 (State.matchTag blocks) s = s.turnCues (meetsTag blocks) .live := by
    unfold State.turnCues
    exact forEach_congr (State.matchTag_eq blocks) s
  have ends (t : State) : forEach 8 (State.finishCue blocks) t = t.turnCues (meetsEnd blocks) .done := by
    unfold State.turnCues
    exact forEach_congr (State.finishCue_eq blocks) t
  have mu : (s.turnCues (meetsTag blocks) .live).mu = s.mu :=
    (congrArg State.mu (State.turnCues_keeps (meetsTag blocks) .live s).2.2 :)
  unfold State.soundArrival
  dsimp only
  rw [tags, ends, State.onNmx_mu, mu]
  rfl

theorem State.ducked_cues (k : SlotId) (s : State) :
    (s.ducked blocks).nmx.cues[k] = (s.nmx.cues[k]).map (cueTurned (meetsTag blocks) .live) :=
  State.turnCues_cues k s

/-- A LIVE cue routes to an output at stage 3 as R102 has it. -/
theorem State.tagged_liveAt (o : OutputId) (s : State) : (s.turnCues (meetsTag blocks) .live).nmx.liveAt o = true ↔
    ∃ k : SlotId, liveInFrame blocks o s.nmx.cues[k] := by
  have routes (c : Option Cue) : routesTo (c.map (cueTurned (meetsTag blocks) .live)) o = true ↔
      liveInFrame blocks o c := by
    cases c with
    | none => simp [routesTo, liveInFrame]
    | some c =>
      cases st : c.state <;> cases h : (cueBlock blocks c).isSome <;>
        simp [routesTo, liveInFrame, cueTurned, meetsTag, st, h]
  have any (x : Nmx) : x.liveAt o = true ↔ ∃ k : SlotId, routesTo x.cues[k] o = true := by simp [Nmx.liveAt]
  simp only [any, State.turnCues_cues, routes]

theorem State.ducked_duck (o : OutputId) (s : State) : (s.ducked blocks).nmx.duck[o] =
    duckStep s.nmx.duck[o]
      (if (s.turnCues (meetsTag blocks) .live).nmx.liveAt o then s.mu.tables.route.depth[o] else 4096)
      s.mu.tables.route.attack[o] s.mu.tables.route.release[o] := by
  obtain ⟨⟨-, -, -, duck⟩, -⟩ := State.turnCues_keeps (meetsTag blocks) .live s
  simp only [State.ducked, State.onNmx_nmx, Nmx.duckAll, Fin.getElem_fin, Vector.getElem_ofFn, duck]
  rfl

theorem State.mixed_cues (k : SlotId) (s : State) :
    (s.mixed blocks).nmx.cues[k] = (s.nmx.cues[k]).map (cueAfter blocks) := by
  have ends := State.turnCues_cues (test := meetsEnd blocks) (st := .done) k (s.ducked blocks)
  rw [State.ducked_cues, Option.map_map] at ends
  refine ends.trans (congrArg (Option.map · _) ?_)
  exact funext fun c => (cueAfter_eq blocks c).symm

/-- The mark of a slot's cue at the LCO: told where the frame changes the cue's state. -/
theorem State.mixed_live (k : SlotId) (s : State) :
    (s.nmx.cues[k] = none → (s.mixed blocks).lco.cueLive.getLsbD k = s.lco.cueLive.getLsbD k) ∧
    ∀ c, s.nmx.cues[k] = some c → (s.mixed blocks).lco.cueLive.getLsbD k =
      if (cueAfter blocks c).state = c.state then s.lco.cueLive.getLsbD k
      else decide ((cueAfter blocks c).state = .live) := by
  have told : (s.mixed blocks).lco.cueLive.getLsbD k =
      if ((s.nmx.cues[k]).map (cueTurned (meetsTag blocks) .live)).any (meetsEnd blocks) = true then false
      else if (s.nmx.cues[k]).any (meetsTag blocks) = true then true else s.lco.cueLive.getLsbD k := by
    rw [← State.ducked_cues]
    exact (State.turnCues_live k (s.ducked blocks)).trans
      (congrArg (ite _ false) (State.turnCues_live (test := meetsTag blocks) (st := .live) k s))
  refine ⟨fun none => by rw [told, none]; rfl, fun c hc => ?_⟩
  rw [told, hc, cueAfter_eq, Option.map_some, Option.any_some, Option.any_some]
  cases tag : meetsTag blocks c with
  | true =>
    have pending : c.state = .pending := by simp only [meetsTag, Bool.and_eq_true, beq_iff_eq] at tag; exact tag.1
    have live : cueTurned (meetsTag blocks) .live c = { c with state := .live } := if_pos tag
    rw [live]
    cases last : meetsEnd blocks { c with state := .live } <;> simp [cueTurned, last, pending]
  | false =>
    have same : cueTurned (meetsTag blocks) .live c = c := if_neg (by simp [tag])
    rw [same]
    cases last : meetsEnd blocks c with
    | true =>
      have live : c.state = .live := by simp only [meetsEnd, Bool.and_eq_true, beq_iff_eq] at last; exact last.1
      simp [cueTurned, last, live]
    | false => simp [cueTurned, last]

theorem State.mixed_keeps (blocks : List StreamBlock) (s : State) :
    let t := s.mixed blocks
    (t.nmx.nextCue = s.nmx.nextCue ∧ t.nmx.present = s.nmx.present ∧ t.nmx.duck = (s.ducked blocks).nmx.duck) ∧
    t.lco = { s.lco with cueLive := t.lco.cueLive } ∧ { t with nmx := s.nmx, lco := s.lco } = s := by
  obtain ⟨⟨next₁, present₁, -, -⟩, lco₁, rest₁⟩ := State.turnCues_keeps (meetsTag blocks) .live s
  obtain ⟨⟨next₂, present₂, -, duck₂⟩, lco₂, rest₂⟩ := State.turnCues_keeps (meetsEnd blocks) .done (s.ducked blocks)
  refine ⟨⟨next₂.trans next₁, present₂.trans present₁, duck₂⟩, ?_, ?_⟩
  · exact lco₂.trans (congrArg (fun x : Lco => { x with cueLive := (s.mixed blocks).lco.cueLive }) lco₁)
  · exact (congrArg (fun t : State => { t with nmx := s.nmx, lco := s.lco }) rest₂).trans rest₁

theorem State.ducked_ramps (s : State) : (s.ducked blocks).nmx.ramps = s.nmx.ramps :=
  (State.turnCues_keeps (meetsTag blocks) .live s).1.2.2.1

/-- What each zone's port is handed. -/
theorem State.soundArrival_ports (blocks : List StreamBlock) (z : ZoneId) (s : State) :
    let block (o : OutputId) := frameBlock s.mu.tables.route s.nmx blocks (s.ducked blocks).nmx.duck[o] o
    (s.soundArrival blocks).ports[z] =
      Port.handed (block (globalOutput z 1)) (Port.handed (block (globalOutput z 0)) s.ports[z]) := by
  obtain ⟨⟨-, present, -⟩, -, rest⟩ := State.mixed_keeps blocks s
  have offers (o : OutputId) :
      (s.mixed blocks).nmx.offered (mixOutput s.mu.tables.route (s.ducked blocks).nmx blocks) o =
        frameBlock s.mu.tables.route s.nmx blocks (s.ducked blocks).nmx.duck[o] o := by
    have samples : mixOutput s.mu.tables.route (s.ducked blocks).nmx blocks o = (List.range 480).map
        (frameSample s.mu.tables.route s.nmx blocks (s.ducked blocks).nmx.duck[o] o) :=
      List.map_congr_left fun n _ => frameSample_eq (fun k => State.ducked_cues k s) s.ducked_ramps o n
    rw [Nmx.offered, frameBlock, present, samples]
  have ports : (s.mixed blocks).ports = s.ports := (congrArg State.ports rest :)
  dsimp only
  rw [State.soundArrival_eq, State.handBlocks_ports, offers, offers, ports]

theorem State.handBlock_rest (samples : OutputId → List Int) (o : OutputId) (s : State) (ports : Vector Port 4) :
    { s.handBlock samples o with ports := ports } = { s with ports := ports } := by
  unfold State.handBlock
  split <;> rfl

/-- Beside the ports, a SOUND frame leaves what its stages 2 to 5 leave. -/
theorem State.soundArrival_rest (blocks : List StreamBlock) (s : State) :
    { s.soundArrival blocks with ports := s.ports } = s.mixed blocks := by
  have ports : (s.mixed blocks).ports = s.ports :=
    (congrArg State.ports (State.mixed_keeps blocks s).2.2 :)
  rw [State.soundArrival_eq, ← ports]
  exact forEach_same (g := fun t : State => { t with ports := (s.mixed blocks).ports })
    (fun o t => State.handBlock_rest _ o t _) (s.mixed blocks)

theorem duckStep_cases (d target attack release : Nat) :
    (target < d → duckStep d target attack release = max target (d - attack)) ∧
    (d < target → duckStep d target attack release = min target (d + release)) ∧
    (d = target → duckStep d target attack release = d) := by
  unfold duckStep
  refine ⟨fun h => ?_, fun h => ?_, fun h => ?_⟩
  · rw [if_pos h, max_comm]
  · rw [if_neg (by omega), if_pos h, min_comm]
  · rw [if_neg (by omega), if_neg (by omega)]

/-- Settles O17: the frame's streams are refreshed, and then its stages act. -/
theorem soundFrameMovesCuesAndDucks : Obligations.SoundFrameMovesCuesAndDucks := by
  unfold Obligations.SoundFrameMovesCuesAndDucks
  refine ⟨duckStep_cases, fun f blocks s own body => ?_⟩
  have layout : agrees (Rx.frame f 3) = true := by simp [agrees, Rx.frame, body]
  have run : exec (.soundFrame f) s = .next (((s.record f.seq).refreshStreams blocks).soundArrival blocks) := by
    rw [show exec (.soundFrame f) s = execSoundFrame f s from rfl, execSoundFrame,
      State.receive_own (f := Rx.frame f 3) own layout, State.soundFrameArrival, body]
    rfl
  have fresh (k : StreamId) := State.refreshStreams_isFresh blocks k (s.record f.seq)
  have queue := congrArg Sli.ownQueue (State.refreshStreams_sli blocks (s.record f.seq))
  obtain ⟨x, hx⟩ : ∃ x : Sli, (s.record f.seq).refreshStreams blocks = { s with sli := x } :=
    ⟨_, (congrArg (fun t : State => { t with sli := ((s.record f.seq).refreshStreams blocks).sli })
      (State.refreshStreams_rest blocks (s.record f.seq)) :)⟩
  rw [hx] at run fresh queue
  generalize hu : ({ s with sli := x } : State) = u at run fresh queue
  have before : { u with sli := s.sli } = s := by rw [← hu]
  have rest := State.soundArrival_rest blocks u
  obtain ⟨⟨next, present, duck⟩, lco, other⟩ := State.mixed_keeps blocks u
  have nmx : (u.soundArrival blocks).nmx = (u.mixed blocks).nmx := (congrArg State.nmx rest :)
  have lights : (u.soundArrival blocks).lco = (u.mixed blocks).lco := (congrArg State.lco rest :)
  have nmx' : u.nmx = s.nmx := (congrArg State.nmx before :)
  have lco' : u.lco = s.lco := (congrArg State.lco before :)
  have mu' : u.mu = s.mu := (congrArg State.mu before :)
  have ports' : u.ports = s.ports := (congrArg State.ports before :)
  have sli' : (u.soundArrival blocks).sli = u.sli := by simp
  refine ⟨_, run, fun k => ?_, fun k => ?_, fun o routed => ?_, fun o unrouted => ?_, fun z => ?_, fun k => ?_, ?_, ?_,
    ?_, fun k none => ?_, fun k c hc => ?_, ?_, ?_⟩
  · rw [nmx, State.mixed_cues, nmx']
  · rw [nmx]
    simp [State.mixed]
  · rw [nmx, duck, State.ducked_duck, if_pos ((State.tagged_liveAt o u).mpr (nmx' ▸ routed)), nmx', mu']
  · rw [nmx, duck, State.ducked_duck, if_neg (mt (State.tagged_liveAt o u).mp (nmx' ▸ unrouted)), nmx', mu']
  · rw [State.soundArrival_ports, nmx, duck, nmx', mu', ports']
  · rw [State.isFresh, sli']
    exact fresh k
  · rw [nmx, next, nmx']
  · rw [nmx, present, nmx']
  · rw [lights, ← lco']
    exact lco
  · rw [lights, ← lco']
    exact (State.mixed_live k u).1 (nmx' ▸ none)
  · rw [lights, ← lco']
    exact (State.mixed_live k u).2 c (nmx' ▸ hc)
  · rw [sli', queue]
    rfl
  · exact (congrArg (fun t : State => { t with nmx := s.nmx, lco := s.lco, sli := s.sli, ports := s.ports }) rest).trans
      ((congrArg (fun t : State => { t with nmx := s.nmx, lco := s.lco, sli := s.sli, ports := s.ports }) other).trans
        (congrArg (fun t : State => { t with nmx := s.nmx, lco := s.lco, ports := s.ports }) before))

end Sys2Proof.Machine
end

section
/-! SUPPORT. A stream that becomes STALE under the cues (R98), and one source's share of a beat (R68, R116, R170). -/

namespace Sys2Proof.Machine

variable {s t u : State} {k j : SlotId} {c : Cue} {x : StreamId} {src : SourceId}

/-! ### The cues on a STALE stream (R98) -/

/-- A LIVE cue on a stream. -/
def losesOn (x : StreamId) (c : Cue) : Bool := decide (c.state = .live ∧ c.stream = x)

theorem losesOn_iff : losesOn x c = true ↔ c.state = .live ∧ c.stream = x := decide_eq_true_iff

theorem State.loseCue_some (h : s.nmx.cues[k] = some c) (loses : losesOn x c = true) :
    s.loseCue x k = (((s.setCue k (some { c with state := .lost })).join (.cueCancel (cueInfo k c) .lost)).onLco
      (Lco.tellLive k false)).mark k .cueLost := by
  simp only [State.loseCue, h, if_pos (losesOn_iff.mp loses)]

theorem State.loseCue_skip (h : (s.nmx.cues[k]).any (losesOn x) = false) : s.loseCue x k = s := by
  unfold State.loseCue
  split
  · next c hc =>
    rw [hc] at h
    exact if_neg fun loses => Bool.false_ne_true (h.symm.trans (losesOn_iff.mpr loses))
  · rfl

/-- At the NMX and the LCO a lost cue is a cue that takes a state. -/
theorem State.loseCue_turn (x : StreamId) (k : SlotId) (s : State) :
    (s.loseCue x k).nmx = (s.turnCue (losesOn x) .lost k).nmx ∧
    (s.loseCue x k).lco = (s.turnCue (losesOn x) .lost k).lco := by
  rcases s.any_cue (losesOn x) k with ⟨c, hc, loses⟩ | skip
  · rw [State.loseCue_some hc loses, State.turnCue_some hc loses]
    simp only [State.mark_frame, State.onLco_nmx, State.onLco_lco, State.join_frame, true_and]
    rfl
  · rw [State.loseCue_skip skip, State.turnCue_skip skip]
    exact ⟨rfl, rfl⟩

theorem State.loseCue_cues (k j : SlotId) (s : State) : (s.loseCue x k).nmx.cues[j] =
    if j = k then (s.nmx.cues[k]).map (cueTurned (losesOn x) .lost) else s.nmx.cues[j] := by
  rw [(State.loseCue_turn x k s).1, State.turnCue_cues]

theorem State.loseCue_live (k j : SlotId) (s : State) : (s.loseCue x k).lco.cueLive.getLsbD j =
    if j = k ∧ (s.nmx.cues[k]).any (losesOn x) = true then false else s.lco.cueLive.getLsbD j := by
  rw [(State.loseCue_turn x k s).2, State.turnCue_live]
  rfl

theorem State.loseCue_slots (k j : SlotId) (s : State) : (s.loseCue x k).seq.slots[j] =
    if j = k ∧ (s.nmx.cues[k]).any (losesOn x) = true then
      (s.seq.slots[k]).onPlaying fun p => { p with marks := p.marks ||| 4 }
    else s.seq.slots[j] := by
  rcases s.any_cue (losesOn x) k with ⟨c, hc, loses⟩ | skip
  · rw [State.loseCue_some hc loses, State.mark_slots, hc, Option.any_some, loses]
    simp only [and_true]
    rfl
  · rw [State.loseCue_skip skip, skip, if_neg (by simp)]

/-- All but what a lost cue may change: cues, their marks at the LCO, the marks of slots and the own-report queue. -/
def State.besideLost (s : State) : State := { s with
  nmx := { s.nmx with cues := Vector.replicate 8 none }
  lco := { s.lco with cueLive := 0 }
  sli := { s.sli with ownQueue := [], owed := false, reportOverrun := false }
  seq := { s.seq with slots := Vector.replicate 8 (.free none .reset) } }

theorem State.mark_besideLost (k : SlotId) (m : Mark) (s : State) : (s.mark k m).besideLost = s.besideLost := by
  unfold State.mark State.onPlay
  split <;> rfl

theorem State.join_besideLost (r : Report) (s : State) : (s.join r).besideLost = s.besideLost := by
  have rest := congrArg (fun y : Sli => { y with ownQueue := [], owed := false, reportOverrun := false })
    (Sli.join_rest r s.sli)
  exact congrArg (fun y : Sli => { s.besideLost with sli := y }) rest

theorem State.loseCue_rest (k : SlotId) (s : State) : (s.loseCue x k).besideLost = s.besideLost := by
  rcases s.any_cue (losesOn x) k with ⟨c, hc, loses⟩ | skip
  · rw [State.loseCue_some hc loses, State.mark_besideLost]
    exact State.join_besideLost (.cueCancel (cueInfo k c) .lost) s
  · rw [State.loseCue_skip skip]

theorem State.streamStale_cues (k : SlotId) (s : State) :
    (s.streamStale x).nmx.cues[k] = (s.nmx.cues[k]).map (cueTurned (losesOn x) .lost) := by
  unfold State.streamStale
  refine forEach_at (f := State.loseCue x) (i := k) (view := fun s : State => s.nmx.cues[k])
    (g := fun s => (s.nmx.cues[k]).map (cueTurned (losesOn x) .lost)) (fun j s ne => ?_) (fun s => ?_)
    (fun j s ne => ?_) s
  · rw [State.loseCue_cues, if_neg (Ne.symm ne)]
  · rw [State.loseCue_cues, if_pos rfl]
  · simp only [State.loseCue_cues, if_neg (Ne.symm ne)]

theorem State.streamStale_live (k : SlotId) (s : State) : (s.streamStale x).lco.cueLive.getLsbD k =
    if (s.nmx.cues[k]).any (losesOn x) = true then false else s.lco.cueLive.getLsbD k := by
  unfold State.streamStale
  refine forEach_at (f := State.loseCue x) (i := k) (view := fun s : State => s.lco.cueLive.getLsbD k)
    (g := fun s => if (s.nmx.cues[k]).any (losesOn x) = true then false else s.lco.cueLive.getLsbD k)
    (fun j s ne => ?_) (fun s => ?_) (fun j s ne => ?_) s
  · rw [State.loseCue_live, if_neg fun h => ne h.1.symm]
  · rw [State.loseCue_live]
    simp only [true_and]
  · simp only [State.loseCue_live, State.loseCue_cues, if_neg (Ne.symm ne), if_neg fun h => Ne.symm ne (And.left h)]

theorem State.streamStale_slots (k : SlotId) (s : State) : (s.streamStale x).seq.slots[k] =
    if (s.nmx.cues[k]).any (losesOn x) = true then
      (s.seq.slots[k]).onPlaying fun p => { p with marks := p.marks ||| 4 }
    else s.seq.slots[k] := by
  unfold State.streamStale
  refine forEach_at (f := State.loseCue x) (i := k) (view := fun s : State => s.seq.slots[k])
    (g := fun s => if (s.nmx.cues[k]).any (losesOn x) = true then
      (s.seq.slots[k]).onPlaying fun p => { p with marks := p.marks ||| 4 } else s.seq.slots[k])
    (fun j s ne => ?_) (fun s => ?_) (fun j s ne => ?_) s
  · rw [State.loseCue_slots, if_neg fun h => ne h.1.symm]
  · rw [State.loseCue_slots]
    simp only [true_and]
  · simp only [State.loseCue_slots, State.loseCue_cues, if_neg (Ne.symm ne), if_neg fun h => Ne.symm ne (And.left h)]

theorem State.streamStale_rest (s : State) : (s.streamStale x).besideLost = s.besideLost := by
  unfold State.streamStale
  exact forEach_same (f := State.loseCue x) (g := State.besideLost) State.loseCue_rest s

/-- A stream with no LIVE cue on it is nobody's loss. -/
theorem State.streamStale_none (h : ∀ k : SlotId, (s.nmx.cues[k]).any (losesOn x) = false) : s.streamStale x = s := by
  unfold State.streamStale
  refine forEach_inv (f := State.loseCue x) (P := fun t => t = s) (fun k t e => ?_) s rfl
  rw [e]
  exact State.loseCue_skip (h k)

/-- With one LIVE cue on the stream, the SLI takes that cue's report alone. -/
theorem State.streamStale_one (h : ∀ i : SlotId, i ≠ j → (s.nmx.cues[i]).any (losesOn x) = false) :
    (s.streamStale x).sli = (s.loseCue x j).sli := by
  unfold State.streamStale
  refine forEach_at_of (f := State.loseCue x) (i := j) (view := State.sli) (g := fun t => (t.loseCue x j).sli)
    (P := fun t => ∀ i : SlotId, i ≠ j → (t.nmx.cues[i]).any (losesOn x) = false) (fun i t only => ?_)
    (fun i t only ne => ?_) (fun t _ => rfl) (fun i t only ne => ?_) s h
  · by_cases e : i = j
    · intro i' ne
      rw [State.loseCue_cues, if_neg (e ▸ ne)]
      exact only i' ne
    · rwa [State.loseCue_skip (only i e)]
  · rw [State.loseCue_skip (only i ne)]
  · rw [State.loseCue_skip (only i ne)]

/-! ### One source's share of a beat (R170) -/

/-- A source after a beat. -/
def State.agedSource (s : State) (src : SourceId) : Src :=
  { age := nextAge s.sli.sources[sourceIndex src]
    fresh := (s.sli.sources[sourceIndex src]).fresh && !s.goesStale src }

/-- A source's age has taken a beat; its block has not yet taken a change to STALE. -/
def State.aged (src : SourceId) (s : State) : State :=
  s.onSli fun y => { y with sources := y.sources.set (sourceIndex src) (s.agedSource src) }

theorem State.sourceBeat_eq (src : SourceId) (s : State) :
    s.sourceBeat src = if s.goesStale src then (s.aged src).handStale src else s.aged src := rfl

theorem State.handStale_light (z : ZoneId) (s : State) : s.handStale (.light z) = s.onLco (Lco.markStale z) := rfl

theorem State.handStale_stream (x : StreamId) (s : State) : s.handStale (.stream x) = s.streamStale x := rfl

theorem State.handStale_setpoint (a : AxisId) (s : State) : s.handStale (.setpoint a) = s.judgeAxis a := rfl

theorem State.aged_sources (src : SourceId) (i : Fin 44) (s : State) :
    (s.aged src).sli.sources[i] = if i = sourceIndex src then s.agedSource src else s.sli.sources[i] :=
  getElem_set_at ..

theorem State.aged_isFresh (h : s.goesStale src = true) : (s.aged src).isFresh src = false := by
  rw [State.isFresh, State.aged_sources, if_pos rfl, State.agedSource, h]
  exact Bool.and_false _

theorem State.handStale_sources (src : SourceId) (s : State) : (s.handStale src).sli.sources = s.sli.sources ∧
    (s.handStale src).sli.statusCount = s.sli.statusCount := by
  cases src with
  | light z =>
    rw [State.handStale_light, State.onLco_sli]
    exact ⟨rfl, rfl⟩
  | stream x =>
    rw [State.handStale_stream]
    have rest := State.streamStale_rest (x := x) s
    generalize s.streamStale x = t at rest
    exact ⟨(congrArg (fun t => t.sli.sources) rest :), (congrArg (fun t => t.sli.statusCount) rest :)⟩
  | setpoint a =>
    rw [State.handStale_setpoint, (State.judgeAxis_frame s a).1]
    exact ⟨rfl, rfl⟩

end Sys2Proof.Machine
end

section
/-! SUPPORT. The SLI's beat, source by source (R68, R98, R116, R170, R172). -/

namespace Sys2Proof.Machine

variable {s t u : State} {k j : SlotId} {c : Cue} {x : StreamId} {src : SourceId} {i : Fin 44}

/-! ### The sources by index -/

/-- The source at an index. -/
def sourceAt (i : Fin 44) : SourceId :=
  if light : i.val < 4 then .light ⟨i.val, light⟩
  else if stream : i.val < 12 then .stream ⟨i.val - 4, by omega⟩
  else .setpoint ⟨i.val - 12, by omega⟩

theorem allSources_eq : allSources = (List.finRange 44).map sourceAt := by decide

theorem sourceIndex_sourceAt (i : Fin 44) : sourceIndex (sourceAt i) = i := by
  revert i
  decide

theorem sourceAt_sourceIndex (src : SourceId) : sourceAt (sourceIndex src) = src :=
  sourceIndex_inj.mp (sourceIndex_sourceAt _)

/-- The source at an index takes its share of a beat. -/
def State.sourceTurn (i : Fin 44) (s : State) : State := s.sourceBeat (sourceAt i)

/-- Every source takes its share of a beat. Irreducible, so that no check of definitional equality runs the 44 turns. -/
@[irreducible] def State.sourcesBeat (s : State) : State := forEach 44 State.sourceTurn s

theorem State.sliBeat_eq (s : State) : s.sliBeat = s.sourcesBeat.statusBeat := by
  unfold State.sourcesBeat
  rw [State.sliBeat, allSources_eq, List.foldl_map]
  rfl

/-! ### One turn -/

theorem State.sourceBeat_stale (h : s.goesStale src = true) : s.sourceBeat src = (s.aged src).handStale src := by
  rw [State.sourceBeat_eq, if_pos h]

theorem State.sourceBeat_quiet (h : s.goesStale src = false) : s.sourceBeat src = s.aged src := by
  rw [State.sourceBeat_eq, h]
  rfl

theorem State.sourceTurn_sources (i j : Fin 44) (s : State) : (s.sourceTurn i).sli.sources[j] =
    if j = i then s.agedSource (sourceAt i) else s.sli.sources[j] := by
  have aged := State.aged_sources (sourceAt i) j s
  rw [sourceIndex_sourceAt] at aged
  rw [← aged]
  cases h : s.goesStale (sourceAt i) with
  | true =>
    rw [State.sourceTurn, State.sourceBeat_stale h, (State.handStale_sources (sourceAt i) (s.aged (sourceAt i))).1]
  | false => rw [State.sourceTurn, State.sourceBeat_quiet h]

theorem State.sourceTurn_statusCount (i : Fin 44) (s : State) :
    (s.sourceTurn i).sli.statusCount = s.sli.statusCount := by
  cases h : s.goesStale (sourceAt i) with
  | true =>
    rw [State.sourceTurn, State.sourceBeat_stale h, (State.handStale_sources (sourceAt i) (s.aged (sourceAt i))).2]
    rfl
  | false => rw [State.sourceTurn, State.sourceBeat_quiet h]; rfl

theorem State.sourceTurn_mu (i : Fin 44) (s : State) : (s.sourceTurn i).mu = s.mu :=
  (State.sourceBeat_frame s (sourceAt i)).1

theorem State.goesStale_congr (source : t.sli.sources[sourceIndex src] = s.sli.sources[sourceIndex src])
    (mu : t.mu = s.mu) : t.goesStale src = s.goesStale src := by
  rw [State.goesStale, State.goesStale, source, mu]

/-- A turn leaves what the others' depends on. -/
theorem State.sourceTurn_goesStale (ne : sourceIndex src ≠ i) : (s.sourceTurn i).goesStale src = s.goesStale src := by
  refine State.goesStale_congr ?_ (State.sourceTurn_mu i s)
  rw [State.sourceTurn_sources, if_neg ne]

theorem State.sourcesBeat_sources (i : Fin 44) (s : State) :
    s.sourcesBeat.sli.sources[i] = s.agedSource (sourceAt i) := by
  unfold State.sourcesBeat
  refine forEach_at (f := State.sourceTurn) (i := i) (view := fun s : State => s.sli.sources[i])
    (g := fun s => s.agedSource (sourceAt i)) (fun j s ne => ?_) (fun s => ?_) (fun j s ne => ?_) s
  · rw [State.sourceTurn_sources, if_neg (Ne.symm ne)]
  · rw [State.sourceTurn_sources, if_pos rfl]
  · have at' : sourceIndex (sourceAt i) ≠ j := by rw [sourceIndex_sourceAt]; exact Ne.symm ne
    simp only [State.agedSource, State.sourceTurn_goesStale at', State.sourceTurn_sources, if_neg at']

theorem State.sourcesBeat_statusCount (s : State) : s.sourcesBeat.sli.statusCount = s.sli.statusCount := by
  unfold State.sourcesBeat
  exact forEach_same (f := State.sourceTurn) (g := fun s : State => s.sli.statusCount) State.sourceTurn_statusCount s

/-- A state but for its sources. -/
def State.besideSources (s : State) : State := { s with sli := { s.sli with sources := Vector.replicate 44 {} } }

/-- Where no source becomes STALE, the sources alone change. -/
theorem State.sourcesBeat_quiet (h : ∀ i, s.goesStale (sourceAt i) = false) :
    s.sourcesBeat.besideSources = s.besideSources := by
  have turns : ∀ (l : List (Fin 44)) (t : State), l.Nodup → (∀ i ∈ l, t.goesStale (sourceAt i) = false) →
      (l.foldl (fun t i => t.sourceTurn i) t).besideSources = t.besideSources := by
    intro l
    induction l with
    | nil => exact fun _ _ _ => rfl
    | cons i is ih =>
      intro t nodup quiet
      obtain ⟨notIn, rest⟩ := List.nodup_cons.mp nodup
      rw [List.foldl_cons, ih _ rest fun j hj => ?_, State.sourceTurn,
        State.sourceBeat_quiet (quiet i List.mem_cons_self)]
      · rfl
      · rw [State.sourceTurn_goesStale (by rw [sourceIndex_sourceAt]; exact fun e => notIn (e ▸ hj))]
        exact quiet j (List.mem_cons_of_mem _ hj)
  unfold State.sourcesBeat forEach
  exact turns _ s (List.nodup_finRange 44) fun i _ => h i

/-! ### What the turns make of the light levels and the cues -/

theorem Lco.markStale_channels (z : ZoneId) (x : Lco) (c : ChannelId) :
    (x.markStale z).channels[c] =
      if channelZone c = z then { x.channels[c] with stale := true } else x.channels[c] := by
  rw [Lco.markStale, Lco.mapChannels_channels]

theorem Lco.markStale_masters (z : ZoneId) (x : Lco) : (x.markStale z).masters = x.masters :=
  (Lco.mapChannels_masters ..).1

theorem State.sourceTurn_index (src : SourceId) (s : State) : s.sourceTurn (sourceIndex src) = s.sourceBeat src := by
  rw [State.sourceTurn, sourceAt_sourceIndex]

theorem sourceAt_ne (h : i ≠ sourceIndex src) : sourceAt i ≠ src := fun e => h (by rw [← e, sourceIndex_sourceAt])

theorem State.streamStale_beside (x : StreamId) (s : State) : (s.streamStale x).lco.channels = s.lco.channels ∧
    (s.streamStale x).nmx.ramps = s.nmx.ramps := by
  have rest := State.streamStale_rest (x := x) s
  generalize s.streamStale x = t at rest
  exact ⟨(congrArg (fun t => t.lco.channels) rest :), (congrArg (fun t => t.nmx.ramps) rest :)⟩

theorem State.handStale_channels (src : SourceId) (c : ChannelId) (s : State) :
    (s.handStale src).lco.channels[c] = { s.lco.channels[c] with
      stale := (s.lco.channels[c]).stale || decide (src = .light (channelZone c)) } := by
  cases src with
  | light z =>
    rw [State.handStale_light, State.onLco_lco, Lco.markStale_channels]
    by_cases e : channelZone c = z
    · rw [if_pos e, e, decide_eq_true rfl, Bool.or_true]
    · rw [if_neg e, decide_eq_false fun h => e (SourceId.light.inj h).symm, Bool.or_false]
  | stream x =>
    rw [State.handStale_stream, (State.streamStale_beside x s).1]
    simp
  | setpoint a =>
    rw [State.handStale_setpoint, (State.judgeAxis_frame s a).2.2.2.2.2.1]
    simp

theorem State.sourceBeat_channels (src : SourceId) (c : ChannelId) (s : State) :
    (s.sourceBeat src).lco.channels[c] = { s.lco.channels[c] with
      stale := (s.lco.channels[c]).stale || (s.goesStale src && decide (src = .light (channelZone c))) } := by
  cases h : s.goesStale src with
  | true => rw [State.sourceBeat_stale h, State.handStale_channels, Bool.true_and]; rfl
  | false => rw [State.sourceBeat_quiet h, Bool.false_and, Bool.or_false]; rfl

theorem State.sourcesBeat_channels (c : ChannelId) (s : State) :
    s.sourcesBeat.lco.channels[c] = { s.lco.channels[c] with
      stale := (s.lco.channels[c]).stale || s.goesStale (.light (channelZone c)) } := by
  unfold State.sourcesBeat
  refine forEach_at (f := State.sourceTurn) (i := sourceIndex (.light (channelZone c)))
    (view := fun s : State => s.lco.channels[c]) (g := fun s => { s.lco.channels[c] with
      stale := (s.lco.channels[c]).stale || s.goesStale (.light (channelZone c)) })
    (fun j s ne => ?_) (fun s => ?_) (fun j s ne => ?_) s
  · rw [State.sourceTurn, State.sourceBeat_channels, decide_eq_false (sourceAt_ne ne), Bool.and_false, Bool.or_false]
  · rw [State.sourceTurn_index, State.sourceBeat_channels, decide_eq_true rfl, Bool.and_true]
  · have same : (s.sourceTurn j).lco.channels[c] = s.lco.channels[c] := by
      rw [State.sourceTurn, State.sourceBeat_channels, decide_eq_false (sourceAt_ne ne), Bool.and_false, Bool.or_false]
    simp only [same, State.sourceTurn_goesStale (Ne.symm ne)]

/-! ### The cues -/

/-- A cue after its stream has become STALE, when it has. -/
def cueLost (stale : Bool) (c : Cue) : Cue := if c.state = .live ∧ stale = true then { c with state := .lost } else c

theorem State.handStale_cues (src : SourceId) (k : SlotId) (s : State) : (s.handStale src).nmx.cues[k] =
    (s.nmx.cues[k]).map fun c => cueLost (decide (src = .stream c.stream)) c := by
  have kept {src : SourceId} (h : ∀ x, src ≠ .stream x) :
      s.nmx.cues[k] = (s.nmx.cues[k]).map fun c => cueLost (decide (src = .stream c.stream)) c := by
    simp [cueLost, h]
  cases src with
  | light z => exact kept fun _ h => nomatch h
  | stream x =>
    rw [State.handStale_stream, State.streamStale_cues]
    congr
    funext c
    simp only [cueTurned, cueLost, losesOn, decide_eq_true_eq, SourceId.stream.injEq, eq_comm (a := x)]
  | setpoint a =>
    rw [State.handStale_setpoint, (State.judgeAxis_frame s a).2.2.2.2.2.2.1]
    exact kept fun _ h => nomatch h

theorem State.sourceBeat_cues (src : SourceId) (k : SlotId) (s : State) : (s.sourceBeat src).nmx.cues[k] =
    (s.nmx.cues[k]).map fun c => cueLost (s.goesStale src && decide (src = .stream c.stream)) c := by
  cases h : s.goesStale src with
  | true => rw [State.sourceBeat_stale h, State.handStale_cues]; simp only [Bool.true_and]; rfl
  | false =>
    have kept : (fun c : Cue => cueLost (false && decide (src = .stream c.stream)) c) = id := by
      funext c
      simp [cueLost]
    rw [State.sourceBeat_quiet h, kept, Option.map_id]
    rfl

theorem cueLost_stream (b : Bool) (c : Cue) : (cueLost b c).stream = c.stream := by
  unfold cueLost
  split <;> rfl

theorem State.sourceTurn_cue_other (hc : s.nmx.cues[k] = some c) (ne : i ≠ sourceIndex (.stream c.stream)) :
    (s.sourceTurn i).nmx.cues[k] = some c := by
  rw [State.sourceTurn, State.sourceBeat_cues, hc, Option.map_some, decide_eq_false (sourceAt_ne ne), Bool.and_false,
    cueLost, if_neg (by simp)]

theorem State.sourcesBeat_cues (k : SlotId) (s : State) : s.sourcesBeat.nmx.cues[k] =
    (s.nmx.cues[k]).map fun c => cueLost (s.goesStale (.stream c.stream)) c := by
  unfold State.sourcesBeat
  cases hc : s.nmx.cues[k] with
  | none =>
    exact forEach_inv (f := State.sourceTurn) (P := fun t : State => t.nmx.cues[k] = none)
      (fun i t h => by rw [State.sourceTurn, State.sourceBeat_cues, h, Option.map_none]) s hc
  | some c =>
    rw [← hc]
    refine forEach_at_of (f := State.sourceTurn) (i := sourceIndex (.stream c.stream))
      (view := fun t : State => t.nmx.cues[k])
      (g := fun t => (t.nmx.cues[k]).map fun c => cueLost (t.goesStale (.stream c.stream)) c)
      (P := fun t : State => ∃ d, t.nmx.cues[k] = some d ∧ d.stream = c.stream) ?_ ?_ ?_ ?_ s ⟨c, hc, rfl⟩
    · rintro i t ⟨d, hd, same⟩
      refine ⟨_, by rw [State.sourceTurn, State.sourceBeat_cues, hd, Option.map_some], ?_⟩
      rw [cueLost_stream, same]
    · rintro i t ⟨d, hd, same⟩ ne
      rw [State.sourceTurn_cue_other hd (same ▸ ne), hd]
    · rintro t ⟨d, hd, same⟩
      simp only [State.sourceTurn_index, State.sourceBeat_cues, hd, Option.map_some, same, decide_true, Bool.and_true]
    · rintro i t ⟨d, hd, same⟩ ne
      have goes := State.sourceTurn_goesStale (s := t) (Ne.symm ne)
      simp only [State.sourceTurn_cue_other hd (same ▸ ne), hd, Option.map_some, same, goes]

theorem State.handStale_ramps (src : SourceId) (s : State) : (s.handStale src).nmx.ramps = s.nmx.ramps := by
  cases src with
  | light z => rw [State.handStale_light, State.onLco_nmx]
  | stream x => rw [State.handStale_stream, (State.streamStale_beside x s).2]
  | setpoint a =>
    rw [State.handStale_setpoint, (State.judgeAxis_frame s a).2.2.2.2.2.2.1]

theorem State.sourcesBeat_ramps (s : State) : s.sourcesBeat.nmx.ramps = s.nmx.ramps := by
  unfold State.sourcesBeat
  refine forEach_same (f := State.sourceTurn) (g := fun s : State => s.nmx.ramps) (fun i s => ?_) s
  cases h : s.goesStale (sourceAt i) with
  | true => rw [State.sourceTurn, State.sourceBeat_stale h, State.handStale_ramps]; rfl
  | false => rw [State.sourceTurn, State.sourceBeat_quiet h]; rfl

end Sys2Proof.Machine
end

section
/-! PROOF. The SLI's beat, the status interval and a source that becomes STALE (R68, R98, R112, R116, R170, R172). -/

namespace Sys2Proof.Machine

variable {s t u : State} {k j : SlotId} {c : Cue} {x : StreamId} {src : SourceId} {a : AxisId} {i : Fin 44}

/-! ### The axes -/

/-- The record of an axis once its setpoint source is STALE, its mode judged (R112, R116). -/
def State.staleAxis (s : State) (a : AxisId) : Axis :=
  Axis.enter (judgedMode s.mu.tables.env[a] (s.mgt.powerFault.getLsbD (axisZone a)) s.mgt.showStopped
    (s.axisOwner a).isNone false s.mgt.axes[a]) s.mgt.axes[a]

theorem State.aged_modeOf (h : s.goesStale (.setpoint a) = true) : (s.aged (.setpoint a)).modeOf a =
    judgedMode s.mu.tables.env[a] (s.mgt.powerFault.getLsbD (axisZone a)) s.mgt.showStopped
      (s.axisOwner a).isNone false s.mgt.axes[a] := by
  rw [State.modeOf_eq, State.aged_isFresh h]
  rfl

theorem State.handStale_mgt (h : ∀ a, src ≠ .setpoint a) (s : State) : (s.handStale src).mgt = s.mgt := by
  cases src with
  | light z => rw [State.handStale_light, State.onLco_mgt]
  | stream x => rw [State.handStale_stream]; simp
  | setpoint a => exact absurd rfl (h a)

theorem State.sourceBeat_axes (src : SourceId) (a : AxisId) (s : State) : (s.sourceBeat src).mgt.axes[a] =
    if src = .setpoint a ∧ s.goesStale src = true then s.staleAxis a else s.mgt.axes[a] := by
  cases h : s.goesStale src with
  | false => rw [State.sourceBeat_quiet h, if_neg (by simp)]; rfl
  | true =>
    rw [State.sourceBeat_stale h]
    by_cases axis : ∃ b, src = .setpoint b
    · obtain ⟨b, rfl⟩ := axis
      rw [State.handStale_setpoint,
        State.judgeAxis_axes, State.aged_modeOf h]
      by_cases e : a = b
      · rw [if_pos e, e, if_pos ⟨rfl, rfl⟩]
        rfl
      · rw [if_neg e, if_neg fun both => e (SourceId.setpoint.inj both.1).symm]
        rfl
    · rw [State.handStale_mgt (fun b e => axis ⟨b, e⟩), if_neg fun both => axis ⟨a, both.1⟩]
      rfl

/-- A turn changes of the MGT the records of axes at most. -/
theorem State.sourceBeat_mgt (src : SourceId) (s : State) :
    { (s.sourceBeat src).mgt with axes := s.mgt.axes } = s.mgt := by
  cases h : s.goesStale src with
  | false => rw [State.sourceBeat_quiet h]; rfl
  | true =>
    rw [State.sourceBeat_stale h]
    by_cases axis : ∃ b, src = .setpoint b
    · obtain ⟨b, rfl⟩ := axis
      rw [State.handStale_setpoint,
        State.judgeAxis_mgt]
      rfl
    · rw [State.handStale_mgt (fun b e => axis ⟨b, e⟩)]
      rfl

theorem State.staleAxis_congr (mu : t.mu = s.mu) (arb : t.arb = s.arb)
    (mgt : { t.mgt with axes := s.mgt.axes } = s.mgt) (axis : t.mgt.axes[a] = s.mgt.axes[a]) :
    t.staleAxis a = s.staleAxis a := by
  have power : t.mgt.powerFault = s.mgt.powerFault := (congrArg Mgt.powerFault mgt :)
  have stopped : t.mgt.showStopped = s.mgt.showStopped := (congrArg Mgt.showStopped mgt :)
  rw [State.staleAxis, State.staleAxis, State.axisOwner, State.axisOwner, mu, arb, power, stopped, axis]

theorem State.sourceTurn_axis_other (ne : i ≠ sourceIndex (.setpoint a)) (s : State) :
    (s.sourceTurn i).mgt.axes[a] = s.mgt.axes[a] := by
  rw [State.sourceTurn, State.sourceBeat_axes, if_neg fun both => sourceAt_ne ne both.1]

theorem State.sourcesBeat_axes (a : AxisId) (s : State) : s.sourcesBeat.mgt.axes[a] =
    if s.goesStale (.setpoint a) = true then s.staleAxis a else s.mgt.axes[a] := by
  unfold State.sourcesBeat
  refine forEach_at (f := State.sourceTurn) (i := sourceIndex (.setpoint a)) (view := fun s : State => s.mgt.axes[a])
    (g := fun s => if s.goesStale (.setpoint a) = true then s.staleAxis a else s.mgt.axes[a])
    (fun j s ne => ?_) (fun s => ?_) (fun j s ne => ?_) s
  · rw [State.sourceTurn_axis_other ne]
  · rw [State.sourceTurn_index, State.sourceBeat_axes]
    simp only [true_and]
  · have kept := State.sourceTurn_axis_other ne s
    obtain ⟨mu, -, -, arb, -⟩ := State.sourceBeat_frame s (sourceAt j)
    have stale : (s.sourceTurn j).staleAxis a = s.staleAxis a :=
      State.staleAxis_congr mu arb (State.sourceBeat_mgt (sourceAt j) s) kept
    simp only [kept, stale, State.sourceTurn_goesStale (Ne.symm ne)]

theorem State.sourcesBeat_mgt (s : State) : { s.sourcesBeat.mgt with axes := s.mgt.axes } = s.mgt := by
  unfold State.sourcesBeat
  exact forEach_same (f := State.sourceTurn) (g := fun t : State => { t.mgt with axes := s.mgt.axes })
    (fun i t => congrArg (fun x : Mgt => { x with axes := s.mgt.axes }) (State.sourceBeat_mgt (sourceAt i) t)) s

/-! ### The marks of the slots -/

theorem State.judgeAxis_grows (a : AxisId) (k : SlotId) (s : State) : State.Grows k s (s.judgeAxis a) := by
  unfold State.judgeAxis
  dsimp only
  split
  · next j _ =>
    split
    · by_cases e : k = j
      · subst e
        exact State.Grows.trans (t := s.onAxis a (Axis.enter (s.modeOf a))) (.of_slot rfl)
          (State.mark_grows .axisOffline _)
      · exact .of_slot (State.mark_slots_other _ e _)
    · exact .of_slot rfl
  · exact .of_slot rfl

theorem State.handStale_grows (src : SourceId) (k : SlotId) (s : State) : State.Grows k s (s.handStale src) := by
  cases src with
  | light z => exact .of_slot (by rw [State.handStale_light, State.onLco_seq])
  | stream x =>
    rw [State.handStale_stream]
    have slots := State.streamStale_slots (x := x) k s
    split at slots
    · exact fun p hp => ⟨_, State.play_of_onPlaying slots hp, rfl, fun i hi => by
        rw [BitVec.getLsbD_or, hi, Bool.true_or]⟩
    · exact .of_slot slots
  | setpoint a =>
    rw [State.handStale_setpoint]
    exact State.judgeAxis_grows a k s

theorem State.sourceTurn_grows (i : Fin 44) (k : SlotId) (s : State) : State.Grows k s (s.sourceTurn i) := by
  cases h : s.goesStale (sourceAt i) with
  | true =>
    rw [State.sourceTurn, State.sourceBeat_stale h]
    exact State.Grows.trans (t := s.aged (sourceAt i)) (.of_slot rfl) (State.handStale_grows _ k _)
  | false =>
    rw [State.sourceTurn, State.sourceBeat_quiet h]
    exact .of_slot rfl

/-- A slot plays and carries the mark CUE-LOST. -/
def State.lostMarked (k : SlotId) (s : State) : Prop := ∃ q, s.play k = some q ∧ q.marks.getLsbD 2 = true

/-- A slot plays with a LIVE cue on a stream that is about to become STALE. -/
def State.losing (k : SlotId) (x : StreamId) (s : State) : Prop :=
  (∃ p, s.play k = some p) ∧ (∃ c, s.nmx.cues[k] = some c ∧ losesOn x c = true) ∧ s.goesStale (.stream x) = true

theorem State.sourceTurn_losing (h : s.losing k x) : (s.sourceTurn (sourceIndex (.stream x))).lostMarked k := by
  obtain ⟨⟨p, hp⟩, ⟨c, hc, loses⟩, goes⟩ := h
  rw [State.sourceTurn_index, State.sourceBeat_stale goes,
    State.handStale_stream]
  have cue : (s.aged (.stream x)).nmx.cues[k] = some c := hc
  have slots := State.streamStale_slots (x := x) k (s.aged (.stream x))
  rw [cue, Option.any_some, if_pos loses] at slots
  exact ⟨_, State.play_of_onPlaying slots hp, by rw [BitVec.getLsbD_or]; exact Bool.or_true _⟩

theorem State.sourcesBeat_lost (h : s.losing k x) : s.sourcesBeat.lostMarked k := by
  unfold State.sourcesBeat
  refine foldl_through (f := fun (t : State) i => t.sourceTurn i) (P := State.losing k x) (Q := State.lostMarked k)
    (j := sourceIndex (.stream x)) ?_ (fun t => State.sourceTurn_losing) ?_ (List.nodup_finRange 44)
    (List.mem_finRange _) h
  · rintro i t ne ⟨⟨p, hp⟩, ⟨c, hc, loses⟩, goes⟩
    obtain ⟨q, hq, -⟩ := State.sourceTurn_grows i k t p hp
    have on := (losesOn_iff.mp loses).2
    exact ⟨⟨q, hq⟩, ⟨c, State.sourceTurn_cue_other hc (on ▸ ne), loses⟩,
      (State.sourceTurn_goesStale (Ne.symm ne)).trans goes⟩
  · rintro i t - ⟨q, hq, marked⟩
    obtain ⟨r, hr, -, grown⟩ := State.sourceTurn_grows i k t q hq
    exact ⟨r, hr, grown 2 marked⟩

/-! ### The status interval (R172) -/

theorem State.statusBeat_due (h : s.mu.tables.unit.statusInterval ≤ s.sli.statusCount + 1) :
    s.statusBeat = { s with sli := { s.sli with statusCount := 0 } }.askStatus := by
  rw [State.statusBeat, State.statusDue, decide_eq_true h]
  rfl

theorem State.statusBeat_early (h : ¬s.mu.tables.unit.statusInterval ≤ s.sli.statusCount + 1) :
    s.statusBeat = { s with sli := { s.sli with statusCount := s.sli.statusCount + 1 } } := by
  rw [State.statusBeat, State.statusDue, decide_eq_false h]
  rfl

theorem State.agedSource_eq (src : SourceId) (s : State) : s.agedSource src =
    { age := min ((s.sli.sources[sourceIndex src]).age + 1) 255
      fresh := (s.sli.sources[sourceIndex src]).fresh &&
        decide (min ((s.sli.sources[sourceIndex src]).age + 1) 255 < s.mu.tables.unit.staleLimit) } := by
  rw [State.agedSource, State.goesStale, nextAge]
  cases (s.sli.sources[sourceIndex src]).fresh with
  | false => rfl
  | true =>
    rw [Bool.true_and, Bool.true_and, Bool.true_and, ← decide_not]
    simp only [Nat.not_le]

theorem State.goesStale_of (fresh : (s.sli.sources[sourceIndex src]).fresh = true)
    (reached : s.mu.tables.unit.staleLimit ≤ min ((s.sli.sources[sourceIndex src]).age + 1) 255) :
    s.goesStale src = true := by
  rw [State.goesStale, fresh, nextAge, decide_eq_true reached]
  rfl

theorem State.exec_sourceStale (h : s.goesStale src = true) :
    exec (.sourceStale src) s = .next ((s.aged src).handStale src) := by
  rw [show exec (.sourceStale src) s = execSourceStale src s from rfl, execSourceStale, if_pos h,
    State.sourceBeat_stale h]

theorem State.handStale_isFresh (h : s.goesStale src = true) : ((s.aged src).handStale src).isFresh src = false := by
  rw [State.isFresh, (State.handStale_sources src (s.aged src)).1]
  exact State.aged_isFresh h

/-- What the sources' turns make of the state, the count of the status interval leaves. -/
theorem State.sliBeat_says (s : State) :
    (∀ i : Fin 44, s.sliBeat.sli.sources[i] = s.agedSource (sourceAt i)) ∧
    s.sliBeat.seq = s.sourcesBeat.seq ∧ s.sliBeat.lco = s.sourcesBeat.lco ∧ s.sliBeat.nmx = s.sourcesBeat.nmx ∧
    s.sliBeat.mgt = s.sourcesBeat.mgt := by
  rw [State.sliBeat_eq]
  obtain ⟨-, -, -, -, seq, lco, nmx, mgt, -⟩ := State.statusBeat_frame s.sourcesBeat
  refine ⟨fun i => ?_, seq, lco, nmx, mgt⟩
  rw [← State.sourcesBeat_sources]
  have kept : s.sourcesBeat.statusBeat.sli.sources = s.sourcesBeat.sli.sources := by
    unfold State.statusBeat
    split
    · exact (Sli.askStatus_extends _).standing.2.2
    · rfl
  rw [kept]

/-- The mode of an unowned axis whose setpoint is STALE (R116). -/
theorem judgedMode_stale {e : EnvRec} {fault stopped fresh : Bool} {x : Axis}
    (sending : (judgedMode e fault stopped true fresh x).isSending = true) :
    judgedMode e fault stopped true false x = if x.guarded then .guarded else .holding := by
  have held : judgedMode e fault stopped true false x = judgedMode e fault true true false x := by
    simp [judgedMode]
  rw [held, judgedMode_stopped rfl rfl rfl e fault stopped true true fresh false, if_pos sending]

/-- The setpoint's age is no matter to an owned axis (R112). -/
theorem judgedMode_owned (e : EnvRec) (fault stopped fresh fresh' : Bool) (x : Axis) :
    judgedMode e fault stopped false fresh x = judgedMode e fault stopped false fresh' x := by
  simp only [judgedMode, Bool.false_and]

theorem State.staleAxis_kept (a : AxisId) (s : State) : (s.staleAxis a).setpoint = (s.mgt.axes[a]).setpoint ∧
    (s.staleAxis a).pos = (s.mgt.axes[a]).pos := by
  rw [State.staleAxis, Axis.enter_eq]
  exact ⟨rfl, rfl⟩

theorem State.staleAxis_unowned (sending : (s.modeOf a).isSending = true) (unowned : s.axisOwner a = none) :
    (s.staleAxis a).step = (s.mgt.axes[a]).step ∧
    (s.staleAxis a).mode = if (s.mgt.axes[a]).guarded then .guarded else .holding := by
  rw [State.modeOf_eq, unowned] at sending
  rw [State.staleAxis, unowned, Option.isNone_none, judgedMode_stale sending, Axis.enter_eq]
  cases (s.mgt.axes[a]).guarded <;> exact ⟨rfl, rfl⟩

theorem State.staleAxis_owned (owned : (s.axisOwner a).isSome = true) : (s.staleAxis a).mode = s.modeOf a := by
  obtain ⟨k, hk⟩ := Option.isSome_iff_exists.mp owned
  rw [State.staleAxis, State.modeOf_eq, hk, Option.isNone_some, judgedMode_owned _ _ _ false (s.isFresh (.setpoint a)),
    Axis.enter_eq]

/-- A STALE setpoint's axis is in the mode that R112 gives it. -/
theorem State.staleAxis_mode (axis : t.mgt.axes[a] = s.staleAxis a)
    (mgt : { t.mgt with axes := s.mgt.axes } = s.mgt) (mu : t.mu = s.mu) (arb : t.arb = s.arb)
    (fresh : t.isFresh (.setpoint a) = false) : (t.mgt.axes[a]).mode = t.modeOf a := by
  have power : t.mgt.powerFault = s.mgt.powerFault := (congrArg Mgt.powerFault mgt :)
  have stopped : t.mgt.showStopped = s.mgt.showStopped := (congrArg Mgt.showStopped mgt :)
  have owner : t.axisOwner a = s.axisOwner a := by rw [State.axisOwner, arb]; rfl
  rw [State.modeOf_eq, fresh, mu, power, stopped, owner, axis, State.staleAxis, judgedMode_enter, Axis.enter_eq]

theorem State.sourcesBeat_mu (s : State) : s.sourcesBeat.mu = s.mu := by
  unfold State.sourcesBeat
  exact forEach_same (f := State.sourceTurn) (g := State.mu) State.sourceTurn_mu s

/-- What the beat makes of the status interval, and that it changes nothing else where no source becomes STALE. -/
theorem State.sliBeat_status (s : State) :
    (s.mu.tables.unit.statusInterval ≤ s.sli.statusCount + 1 →
      s.sliBeat.sli.statusCount = 0 ∧ s.sliBeat.sli.asked) ∧
    (¬s.mu.tables.unit.statusInterval ≤ s.sli.statusCount + 1 →
      s.sliBeat.sli.statusCount = s.sli.statusCount + 1) := by
  rw [State.sliBeat_eq, ← State.sourcesBeat_mu, ← State.sourcesBeat_statusCount]
  generalize s.sourcesBeat = u
  refine ⟨fun due => ?_, fun early => ?_⟩
  · rw [State.statusBeat_due due]
    exact ⟨(congrArg Sli.statusCount (Sli.askStatus_extends { u.sli with statusCount := 0 }).rest :),
      Sli.askStatus_asked { u.sli with statusCount := 0 }⟩
  · rw [State.statusBeat_early early]

theorem State.sliBeat_sources (s : State) : s.sliBeat.sli.sources = s.sourcesBeat.sli.sources := by
  rw [State.sliBeat_eq, State.statusBeat]
  split
  · exact (Sli.askStatus_extends _).standing.2.2
  · rfl

/-- States that differ in the sources alone. -/
theorem State.eq_of_besideSources (h : u.besideSources = s.besideSources) :
    u = { s with sli := { s.sli with sources := u.sli.sources } } :=
  congrArg (fun t : State => { t with sli := { t.sli with sources := u.sli.sources } }) h

/-- Where no source becomes STALE, the beat changes the sources and the status interval alone. -/
theorem State.sliBeat_quiet (quiet : ∀ src, s.goesStale src = false) :
    let u : State := { s with sli := { s.sli with
      sources := s.sliBeat.sli.sources, statusCount := s.sliBeat.sli.statusCount } }
    (s.mu.tables.unit.statusInterval ≤ s.sli.statusCount + 1 → s.sliBeat = u.askStatus) ∧
    (¬s.mu.tables.unit.statusInterval ≤ s.sli.statusCount + 1 → s.sliBeat = u) := by
  have rest := State.eq_of_besideSources (State.sourcesBeat_quiet fun i => quiet (sourceAt i))
  obtain ⟨counted, grown⟩ := State.sliBeat_status s
  dsimp only
  refine ⟨fun due => ?_, fun early => ?_⟩
  · rw [(counted due).1, State.sliBeat_sources, State.sliBeat_eq]
    generalize s.sourcesBeat = u at rest
    rw [State.statusBeat_due (by rw [rest]; exact due)]
    exact congrArg (fun t : State => { t with sli := { t.sli with statusCount := 0 } }.askStatus) rest
  · rw [grown early, State.sliBeat_sources, State.sliBeat_eq]
    generalize s.sourcesBeat = u at rest
    have count : u.sli.statusCount = s.sli.statusCount := by rw [rest]
    rw [State.statusBeat_early (by rw [rest]; exact early), count]
    exact congrArg (fun t : State => { t with sli := { t.sli with statusCount := s.sli.statusCount + 1 } }) rest

theorem State.eq_of_besideLost (h : t.besideLost = u.besideLost) :
    { t with nmx := u.nmx, lco := u.lco, sli := u.sli, seq := u.seq } = u :=
  congrArg (fun t : State => { t with nmx := u.nmx, lco := u.lco, sli := u.sli, seq := u.seq }) h

/-- A lost cue, by itself: its record, the LCO's mark, its slot's mark and, where no other cue is lost, its report. -/
theorem State.streamStale_lost (x : StreamId) (s : State) (hc : s.nmx.cues[j] = some c) (loses : losesOn x c = true) :
    (s.streamStale x).nmx.cues[j] = some { c with state := .lost } ∧ (s.streamStale x).lco.cueLive.getLsbD j = false ∧
    (∀ p, s.play j = some p → (s.streamStale x).play j = some { p with marks := p.marks ||| 4 }) ∧
    ((∀ i : SlotId, i ≠ j → (s.nmx.cues[i]).any (losesOn x) = false) →
      (s.streamStale x).sli = s.sli.join (.cueCancel (cueInfo j c) .lost)) := by
  have meets : (s.nmx.cues[j]).any (losesOn x) = true := by rw [hc, Option.any_some, loses]
  refine ⟨?_, ?_, fun p hp => ?_, fun only => ?_⟩
  · rw [State.streamStale_cues, hc, Option.map_some, cueTurned, if_pos loses]
  · rw [State.streamStale_live, if_pos meets]
  · exact State.play_of_onPlaying ((State.streamStale_slots j s).trans (if_pos meets)) hp
  · rw [State.streamStale_one only, State.loseCue_some hc loses, (State.mark_frame _ j .cueLost).1]
    rfl

theorem State.streamStale_kept (x : StreamId) (s : State) (skip : (s.nmx.cues[j]).any (losesOn x) = false) :
    (s.streamStale x).nmx.cues[j] = s.nmx.cues[j] ∧ (s.streamStale x).play j = s.play j ∧
    (s.streamStale x).lco.cueLive.getLsbD j = s.lco.cueLive.getLsbD j := by
  refine ⟨?_, State.play_of_slot ?_, ?_⟩
  · rw [State.streamStale_cues, map_cueTurned_skip skip]
  · rw [State.streamStale_slots, skip]
    rfl
  · rw [State.streamStale_live, skip]
    rfl

/-- Settles O24: the beat is every source's share and the status interval, and the rows are one source's share. -/
theorem statusIntervalAndStaleSource : Obligations.StatusIntervalAndStaleSource := by
  unfold Obligations.StatusIntervalAndStaleSource
  refine ⟨fun b s => ?_, fun s => ⟨fun due => ?_, fun z fresh reached => ?_, fun x fresh reached => ?_,
    fun a fresh reached => ?_⟩⟩
  · rw [show s.blockBeat b .sli = s.sliBeat from rfl]
    obtain ⟨sources, seq, lco, nmx, mgt⟩ := State.sliBeat_says s
    obtain ⟨mu, sck, iou, arb, ports, -⟩ := State.sliBeat_frame s
    obtain ⟨counted, grown⟩ := State.sliBeat_status s
    have still := State.sliBeat_quiet (s := s)
    have flags := State.sliBeat_flags s
    have bare := State.sliBeat_bare s
    generalize s.sliBeat = t at *
    intro t' next ends due
    have aged (i : Fin 44) : s.agedSource (sourceAt i) = next i := by
      obtain ⟨src, rfl⟩ : ∃ src, sourceIndex src = i := ⟨_, sourceIndex_sourceAt i⟩
      rw [sourceAt_sourceIndex, State.agedSource_eq]
    have ending (src : SourceId) : ends src = s.goesStale src := by
      have out : ends src = ((s.sli.sources[sourceIndex src]).fresh && !(next (sourceIndex src)).fresh) := rfl
      rw [out, ← aged, sourceAt_sourceIndex, State.agedSource, State.goesStale]
      cases (s.sli.sources[sourceIndex src]).fresh <;> simp
    refine ⟨fun i => (sources i).trans (aged i), counted, grown,
      fun quiet => still fun src => (ending src).symm.trans (quiet src), fun c => ?_,
      fun k => ?_, fun a => ⟨fun goes => ?_, fun stays => ?_⟩, fun k p hp => ?_, flags, ?_, mu, arb, iou, sck, ports⟩
    · rw [ending, lco, State.sourcesBeat_channels]
    · simp only [ending]
      rw [nmx, State.sourcesBeat_cues]
      rfl
    · rw [ending] at goes
      have axis : t.mgt.axes[a] = s.staleAxis a := by rw [mgt, State.sourcesBeat_axes, if_pos goes]
      obtain ⟨setpoint, pos⟩ := State.staleAxis_kept a s
      have stale : t.isFresh (.setpoint a) = false := by
        rw [State.isFresh, sources, sourceAt_sourceIndex, State.agedSource, goes]
        exact Bool.and_false _
      exact ⟨State.staleAxis_mode axis (by rw [mgt]; exact State.sourcesBeat_mgt s) mu arb stale,
        by rw [axis, setpoint], by rw [axis, pos]⟩
    · rw [ending] at stays
      rw [mgt, State.sourcesBeat_axes, stays]
      rfl
    · obtain ⟨q, hq, same⟩ := State.play_bare_congr (congrFun bare k) hp
      refine ⟨q, hq, same, fun c hc live goes => ?_⟩
      rw [ending] at goes
      obtain ⟨r, hr, marked⟩ :=
        State.sourcesBeat_lost ⟨⟨p, hp⟩, ⟨c, hc, losesOn_iff.mpr ⟨live, rfl⟩⟩, goes⟩
      have slot : t.play k = some r := (State.play_of_slot (by rw [seq])).trans hr
      rwa [Option.some.inj (hq.symm.trans slot)]
    · rw [nmx, State.sourcesBeat_ramps]
  · rw [show exec .statusInterval s = execStatusInterval s from rfl, execStatusInterval, State.statusDue,
      decide_eq_true due, if_pos rfl, State.statusBeat_due due]
  · have goes := State.goesStale_of fresh reached
    refine ⟨_, State.exec_sourceStale goes, State.handStale_isFresh goes, fun c => ?_, ?_, ?_⟩
    all_goals rw [State.handStale_light]
    · exact Lco.markStale_channels z s.lco c
    · exact Lco.markStale_masters z s.lco
    · rfl
  · have goes := State.goesStale_of fresh reached
    intro lost
    have loses (j : SlotId) : (s.nmx.cues[j]).any (losesOn x) = true ↔ lost j := by
      simp only [Option.any_eq_true, losesOn_iff]
      rfl
    have kept (j : SlotId) (h : ¬lost j) : (s.nmx.cues[j]).any (losesOn x) = false :=
      Bool.eq_false_of_not_eq_true (mt (loses j).mp h)
    have isFresh := State.handStale_isFresh goes
    have run := State.exec_sourceStale goes
    have gone (j : SlotId) (c : Cue) := State.streamStale_lost (j := j) (c := c) x (s.aged (.stream x))
    have stays (j : SlotId) := State.streamStale_kept (j := j) x (s.aged (.stream x))
    have nobody := State.streamStale_none (x := x) (s := s.aged (.stream x))
    obtain ⟨channels, ramps⟩ := State.streamStale_beside x (s.aged (.stream x))
    have flags := State.streamStale_flags (s.aged (.stream x)) x
    have rest := State.eq_of_besideLost (State.streamStale_rest (x := x) (s.aged (.stream x)))
    rw [State.handStale_stream] at isFresh run
    generalize (s.aged (.stream x)).streamStale x = t at *
    refine ⟨t, run, isFresh, fun j c hc live on => ?_, fun j none => stays j (kept j none), fun none => ?_,
      channels, ramps, flags, congrArg (fun t : State => { t with sli := s.sli }) rest⟩
    · obtain ⟨cue, told, marked, reported⟩ := gone j c hc (losesOn_iff.mpr ⟨live, on⟩)
      refine ⟨cue, told, marked, fun only => ?_⟩
      rw [reported fun i ne => kept i (only i ne)]
      exact ⟨fun room => congrArg Sli.ownQueue (Sli.join_room (x := (s.aged (.stream x)).sli) _ room),
        fun full => Sli.join_full_queue _ full⟩
    · rw [nobody fun j => kept j (none j)]
      rfl
  · have goes := State.goesStale_of fresh reached
    have run : (s.aged (.setpoint a)).handStale (.setpoint a) = (s.aged (.setpoint a)).judgeAxis a := rfl
    have axes (b : AxisId) : ((s.aged (.setpoint a)).judgeAxis a).mgt.axes[b] =
        if b = a then s.staleAxis a else s.mgt.axes[b] := by
      rw [State.judgeAxis_axes, State.aged_modeOf goes]
      rfl
    have isFresh := State.handStale_isFresh goes
    rw [run] at isFresh
    obtain ⟨setpoint, pos⟩ := State.staleAxis_kept a s
    refine ⟨_, (State.exec_sourceStale goes).trans (congrArg _ run), isFresh, ?_⟩
    rw [axes, if_pos rfl]
    refine ⟨setpoint, pos, State.staleAxis_unowned, State.staleAxis_owned, fun b ne => ?_, ?_, ?_, ?_⟩
    · rw [axes, if_neg ne]
    · rw [(State.judgeAxis_frame _ a).1]
      rfl
    · rw [State.judgeAxis_flags]
      rfl
    · exact congrArg (fun t : State => { t with sli := s.sli }) (State.judgeAxis_rest a (s.aged (.setpoint a)))

end Sys2Proof.Machine
end

section
/-! SUPPORT. The bytes of an announcement, read back (R133, Section 11.4). -/

namespace Sys2Proof.Machine

variable {pre post : List Byte} {n : Nat} {p : Int}

/-! ### Reading within a list of bytes -/

theorem byteAt_append (pre post : List Byte) (i : Nat) : byteAt (pre ++ post) (pre.length + i) = byteAt post i := by
  rw [byteAt, byteAt, List.getD_append_right _ _ _ _ (by omega), Nat.add_sub_cancel_left]

theorem u16_append (pre post : List Byte) (i : Nat) : u16 (pre ++ post) (pre.length + i) = u16 post i := by
  simp only [u16, u8, Nat.add_assoc, byteAt_append]

theorem i16_append (pre post : List Byte) (i : Nat) : i16 (pre ++ post) (pre.length + i) = i16 post i := by
  rw [i16, i16, u16_append]

/-- The two bytes of a number give it back. -/
theorem two_bytes (h : n < 65536) : (BitVec.ofNat 8 n).toNat + 256 * (BitVec.ofNat 8 (n / 256)).toNat = n := by
  rw [BitVec.toNat_ofNat, BitVec.toNat_ofNat]
  omega

theorem u16_put16 (h : n < 65536) (post : List Byte) : u16 (put16 n ++ post) 0 = n := two_bytes h

/-- The two bytes of a position give it back. -/
theorem i16_putI16 (low : -32768 ≤ p) (high : p ≤ 32767) (post : List Byte) : i16 (putI16 p ++ post) 0 = p := by
  rw [i16, putI16, u16_put16 (BitVec.isLt _), BitVec.ofNat_toNat, BitVec.setWidth_eq, BitVec.toInt_ofInt]
  exact Int.bmod_eq_of_le (by omega) (by omega)

theorem putI16_length (p : Int) : (putI16 p).length = 2 := rfl

/-- Positions written one after another are read back in order. -/
theorem samplesAt_putI16 (post : List Byte) : ∀ (ps : List Int) (pre : List Byte),
    (∀ p ∈ ps, -32768 ≤ p ∧ p ≤ 32767) →
    samplesAt (pre ++ (ps.flatMap putI16 ++ post)) pre.length 2 ps.length = ps := by
  intro ps
  induction ps with
  | nil => exact fun _ _ => rfl
  | cons p ps ih =>
    intro pre range
    obtain ⟨low, high⟩ := range p List.mem_cons_self
    have rest := ih (pre ++ putI16 p) fun x hx => range x (List.mem_cons_of_mem _ hx)
    have head := i16_append pre (putI16 p ++ (ps.flatMap putI16 ++ post)) 0
    rw [Nat.add_zero, i16_putI16 low high] at head
    rw [List.append_assoc, List.length_append, putI16_length] at rest
    rw [List.flatMap_cons, List.append_assoc, List.length_cons, samplesAt, head, rest]

theorem put16_length (n : Nat) : (put16 n).length = 2 := rfl

/-- A message with its check passes it. -/
theorem checkOk_withCheck {type : Nat} {bs : List Byte} (long : 1 ≤ bs.length) (kind : u8 bs 0 = type) :
    checkOk type (withCheck bs) = true := by
  obtain ⟨b, rest, rfl⟩ := List.exists_cons_of_length_pos long
  have length : (withCheck (b :: rest)).length - 2 = (b :: rest).length := by simp [withCheck, put16_length]
  have check : u16 (withCheck (b :: rest)) (b :: rest).length = (crc16 (b :: rest)).toNat := by
    have read := u16_append (b :: rest) (put16 (crc16 (b :: rest)).toNat) 0
    rw [withCheck, ← Nat.add_zero (b :: rest).length, read, ← List.append_nil (put16 _)]
    exact u16_put16 (BitVec.isLt _) []
  have taken : (withCheck (b :: rest)).take (b :: rest).length = b :: rest := by simp [withCheck]
  have enough : 3 ≤ (withCheck (b :: rest)).length := by simp [withCheck, put16_length]
  have first : u8 (withCheck (b :: rest)) 0 = type := kind
  rw [checkOk, length, check, taken, first, decide_eq_true enough]
  simp

/-! ### An announcement -/

/-- The fixed part of an announcement (Section 11.4). -/
def announceHead (q : PosId) (a : Announce) : List Byte :=
  put8 3 ++ put8 (q.val + 1) ++ put32 a.serial ++ put16 a.maker ++ put16 a.model ++ put16 a.revision ++ put8 a.cls ++
    put8 a.start ++ put8 a.count ++ put8 a.positions.length

/-- An announcement as it stands on the bus. -/
def announceBytes (q : PosId) (a : Announce) : List Byte :=
  withCheck (announceHead q a ++ a.positions.flatMap putI16)

/-- The fields of an announcement lie in their ranges. -/
structure Announce.InRange (a : Announce) : Prop where
  serial : a.serial < 2 ^ 32
  maker : a.maker < 65536
  model : a.model < 65536
  revision : a.revision < 65536
  cls : a.cls < 256
  start : a.start < 256
  count : a.count < 256
  length : a.positions.length < 256
  positions : ∀ p ∈ a.positions, -32768 ≤ p ∧ p ≤ 32767

theorem announceHead_length (q : PosId) (a : Announce) : (announceHead q a).length = 16 := rfl

/-- The fields of the fixed part, read at their places. -/
theorem announceHead_fields {q : PosId} {a : Announce} (h : a.InRange) (post : List Byte) :
    u8 (announceHead q a ++ post) 1 = q.val + 1 ∧
    u32 (announceHead q a ++ post) 2 = a.serial ∧ u16 (announceHead q a ++ post) 6 = a.maker ∧
    u16 (announceHead q a ++ post) 8 = a.model ∧ u16 (announceHead q a ++ post) 10 = a.revision ∧
    u8 (announceHead q a ++ post) 12 = a.cls ∧ u8 (announceHead q a ++ post) 13 = a.start ∧
    u8 (announceHead q a ++ post) 14 = a.count ∧ u8 (announceHead q a ++ post) 15 = a.positions.length := by
  obtain ⟨serial, maker, model, revision, cls, start, count, length, -⟩ := h
  have position := q.isLt
  simp only [announceHead, put8, put16, put32, putN, List.cons_append, List.nil_append, u32, u16, u8, byteAt,
    List.getD_cons_succ, List.getD_cons_zero]
  rw [two_bytes maker, two_bytes model, two_bytes revision, toNat_byte cls, toNat_byte start, toNat_byte count,
    toNat_byte length, toNat_byte (by omega), two_bytes (n := a.serial / 256 / 256) (by omega), BitVec.toNat_ofNat,
    BitVec.toNat_ofNat]
  refine ⟨rfl, ?_, rfl, rfl, rfl, rfl, rfl, rfl, rfl⟩
  omega

theorem parseAnnouncement_bytes {q : PosId} {a : Announce} (h : a.InRange) :
    parseAnnouncement (announceBytes q a) = some (q, a) := by
  have split : announceBytes q a = announceHead q a ++ (a.positions.flatMap putI16 ++
      put16 (crc16 (announceHead q a ++ a.positions.flatMap putI16)).toNat) := List.append_assoc ..
  have ok : checkOk 3 (announceBytes q a) = true := checkOk_withCheck (by
    rw [List.length_append, announceHead_length]
    omega) rfl
  have length : (announceBytes q a).length = 16 + 2 * a.positions.length + 2 := by
    rw [split, List.length_append, List.length_append, announceHead_length, put16_length, List.length_flatMap]
    simp [putI16_length]
    omega
  have positions := samplesAt_putI16 (put16 (crc16 (announceHead q a ++ a.positions.flatMap putI16)).toNat) a.positions
    (announceHead q a) h.positions
  obtain ⟨position, serial, maker, model, revision, cls, start, count, number⟩ := announceHead_fields (q := q) h
    (a.positions.flatMap putI16 ++ put16 (crc16 (announceHead q a ++ a.positions.flatMap putI16)).toNat)
  rw [← split] at position serial maker model revision cls start count number positions
  have inside : 1 ≤ u8 (announceBytes q a) 1 ∧ u8 (announceBytes q a) 1 ≤ 12 := by omega
  have place : (⟨u8 (announceBytes q a) 1 - 1, by omega⟩ : PosId) = q := Fin.ext (by simp [position])
  rw [parseAnnouncement, dif_pos inside, if_pos ⟨ok, by rw [number, length]⟩, place, serial, maker, model, revision,
    cls, start, count, number]
  exact congrArg (fun ps => some (q, { a with positions := ps })) positions

theorem exec_announcement {q : PosId} {a : Announce} (h : a.InRange) (z : ZoneId) (s : State) :
    exec (.announcement z (announceBytes q a)) s = .next (s.announce z q a) := by
  rw [show exec (.announcement z (announceBytes q a)) s = execAnnouncement z (announceBytes q a) s from rfl,
    execAnnouncement, parseAnnouncement_bytes h]

end Sys2Proof.Machine
end

section
/-! SUPPORT. What a census event hands on: presence, the level notices and the change flag (R86, R105, R114, R142 to
R144). -/

namespace Sys2Proof.Machine

variable {s t u : State} {z : ZoneId} {old new : Port} {ann : Option Announce} {a : AxisId} {k : SlotId}

/-! ### Places of a zone's axes, channels and outputs -/

theorem axisZone_globalAxis (z : ZoneId) (i : Fin 8) : axisZone (globalAxis z i) = z := by
  apply Fin.ext
  simp only [axisZone, globalAxis]
  omega

theorem globalAxis_inj {i j : Fin 8} (h : globalAxis z i = globalAxis z j) : i = j := by
  have e := congrArg Fin.val h
  simp only [globalAxis] at e
  omega

theorem globalChannel_inj {i j : Fin 192} (h : globalChannel z i = globalChannel z j) : i = j := by
  have e := congrArg Fin.val h
  simp only [globalChannel] at e
  omega

theorem globalOutput_inj {i j : Fin 2} (h : globalOutput z i = globalOutput z j) : i = j := by
  have e := congrArg Fin.val h
  simp only [globalOutput] at e
  omega

/-! ### The light channels (R86) -/

/-- A presence after a hand-over: as it was where the zone's presence did not change. -/
def handedPresence (old new was : Bool) : Bool := if old = new then was else new

theorem State.handChannel_channels (i : Fin 192) (c : ChannelId) (s : State) :
    (s.handChannel z old new i).lco.channels[c] = { s.lco.channels[c] with
      present := if c = globalChannel z i then
          handedPresence (old.isPresent .light i) (new.isPresent .light i) (s.lco.channels[c]).present
        else (s.lco.channels[c]).present } := by
  unfold State.handChannel handedPresence
  by_cases same : old.isPresent .light i = new.isPresent .light i
  · rw [if_pos same, if_pos same, ite_self]
  · rw [if_neg same, if_neg same, State.onLco_lco]
    by_cases e : c = globalChannel z i
    · subst e
      rw [modifyAt_same, if_pos rfl]
    · rw [modifyAt_other _ e, if_neg e]

/-- The zone's channels are handed their presence. Irreducible, so that no check of definitional equality runs the 192
turns. -/
@[irreducible] def State.handChannels (z : ZoneId) (old new : Port) (s : State) : State :=
  forEach 192 (State.handChannel z old new) s

theorem State.handChannels_present (i : Fin 192) (s : State) :
    ((s.handChannels z old new).lco.channels[globalChannel z i]).present =
      handedPresence (old.isPresent .light i) (new.isPresent .light i) (s.lco.channels[globalChannel z i]).present := by
  unfold State.handChannels
  have other (j : Fin 192) (s : State) (ne : j ≠ i) :
      ((s.handChannel z old new j).lco.channels[globalChannel z i]).present =
      (s.lco.channels[globalChannel z i]).present := by
    rw [State.handChannel_channels, if_neg fun e => ne (globalChannel_inj e).symm]
  refine forEach_at (f := State.handChannel z old new) (i := i)
    (view := fun s : State => (s.lco.channels[globalChannel z i]).present)
    (g := fun s => handedPresence (old.isPresent .light i) (new.isPresent .light i)
      (s.lco.channels[globalChannel z i]).present) (fun j s ne => other j s ne) (fun s => ?_) (fun j s ne => ?_) s
  · rw [State.handChannel_channels, if_pos rfl]
  · simp only [other j s ne]

theorem State.handChannels_channels (c : ChannelId) (s : State) :
    (s.handChannels z old new).lco.channels[c] = { s.lco.channels[c] with
      present := ((s.handChannels z old new).lco.channels[c]).present } := by
  have rest := forEach_same (f := State.handChannel z old new)
    (g := fun s : State => { s.lco.channels[c] with present := false })
    (fun i s => by rw [State.handChannel_channels]) s
  unfold State.handChannels
  generalize forEach 192 (State.handChannel z old new) s = t at rest
  exact congrArg (fun x : Channel => { x with present := (t.lco.channels[c]).present }) rest

theorem State.handChannels_other {c : ChannelId} (h : channelZone c ≠ z) (s : State) :
    (s.handChannels z old new).lco.channels[c] = s.lco.channels[c] := by
  unfold State.handChannels
  refine forEach_same (f := State.handChannel z old new) (g := fun s : State => s.lco.channels[c]) (fun i s => ?_) s
  rw [State.handChannel_channels, if_neg fun e => h (by rw [e, channelZone_globalChannel])]

theorem State.handChannels_rest (s : State) : { s.handChannels z old new with lco := s.lco } = s := by
  unfold State.handChannels
  refine forEach_same (f := State.handChannel z old new) (g := fun t : State => { t with lco := s.lco })
    (fun i t => ?_) s
  unfold State.handChannel
  split <;> rfl

theorem State.handChannels_same (h : ∀ i : Fin 192, old.isPresent .light i = new.isPresent .light i) :
    s.handChannels z old new = s := by
  unfold State.handChannels
  refine forEach_inv (f := State.handChannel z old new) (P := fun t => t = s) (fun i t e => ?_) s rfl
  rw [State.handChannel, if_pos (h i), e]

/-! ### The outputs (R105) -/

theorem State.handOutput_present (i j : Fin 2) (s : State) :
    (s.handOutput z old new i).nmx.present.getLsbD (globalOutput z j) = if j = i then
        handedPresence (old.isPresent .sound i) (new.isPresent .sound i) (s.nmx.present.getLsbD (globalOutput z j))
      else s.nmx.present.getLsbD (globalOutput z j) := by
  unfold State.handOutput handedPresence
  by_cases same : old.isPresent .sound i = new.isPresent .sound i
  · rw [if_pos same, if_pos same, ite_self]
  · rw [if_neg same, if_neg same, State.onNmx_nmx]
    by_cases e : j = i
    · subst e
      rw [if_pos rfl]
      cases new.isPresent .sound j with
      | true => rw [if_pos rfl, withMember_member, decide_eq_true rfl, Bool.or_true]
      | false => exact withoutMember_same ..
    · have ne : globalOutput z j ≠ globalOutput z i := fun h => e (globalOutput_inj h)
      rw [if_neg e]
      cases new.isPresent .sound i with
      | true => rw [if_pos rfl, withMember_member, decide_eq_false ne, Bool.or_false]
      | false => exact withoutMember_other _ ne

/-- The zone's outputs are handed their presence. -/
@[irreducible] def State.handOutputs (z : ZoneId) (old new : Port) (s : State) : State :=
  forEach 2 (State.handOutput z old new) s

theorem State.handOutputs_present (i : Fin 2) (s : State) :
    (s.handOutputs z old new).nmx.present.getLsbD (globalOutput z i) =
      handedPresence (old.isPresent .sound i) (new.isPresent .sound i) (s.nmx.present.getLsbD (globalOutput z i)) := by
  unfold State.handOutputs
  refine forEach_at (f := State.handOutput z old new) (i := i)
    (view := fun s : State => s.nmx.present.getLsbD (globalOutput z i))
    (g := fun s => handedPresence (old.isPresent .sound i) (new.isPresent .sound i)
      (s.nmx.present.getLsbD (globalOutput z i))) (fun j s ne => ?_) (fun s => ?_) (fun j s ne => ?_) s
  · rw [State.handOutput_present, if_neg (Ne.symm ne)]
  · rw [State.handOutput_present, if_pos rfl]
  · simp only [State.handOutput_present, if_neg (Ne.symm ne)]

theorem State.handOutputs_rest (s : State) : { s.handOutputs z old new with nmx := s.nmx } = s := by
  unfold State.handOutputs
  refine forEach_same (f := State.handOutput z old new) (g := fun t : State => { t with nmx := s.nmx })
    (fun i t => ?_) s
  unfold State.handOutput
  split <;> rfl

theorem State.handOutputs_same (h : ∀ i : Fin 2, old.isPresent .sound i = new.isPresent .sound i) :
    s.handOutputs z old new = s := by
  unfold State.handOutputs
  refine forEach_inv (f := State.handOutput z old new) (P := fun t => t = s) (fun i t e => ?_) s rfl
  rw [State.handOutput, if_pos (h i), e]

/-! ### The axes (R112 to R114) -/

/-- The record of an axis after it was changed and its mode judged. -/
def State.entered (s : State) (a : AxisId) (x : Axis) : Axis := Axis.enter (s.modeFor a x) x

theorem State.onAxis_judged (a b : AxisId) (f : Axis → Axis) (s : State) :
    ((s.onAxis a f).judgeAxis a).mgt.axes[b] = if b = a then s.entered a (f s.mgt.axes[a]) else s.mgt.axes[b] := by
  have inputs : SameInputs s (s.onAxis a f) := ⟨rfl, rfl, rfl, rfl, rfl⟩
  rw [State.judgeAxis_axes, inputs.modeFor, State.onAxis_axes, State.onAxis_axes, if_pos rfl]
  split <;> rfl

theorem State.onAxis_judged_inputs (a : AxisId) (f : Axis → Axis) (s : State) :
    SameInputs s ((s.onAxis a f).judgeAxis a) :=
  ⟨by simp, by simp, by simp, by simp [State.onAxis], by simp [State.onAxis]⟩

/-- The position that an announcement gives an axis of the zone. -/
def announcedPos (ann : Option Announce) (i : Fin 8) : Option Int :=
  match ann with
  | some a => if a.cls = classByte .motion ∧ a.spans i then a.positions[i.val - a.start]? else none
  | none => none

/-- How an axis is handed a census event: `none` where it is left alone. -/
def axisHanded (old new : Bool) (announced : Option Int) (x : Axis) : Option Axis :=
  match old, new with
  | true, false => some { x with present := false }
  | false, true => some { x with present := true, pos := announced.getD x.pos, step := 0 }
  | true, true => if x.mode.isSending then none else announced.map fun p => { x with pos := p }
  | false, false => none

theorem State.onAxis_const (a : AxisId) (f : Axis → Axis) (s : State) :
    s.onAxis a f = s.onAxis a fun _ => f s.mgt.axes[a] :=
  congrArg (fun v => s.onMgt fun x => { x with axes := v }) (modifyAt_congr rfl)

/-- What one axis of the zone is handed is a record, on which its mode is judged, or nothing. -/
theorem State.handAxis_eq (i : Fin 8) (s : State) : s.handAxis z old new ann i =
    match axisHanded (old.isPresent .motion i) (new.isPresent .motion i) (announcedPos ann i)
      s.mgt.axes[globalAxis z i] with
    | some x => (s.onAxis (globalAxis z i) fun _ => x).judgeAxis (globalAxis z i)
    | none => s := by
  have run : s.handAxis z old new ann i = match old.isPresent .motion i, new.isPresent .motion i with
      | true, false => s.axisAbsent (globalAxis z i)
      | false, true => s.axisPresent (globalAxis z i) ((announcedPos ann i).getD (s.mgt.axes[globalAxis z i]).pos)
      | true, true =>
        match announcedPos ann i with
        | some p => s.axisAnnounced (globalAxis z i) p
        | none => s
      | false, false => s := rfl
  rw [run]
  cases old.isPresent .motion i <;> cases new.isPresent .motion i
  case false.false => rfl
  case true.false => exact congrArg (State.judgeAxis _) (State.onAxis_const ..)
  case false.true => exact congrArg (State.judgeAxis _) (State.onAxis_const ..)
  case true.true =>
    rw [axisHanded]
    cases announcedPos ann i with
    | none => rw [Option.map_none, ite_self]
    | some p =>
      dsimp only
      rw [State.axisAnnounced]
      split
      · rfl
      · exact congrArg (State.judgeAxis _) (State.onAxis_const ..)

/-- The record of an axis after a hand-over. -/
def State.handedAxis (s : State) (a : AxisId) (was now : Bool) (announced : Option Int) : Axis :=
  match axisHanded was now announced s.mgt.axes[a] with
  | some x => s.entered a x
  | none => s.mgt.axes[a]

theorem State.handAxis_axes (i : Fin 8) (a : AxisId) (s : State) : (s.handAxis z old new ann i).mgt.axes[a] =
    if a = globalAxis z i then
      s.handedAxis (globalAxis z i) (old.isPresent .motion i) (new.isPresent .motion i) (announcedPos ann i)
    else s.mgt.axes[a] := by
  rw [State.handAxis_eq, State.handedAxis]
  cases axisHanded (old.isPresent .motion i) (new.isPresent .motion i) (announcedPos ann i)
      s.mgt.axes[globalAxis z i] with
  | some x => exact State.onAxis_judged ..
  | none =>
    dsimp only
    split
    · next e => rw [e]
    · rfl

theorem State.handAxis_inputs (i : Fin 8) (s : State) : SameInputs s (s.handAxis z old new ann i) := by
  rw [State.handAxis_eq]
  split
  · exact State.onAxis_judged_inputs ..
  · exact ⟨rfl, rfl, rfl, rfl, rfl⟩

theorem State.handedAxis_congr {was now : Bool} {announced : Option Int} (h : SameInputs s t)
    (axis : t.mgt.axes[a] = s.mgt.axes[a]) : t.handedAxis a was now announced = s.handedAxis a was now announced := by
  simp only [State.handedAxis, State.entered, axis, State.modeFor_congr h]

/-- The zone's axes are handed their presence. -/
@[irreducible] def State.handAxes (z : ZoneId) (old new : Port) (ann : Option Announce) (s : State) : State :=
  forEach 8 (State.handAxis z old new ann) s

theorem State.handPresence_eq (s : State) : s.handPresence z old new ann =
    ((s.handChannels z old new).handOutputs z old new).handAxes z old new ann := by
  unfold State.handChannels State.handOutputs State.handAxes
  rfl

theorem State.handAxes_axes (i : Fin 8) (s : State) :
    (s.handAxes z old new ann).mgt.axes[globalAxis z i] =
      s.handedAxis (globalAxis z i) (old.isPresent .motion i) (new.isPresent .motion i) (announcedPos ann i) := by
  unfold State.handAxes
  have other (j : Fin 8) (s : State) (ne : j ≠ i) :
      (s.handAxis z old new ann j).mgt.axes[globalAxis z i] = s.mgt.axes[globalAxis z i] := by
    rw [State.handAxis_axes, if_neg fun e => ne (globalAxis_inj e).symm]
  refine forEach_at (f := State.handAxis z old new ann) (i := i) (view := fun s : State => s.mgt.axes[globalAxis z i])
    (g := fun s =>
      s.handedAxis (globalAxis z i) (old.isPresent .motion i) (new.isPresent .motion i) (announcedPos ann i))
    (fun j s ne => other j s ne) (fun s => ?_) (fun j s ne => ?_) s
  · rw [State.handAxis_axes, if_pos rfl]
  · exact State.handedAxis_congr (State.handAxis_inputs j s) (other j s ne)

theorem State.handAxes_other (h : axisZone a ≠ z) (s : State) :
    (s.handAxes z old new ann).mgt.axes[a] = s.mgt.axes[a] := by
  unfold State.handAxes
  refine forEach_same (f := State.handAxis z old new ann) (g := fun s : State => s.mgt.axes[a]) (fun i s => ?_) s
  rw [State.handAxis_axes, if_neg fun e => h (by rw [e, axisZone_globalAxis])]

theorem SameInputs.trans (h : SameInputs s t) (g : SameInputs t u) : SameInputs s u :=
  ⟨g.env.trans h.env, g.owners.trans h.owners, g.sources.trans h.sources, g.power.trans h.power,
    g.stopped.trans h.stopped⟩

theorem State.handAxes_inputs (s : State) : SameInputs s (s.handAxes z old new ann) := by
  unfold State.handAxes
  exact forEach_inv (f := State.handAxis z old new ann) (P := SameInputs s)
    (fun i _ h => h.trans (State.handAxis_inputs i _)) s ⟨rfl, rfl, rfl, rfl, rfl⟩

theorem State.handAxes_rest (s : State) : { s.handAxes z old new ann with mgt := s.mgt, seq := s.seq } = s := by
  unfold State.handAxes
  refine forEach_same (f := State.handAxis z old new ann) (g := fun t : State => { t with mgt := s.mgt, seq := s.seq })
    (fun i t => ?_) s
  rw [State.handAxis_eq]
  split
  · exact congrArg (fun t : State => { t with mgt := s.mgt, seq := s.seq })
      (State.judgeAxis_rest (globalAxis z i) (t.onAxis (globalAxis z i) _))
  · rfl

/-! ### The mark of an owner whose axis goes OFFLINE (R114) -/

theorem State.handAxis_grows (i : Fin 8) (k : SlotId) (s : State) : State.Grows k s (s.handAxis z old new ann i) := by
  rw [State.handAxis_eq]
  split
  · next x _ =>
    exact State.Grows.trans (t := s.onAxis (globalAxis z i) fun _ => x) (.of_slot rfl) (State.judgeAxis_grows _ k _)
  · exact .of_slot rfl

/-- An owned axis that enters OFFLINE marks its owner slot. -/
theorem State.judgeAxis_marks {p : PlayRec} (enters : (s.modeOf a).isOffline = true)
    (was : (s.mgt.axes[a]).mode.isOffline = false) (owner : s.axisOwner a = some k) (hp : s.play k = some p) :
    ∃ q, (s.judgeAxis a).play k = some q ∧ q.marks.getLsbD 3 = true := by
  have owned : (s.onAxis a (Axis.enter (s.modeOf a))).axisOwner a = some k := owner
  have entered : ((s.modeOf a).isOffline && !(s.mgt.axes[a]).mode.isOffline) = true := by rw [enters, was]; rfl
  unfold State.judgeAxis
  simp only [owned, entered, if_true]
  obtain ⟨q, hq, -, marked⟩ := State.mark_marked .axisOffline (s := s.onAxis a (Axis.enter (s.modeOf a))) hp
  exact ⟨q, hq, marked⟩

/-- The mode of an absent axis (R112). -/
theorem State.modeFor_absent (a : AxisId) {x : Axis} (absent : x.present = false) (s : State) : s.modeFor a x =
    if (s.mu.tables.env[a]).enable = false then .disabledNoEnvelope
    else if s.mgt.powerFault.getLsbD (axisZone a) = true then .offlinePower else .offlineCensus := by
  rw [State.modeFor, judgedMode, absent]
  cases (s.mu.tables.env[a]).enable <;> rfl

/-- An axis of the zone that is no longer covered marks its owner when it enters OFFLINE. -/
theorem State.handAxes_marks {i : Fin 8} {p : PlayRec} (was : old.isPresent .motion i = true)
    (gone : new.isPresent .motion i = false) (enable : (s.mu.tables.env[globalAxis z i]).enable = true)
    (online : (s.mgt.axes[globalAxis z i]).mode.isOffline = false) (owner : s.axisOwner (globalAxis z i) = some k)
    (hp : s.play k = some p) :
    ∃ q, (s.handAxes z old new ann).play k = some q ∧ q.marks.getLsbD 3 = true := by
  unfold State.handAxes
  refine foldl_through (f := fun (t : State) i => t.handAxis z old new ann i)
    (P := fun t => SameInputs s t ∧ t.mgt.axes[globalAxis z i] = s.mgt.axes[globalAxis z i] ∧ State.Grows k s t)
    (Q := fun t => ∃ q, t.play k = some q ∧ q.marks.getLsbD 3 = true)
    (j := i) ?_ ?_ ?_ (List.nodup_finRange 8) (List.mem_finRange _)
    ⟨⟨rfl, rfl, rfl, rfl, rfl⟩, rfl, .of_slot rfl⟩
  · rintro j t ne ⟨inputs, axis, grows⟩
    refine ⟨inputs.trans (State.handAxis_inputs j t), ?_, grows.trans (State.handAxis_grows j k t)⟩
    rw [State.handAxis_axes, if_neg fun e => ne (globalAxis_inj e).symm, axis]
  · rintro t ⟨inputs, axis, grows⟩
    obtain ⟨q, hq, -⟩ := grows p hp
    have handed : axisHanded (old.isPresent .motion i) (new.isPresent .motion i) (announcedPos ann i)
        t.mgt.axes[globalAxis z i] = some { t.mgt.axes[globalAxis z i] with present := false } := by rw [was, gone]; rfl
    have run := State.handAxis_eq (z := z) (old := old) (new := new) (ann := ann) i t
    rw [handed] at run
    dsimp only at run
    rw [run]
    have mode : ((t.onAxis (globalAxis z i) fun _ => { t.mgt.axes[globalAxis z i] with present := false }).modeOf
        (globalAxis z i)).isOffline = true := by
      rw [(⟨rfl, rfl, rfl, rfl, rfl⟩ : SameInputs t (t.onAxis (globalAxis z i) _)).modeFor, State.onAxis_axes,
        if_pos rfl, State.modeFor_absent _ rfl, inputs.env, enable]
      split
      · contradiction
      · split <;> rfl
    refine State.judgeAxis_marks mode ?_ ?_ hq
    · rw [State.onAxis_axes, if_pos rfl, axis, online]
    · rw [State.axisOwner, ← owner, State.axisOwner]
      exact congrArg (fun v => v[axisRes (globalAxis z i)]) inputs.owners
  · rintro j t - ⟨q, hq, marked⟩
    obtain ⟨r, hr, -, grown⟩ := State.handAxis_grows j k t q hq
    exact ⟨r, hr, grown 3 marked⟩

/-! ### The hand-over as a whole (R142) -/

/-- The state in which the axes are handed their presence: the channels and the outputs have theirs. -/
theorem State.lightSoundHanded (s : State) : ((s.handChannels z old new).handOutputs z old new).lco =
      (s.handChannels z old new).lco ∧
    { (s.handChannels z old new).handOutputs z old new with lco := s.lco, nmx := s.nmx } = s := by
  have outputs := State.handOutputs_rest (z := z) (old := old) (new := new) (s.handChannels z old new)
  have channels := State.handChannels_rest (z := z) (old := old) (new := new) s
  generalize s.handChannels z old new = t at *
  generalize t.handOutputs z old new = u at *
  refine ⟨(congrArg State.lco outputs :), ?_⟩
  rw [← channels, ← outputs]

theorem State.handPresence_lco (s : State) :
    (s.handPresence z old new ann).lco = (s.handChannels z old new).lco := by
  rw [State.handPresence_eq, ← (State.lightSoundHanded s).1]
  exact (congrArg State.lco (State.handAxes_rest (ann := ann) ((s.handChannels z old new).handOutputs z old new)) :)

theorem State.handPresence_nmx (s : State) :
    (s.handPresence z old new ann).nmx = ((s.handChannels z old new).handOutputs z old new).nmx := by
  rw [State.handPresence_eq]
  exact (congrArg State.nmx (State.handAxes_rest (ann := ann) ((s.handChannels z old new).handOutputs z old new)) :)

theorem State.handPresence_outputs (i : Fin 2) (s : State) :
    (s.handPresence z old new ann).nmx.present.getLsbD (globalOutput z i) =
      handedPresence (old.isPresent .sound i) (new.isPresent .sound i) (s.nmx.present.getLsbD (globalOutput z i)) := by
  have kept : (s.handChannels z old new).nmx = s.nmx :=
    (congrArg State.nmx (State.handChannels_rest (z := z) (old := old) (new := new) s) :)
  rw [State.handPresence_nmx, State.handOutputs_present, kept]

theorem State.handPresence_axes (i : Fin 8) (s : State) :
    (s.handPresence z old new ann).mgt.axes[globalAxis z i] =
      s.handedAxis (globalAxis z i) (old.isPresent .motion i) (new.isPresent .motion i) (announcedPos ann i) := by
  have rest := (State.lightSoundHanded (z := z) (old := old) (new := new) s).2
  rw [State.handPresence_eq, State.handAxes_axes]
  generalize (s.handChannels z old new).handOutputs z old new = u at rest
  rw [← rest]
  rfl

theorem State.handPresence_axes_other (h : axisZone a ≠ z) (s : State) :
    (s.handPresence z old new ann).mgt.axes[a] = s.mgt.axes[a] := by
  have rest := (State.lightSoundHanded (z := z) (old := old) (new := new) s).2
  rw [State.handPresence_eq, State.handAxes_other h]
  generalize (s.handChannels z old new).handOutputs z old new = u at rest
  rw [← rest]

theorem State.handPresence_power (s : State) : (s.handPresence z old new ann).mgt.powerFault = s.mgt.powerFault := by
  have rest := (State.lightSoundHanded (z := z) (old := old) (new := new) s).2
  rw [State.handPresence_eq, (State.handAxes_inputs _).power]
  generalize (s.handChannels z old new).handOutputs z old new = u at rest
  rw [← rest]

theorem AxisMode.online {m : AxisMode} (census : m ≠ .offlineCensus) (power : m ≠ .offlinePower) :
    m.isOffline = false := by
  cases m with
  | offlineCensus => exact absurd rfl census
  | offlinePower => exact absurd rfl power
  | _ => rfl

/-- An axis of the zone that is no longer covered is lost as R114 says, in any later state with its record and its
owner's marks. -/
theorem State.handPresence_lost {i : Fin 8} (was : old.isPresent .motion i = true)
    (gone : new.isPresent .motion i = false) (mgt : t.mgt = (s.handPresence z old new ann).mgt)
    (seq : t.seq = (s.handPresence z old new ann).seq) : AxisLost s t (globalAxis z i) := by
  have axis : t.mgt.axes[globalAxis z i] =
      s.entered (globalAxis z i) { s.mgt.axes[globalAxis z i] with present := false } := by
    rw [mgt, State.handPresence_axes, State.handedAxis, was, gone]
    rfl
  have power : t.mgt.powerFault = s.mgt.powerFault := by rw [mgt, State.handPresence_power]
  have off : (s.modeFor (globalAxis z i) { s.mgt.axes[globalAxis z i] with present := false }).isSending = false := by
    rw [State.modeFor_absent _ rfl]
    (repeat' split) <;> rfl
  rw [State.entered, Axis.enter_eq, off, State.modeFor_absent _ rfl, ← power] at axis
  unfold AxisLost
  dsimp only
  rw [axis]
  refine ⟨rfl, rfl, rfl, rfl, rfl, fun enable census fault k p owner hp => ?_⟩
  have online : (s.mgt.axes[globalAxis z i]).mode.isOffline = false := AxisMode.online census fault
  have rest := (State.lightSoundHanded (z := z) (old := old) (new := new) s).2
  rw [State.handPresence_eq] at seq
  generalize (s.handChannels z old new).handOutputs z old new = u at rest seq
  have same : u.play k = some p := by rw [← hp, ← rest]; rfl
  obtain ⟨q, hq, marked⟩ := State.handAxes_marks (s := u) (ann := ann) was gone
    (by rw [← enable, ← rest]) (by rw [← online, ← rest]) (by rw [← owner, ← rest]; rfl) same
  exact ⟨q, (State.play_of_slot (by rw [seq])).trans hq, marked⟩

/-- A hand-over of an unchanged presence changes neither light nor sound. -/
theorem State.handPresence_same (light : ∀ i : Fin 192, old.isPresent .light i = new.isPresent .light i)
    (sound : ∀ i : Fin 2, old.isPresent .sound i = new.isPresent .sound i) :
    (s.handPresence z old new ann).lco = s.lco ∧ (s.handPresence z old new ann).nmx = s.nmx := by
  rw [State.handPresence_lco, State.handPresence_nmx, State.handChannels_same light, State.handOutputs_same sound]
  exact ⟨rfl, rfl⟩

end Sys2Proof.Machine
end

section
/-! SUPPORT. A census event as a whole, and the judgement of an announcement (R133, R135, R137, R138, R142 to R144). -/

namespace Sys2Proof.Machine

variable {s t : State} {z : ZoneId} {old new p : Port} {ann : Option Announce} {a : Announce} {q : PosId}
  {census : Vector (Option CensusRec) 12} {changed : Bool}

/-! ### The level notices and the change flag (R143, R144) -/

/-- The SLI after news that ask for a STATUS, or none. -/
def Sli.told (news : Bool) (x : Sli) : Sli := if news then x.askStatus else x

theorem Sli.told_told (b c : Bool) (x : Sli) : (x.told b).told c = x.told (b || c) := by
  cases b <;> cases c
  case true.true => exact Sli.askStatus_idem x
  all_goals rfl

theorem State.levelNotices_sli (s : State) : (s.levelNotices old new).sli =
    s.sli.told (new.unlisted && !old.unlisted || new.conflict && !old.conflict) := by
  rw [← Sli.told_told, State.levelNotices]
  cases (new.unlisted && !old.unlisted) <;> cases (new.conflict && !old.conflict) <;> rfl

theorem State.levelNotices_ports (s : State) : (s.levelNotices old new).ports = s.ports := by simp

theorem State.onPort_id (z : ZoneId) (s : State) : s.onPort z (fun p => p) = s := by simp [State.onPort]

/-- A port after a census change: its change flag is set where the zone is ARMED. -/
def Port.changeFlagged (p : Port) : Port := { p with changeFlag := p.changeFlag || p.armed }

theorem Port.changeFlagged_set (h : (p.armed && !p.changeFlag) = true) :
    p.changeFlagged = { p with changeFlag := true } := by
  rw [Port.changeFlagged, (Bool.and_eq_true_iff.mp h).1, Bool.or_true]

theorem Port.changeFlagged_kept (h : (p.armed && !p.changeFlag) = false) : p.changeFlagged = p := by
  have flag : (p.changeFlag || p.armed) = p.changeFlag := by
    revert h
    cases p.armed <;> cases p.changeFlag <;> decide
  rw [Port.changeFlagged, flag]

theorem State.censusChanged_eq (s : State) : s.censusChanged z = { s.onPort z Port.changeFlagged with
    sli := s.sli.told (s.ports[z].armed && !s.ports[z].changeFlag) } := by
  rw [State.censusChanged]
  cases news : s.ports[z].armed && !s.ports[z].changeFlag with
  | true =>
    rw [if_pos rfl, State.onPort_congr (g := fun p => { p with changeFlag := true }) (Port.changeFlagged_set news)]
    rfl
  | false =>
    rw [if_neg Bool.false_ne_true, State.onPort_congr (g := fun p => p) (Port.changeFlagged_kept news), State.onPort_id]
    rfl

/-! ### A census event -/

/-- The port of a zone under new records. -/
def Port.withCensus (p : Port) (census : Vector (Option CensusRec) 12) : Port := { p with census }

/-- The state of a census event in which the presence has been handed on. -/
def State.presenceHanded (z : ZoneId) (census : Vector (Option CensusRec) 12) (ann : Option Announce) (s : State) :
    State :=
  (s.onPort z fun p => p.withCensus census).handPresence z s.ports[z] (s.ports[z].withCensus census) ann

theorem State.censusEvent_eq (s : State) : s.censusEvent z census ann changed =
    if changed then
      ((s.presenceHanded z census ann).levelNotices s.ports[z] (s.ports[z].withCensus census)).censusChanged z
    else (s.presenceHanded z census ann).levelNotices s.ports[z] (s.ports[z].withCensus census) := rfl

theorem State.presenceHanded_frame (s : State) : (s.presenceHanded z census ann).sli = s.sli ∧
    (s.presenceHanded z census ann).ports = s.ports.set z (s.ports[z].withCensus census) := by
  rw [State.presenceHanded]
  simp

/-- What the notices and the change flag leave of a hand-over. -/
theorem State.censusEvent_blocks (s : State) :
    (s.censusEvent z census ann changed).lco = (s.presenceHanded z census ann).lco ∧
    (s.censusEvent z census ann changed).nmx = (s.presenceHanded z census ann).nmx ∧
    (s.censusEvent z census ann changed).mgt = (s.presenceHanded z census ann).mgt ∧
    (s.censusEvent z census ann changed).seq = (s.presenceHanded z census ann).seq := by
  rw [State.censusEvent_eq]
  cases changed <;> simp

theorem State.censusEvent_port (s : State) : (s.censusEvent z census ann changed).ports[z] = { s.ports[z] with
    census, changeFlag := s.ports[z].changeFlag || (changed && s.ports[z].armed) } := by
  have ports := (State.presenceHanded_frame (z := z) (census := census) (ann := ann) s).2
  have same : (s.presenceHanded z census ann).ports[z] = s.ports[z].withCensus census := by
    rw [ports, getElem_set_at, if_pos rfl]
  rw [State.censusEvent_eq]
  cases changed with
  | true =>
    rw [if_pos rfl, State.censusChanged_eq]
    dsimp only
    rw [State.onPort_same, State.levelNotices_ports, same]
    rfl
  | false => rw [if_neg Bool.false_ne_true, State.levelNotices_ports, same, Bool.false_and, Bool.or_false]; rfl

theorem State.censusEvent_port_other {y : ZoneId} (h : y ≠ z) (s : State) :
    (s.censusEvent z census ann changed).ports[y] = s.ports[y] := by
  have ports := (State.presenceHanded_frame (z := z) (census := census) (ann := ann) s).2
  rw [State.censusEvent_eq]
  cases changed with
  | true =>
    rw [if_pos rfl, State.censusChanged_eq]
    dsimp only
    rw [State.onPort_other h, State.levelNotices_ports, ports, getElem_set_at, if_neg h]
  | false => rw [if_neg Bool.false_ne_true, State.levelNotices_ports, ports, getElem_set_at, if_neg h]

theorem State.censusEvent_sli (s : State) : (s.censusEvent z census ann changed).sli = s.sli.told
    ((s.ports[z].withCensus census).unlisted && !s.ports[z].unlisted ||
      (s.ports[z].withCensus census).conflict && !s.ports[z].conflict ||
      changed && (s.ports[z].armed && !s.ports[z].changeFlag)) := by
  obtain ⟨sli, ports⟩ := State.presenceHanded_frame (z := z) (census := census) (ann := ann) s
  have same : (s.presenceHanded z census ann).ports[z] = s.ports[z].withCensus census := by
    rw [ports, getElem_set_at, if_pos rfl]
  rw [State.censusEvent_eq]
  cases changed with
  | true =>
    rw [if_pos rfl, State.censusChanged_eq]
    dsimp only
    rw [State.levelNotices_sli, State.levelNotices_ports, same, sli, Sli.told_told]
    rfl
  | false => rw [if_neg Bool.false_ne_true, State.levelNotices_sli, sli, Bool.false_and, Bool.or_false]

/-! ### The notices of a zone -/

theorem toList_any_iff {α : Type} {n : Nat} (v : Vector α n) (test : α → Bool) :
    v.toList.any test = true ↔ ∃ i : Fin n, test v[i] = true := by
  rw [Vector.any_toList, Vector.any_eq_true]
  exact ⟨fun ⟨i, hi, meets⟩ => ⟨⟨i, hi⟩, meets⟩, fun ⟨i, meets⟩ => ⟨i.val, i.isLt, meets⟩⟩

theorem toList_all_iff {α : Type} {n : Nat} (v : Vector α n) (test : α → Bool) :
    v.toList.all test = true ↔ ∀ i : Fin n, test v[i] = true := by
  rw [Vector.all_toList, Vector.all_eq_true]
  exact ⟨fun h i => h i.val i.isLt, fun h i hi => h ⟨i, hi⟩⟩

theorem isRefused_iff {r : Option CensusRec} : isRefused r = true ↔
    ∃ x, r = some x ∧ (x.state = .refusedMalformed ∨ x.state = .refusedUnlisted) := by
  cases r <;> simp [isRefused]

theorem isConflict_iff {r : Option CensusRec} : isConflict r = true ↔
    ∃ x, r = some x ∧ (x.state = .conflictCapacity ∨ ∃ i, x.state = .conflictOverlap i) := by
  cases r with
  | none => simp [isConflict]
  | some x =>
    simp only [Option.some.injEq, exists_eq_left', isConflict]
    cases x.state <;> simp

theorem unlistedSet_iff : unlistedSet p ↔ p.unlisted = true := by
  rw [Port.unlisted, toList_any_iff]
  simp only [isRefused_iff]
  rfl

theorem conflictSet_iff : conflictSet p ↔ p.conflict = true := by
  rw [Port.conflict, toList_any_iff]
  simp only [isConflict_iff]
  rfl

/-- The STATUS of a census event (R143, R144). -/
theorem State.censusEvent_statusTold (s : State) : StatusTold s (s.censusEvent z census ann changed) z := by
  have news : ((unlistedSet (s.censusEvent z census ann changed).ports[z] ∧ ¬unlistedSet s.ports[z]) ∨
      (conflictSet (s.censusEvent z census ann changed).ports[z] ∧ ¬conflictSet s.ports[z]) ∨
      ((s.censusEvent z census ann changed).ports[z].changeFlag = true ∧ s.ports[z].changeFlag = false)) ↔
      ((s.ports[z].withCensus census).unlisted && !s.ports[z].unlisted ||
      (s.ports[z].withCensus census).conflict && !s.ports[z].conflict ||
      changed && (s.ports[z].armed && !s.ports[z].changeFlag)) = true := by
    rw [State.censusEvent_port]
    generalize s.ports[z] = p
    have unlisted (b : Bool) : unlistedSet { p with census, changeFlag := b } ↔ (p.withCensus census).unlisted = true :=
      unlistedSet_iff
    have conflict (b : Bool) : conflictSet { p with census, changeFlag := b } ↔ (p.withCensus census).conflict = true :=
      conflictSet_iff
    rw [unlisted, conflict, unlistedSet_iff, conflictSet_iff]
    cases p.changeFlag <;> simp [or_assoc]
  unfold StatusTold
  dsimp only
  rw [news, State.censusEvent_sli]
  exact ⟨fun h => by rw [h]; rfl, fun h => by rw [Bool.eq_false_of_not_eq_true h]; rfl⟩

/-! ### The judgement of an announcement (R133, R135, R138) -/

theorem readClass_some {n : Nat} {c : FixClass} (h : readClass n = some c) : n = classByte c := by
  unfold readClass at h
  split at h <;> cases h <;> rfl

theorem readClass_none {n : Nat} (h : readClass n = none) : n ≠ 0 ∧ n ≠ 1 ∧ n ≠ 2 := by
  unfold readClass at h
  split at h
  case h_4 light motion sound => exact ⟨light, motion, sound⟩
  all_goals cases h

theorem announceFormed_iff : announceFormed a ↔ a.wellFormed = true := by
  unfold announceFormed Announce.wellFormed Announce.fixClass
  cases h : readClass a.cls with
  | none =>
    obtain ⟨light, motion, sound⟩ := readClass_none h
    simp [light, motion, sound]
  | some c =>
    have cls := readClass_some h
    rw [cls]
    simp only [Bool.and_eq_true, decide_eq_true_eq]
    cases c <;> simp [classByte, classCount, Config.motionHold, and_assoc]

theorem Announce.fixClass_of_wellFormed (h : a.wellFormed = true) : ∃ c, a.fixClass = some c := by
  unfold Announce.wellFormed at h
  cases named : a.fixClass with
  | none => rw [named] at h; contradiction
  | some c => exact ⟨c, rfl⟩

theorem announceFits_iff {c : FixClass} (h : a.fixClass = some c) :
    announceFits a ↔ a.start + a.count ≤ classCapacity c := by
  rw [announceFits, readClass_some h]
  cases c <;> simp [classByte, classCapacity]

theorem entryMatches_iff {r : AdmtRec} : entryMatches r a = true ↔
    (r.matchSet.getLsbD 0 = true → r.maker = a.maker) ∧ (r.matchSet.getLsbD 1 = true → r.model = a.model) ∧
    (r.matchSet.getLsbD 2 = true → r.revision = a.revision) ∧
    (r.matchSet.getLsbD 3 = true → classByte r.cls = a.cls) := by
  simp only [entryMatches, Bool.and_eq_true, Bool.or_eq_true, Bool.not_eq_true', beq_iff_eq, and_assoc,
    ← Bool.not_eq_true, imp_iff_not_or]

theorem announceListed_iff {admt : Vector (Option AdmtRec) 40} : announceListed admt a ↔ isListed admt a = true := by
  rw [isListed, Bool.or_eq_true, toList_all_iff, toList_any_iff, announceListed]
  refine or_congr (by simp only [Option.isNone_iff_eq_none]) (exists_congr fun i => ?_)
  cases admt[i] <;> simp [entryMatches_iff]

theorem overlaps_iff {r : Option CensusRec} : overlaps a r = true ↔ ∃ x, r = some x ∧ x.state = .admitted ∧
    x.ann.cls = a.cls ∧ a.start < x.ann.start + x.ann.count ∧ x.ann.start < a.start + a.count := by
  cases r <;> simp [overlaps, and_assoc]

theorem announceMeets_iff {i : PosId} : announceMeets census q a i ↔ (i != q && overlaps a census[i]) = true := by
  rw [announceMeets, Bool.and_eq_true, bne_iff_ne, overlaps_iff]

theorem overlapAt_some {i : PosId} (meets : announceMeets census q a i)
    (lowest : ∀ j : PosId, j < i → ¬announceMeets census q a j) : overlapAt census q a = some i :=
  find?_finRange_lowest (announceMeets_iff.mp meets) fun j hj =>
    Bool.eq_false_of_not_eq_true (mt announceMeets_iff.mpr (lowest j hj))

theorem overlapAt_none (h : ∀ i : PosId, ¬announceMeets census q a i) : overlapAt census q a = none := by
  rw [overlapAt, List.find?_eq_none]
  exact fun i _ => mt announceMeets_iff.mpr (h i)

theorem keeps_iff {r : Option CensusRec} : keeps r a = true ↔ ∃ x, r = some x ∧ x.state = .admitted ∧
    x.ann.serial = a.serial ∧ x.ann.cls = a.cls ∧ x.ann.start = a.start ∧ x.ann.count = a.count ∧ announceFormed a := by
  cases r <;> simp [keeps, announceFormed_iff, and_assoc]

/-- The judgement of an announcement, by the first of the causes of R138 that applies. -/
theorem judgeAnnounce_cases {admt : Vector (Option AdmtRec) 40} :
    (¬announceFormed a → judgeAnnounce admt census q a = .refusedMalformed) ∧
    (announceFormed a → ¬announceListed admt a → judgeAnnounce admt census q a = .refusedUnlisted) ∧
    (announceFormed a → announceListed admt a → ¬announceFits a →
      judgeAnnounce admt census q a = .conflictCapacity) ∧
    (announceFormed a → announceListed admt a → announceFits a →
      (∀ i, overlapAt census q a = some i → judgeAnnounce admt census q a = .conflictOverlap i) ∧
      (overlapAt census q a = none → judgeAnnounce admt census q a = .admitted)) := by
  simp only [announceFormed_iff, announceListed_iff]
  refine ⟨fun malformed => ?_, fun formed unlisted => ?_, fun formed listed large => ?_, fun formed listed fits => ?_⟩
  · unfold judgeAnnounce
    split
    · rfl
    · simp [malformed]
  all_goals obtain ⟨c, hc⟩ := Announce.fixClass_of_wellFormed formed
  · simp [judgeAnnounce, hc, formed, unlisted]
  · rw [announceFits_iff hc, Nat.not_le] at large
    simp [judgeAnnounce, hc, formed, listed, large]
  · rw [announceFits_iff hc] at fits
    constructor
    · intro i overlap
      simp [judgeAnnounce, hc, formed, listed, Nat.not_lt.mpr fits, overlap]
    · intro apart
      simp [judgeAnnounce, hc, formed, listed, Nat.not_lt.mpr fits, apart]

end Sys2Proof.Machine
end

section
/-! PROOF. An announcement is filed at its position (R86, R105, R114, R131, R133, R135 to R138, R142 to R144). -/

namespace Sys2Proof.Machine

variable {s t : State} {z : ZoneId} {old new p : Port} {a : Announce} {q : PosId} {r : CensusRec} {i : Fin 8}

/-! ### Presence and the records (R136, R142) -/

theorem recCovers_iff {c : FixClass} {r : Option CensusRec} {n : Nat} : recCovers c r n = true ↔
    ∃ x, r = some x ∧ x.state = .admitted ∧ x.ann.cls = classByte c ∧ x.ann.spans n = true := by
  cases r <;> simp [recCovers, and_assoc]

theorem Port.isPresent_iff {c : FixClass} {n : Nat} :
    p.isPresent c n = true ↔ ∃ q : PosId, recCovers c p.census[q] n = true := by
  simp [Port.isPresent]

theorem Port.isPresent_congr {c : FixClass} {n : Nat}
    (h : ∀ q : PosId, recCovers c new.census[q] n = recCovers c old.census[q] n) :
    new.isPresent c n = old.isPresent c n := by
  simp only [Port.isPresent, h]

/-! ### The record filed (R137, R138) -/

/-- The record that an announcement leaves at its position. -/
def State.filed (s : State) (z : ZoneId) (q : PosId) (a : Announce) : CensusRec :=
  filedRec s.mu.tables.admt s.ports[z].census q a

theorem State.filed_new (h : keeps s.ports[z].census[q] a = false) : s.filed z q a =
    { ann := a, state := judgeAnnounce s.mu.tables.admt s.ports[z].census q a, miss := 0 } := by
  rw [State.filed, filedRec]
  split
  · next r hr =>
    rw [hr] at h
    rw [h]
    rfl
  · rfl

theorem State.filed_kept (hr : s.ports[z].census[q] = some r) (h : keeps (some r) a = true) :
    s.filed z q a = { r with ann := keptAnnounce r.ann a, miss := 0 } := by
  rw [State.filed, filedRec, hr]
  exact if_pos h

/-- The announcement that drives the axes: the one filed, where its record is ADMITTED. -/
def State.driving (s : State) (z : ZoneId) (q : PosId) (a : Announce) : Option Announce :=
  if (s.filed z q a).state = .admitted then some a else none

/-- A window after an announcement of a position. -/
def Window.noted (q : PosId) (w : Window) : Window :=
  if w.call = some q then { w with received := w.received ||| single q } else w

theorem Port.noteAnswer_eq (q : PosId) (p : Port) :
    p.noteAnswer q = { p with window := p.window.map (Window.noted q) } := by
  obtain ⟨census, light, lightFresh, motion, motionFresh, awaiting, waiting, audio, frameNo, lastSent, window⟩ := p
  cases window with
  | none => rfl
  | some w =>
    simp only [Port.noteAnswer, Option.map_some, Window.noted]
    split <;> rfl

theorem State.announce_eq (s : State) : s.announce z q a = (s.onPort z (Port.noteAnswer q)).censusEvent z
    (s.ports[z].census.set q (some (s.filed z q a))) (s.driving z q a) (!keeps s.ports[z].census[q] a) := by
  have noted : (s.onPort z (Port.noteAnswer q)).ports[z].census = s.ports[z].census := by
    rw [State.onPort_same, Port.noteAnswer_eq]
  unfold State.announce
  dsimp only
  rw [noted]
  rfl

/-- The port after an announcement. -/
theorem State.announce_port (s : State) : (s.announce z q a).ports[z] = { s.ports[z] with
    window := s.ports[z].window.map (Window.noted q)
    census := s.ports[z].census.set q (some (s.filed z q a))
    changeFlag := s.ports[z].changeFlag || (!keeps s.ports[z].census[q] a && s.ports[z].armed) } := by
  rw [State.announce_eq, State.censusEvent_port, State.onPort_same, Port.noteAnswer_eq]

theorem State.announce_census (p : PosId) (s : State) : (s.announce z q a).ports[z].census[p] =
    if p = q then some (s.filed z q a) else s.ports[z].census[p] := by
  rw [State.announce_port]
  exact getElem_set_at ..

theorem State.announce_ports_other {y : ZoneId} (h : y ≠ z) (s : State) :
    (s.announce z q a).ports[y] = s.ports[y] := by
  rw [State.announce_eq, State.censusEvent_port_other h, State.onPort_other h]

/-- What an announcement hands on: the presence of the zone before it and after it. -/
theorem State.announce_handed (s : State) : ∃ (u : State) (old new : Port), { u with ports := s.ports } = s ∧
    (∀ c n, old.isPresent c n = s.ports[z].isPresent c n) ∧
    (∀ c n, new.isPresent c n = (s.announce z q a).ports[z].isPresent c n) ∧
    (s.announce z q a).lco = (u.handPresence z old new (s.driving z q a)).lco ∧
    (s.announce z q a).nmx = (u.handPresence z old new (s.driving z q a)).nmx ∧
    (s.announce z q a).mgt = (u.handPresence z old new (s.driving z q a)).mgt ∧
    (s.announce z q a).seq = (u.handPresence z old new (s.driving z q a)).seq := by
  refine ⟨(s.onPort z (Port.noteAnswer q)).onPort z fun p =>
      p.withCensus (s.ports[z].census.set q (some (s.filed z q a))),
    (s.onPort z (Port.noteAnswer q)).ports[z],
    (s.onPort z (Port.noteAnswer q)).ports[z].withCensus (s.ports[z].census.set q (some (s.filed z q a))),
    rfl, fun c n => ?_, fun c n => ?_, ?_⟩
  · rw [State.onPort_same, Port.noteAnswer_eq]
    rfl
  · rw [State.announce_port]
    rfl
  · rw [State.announce_eq]
    exact State.censusEvent_blocks _

/-! ### Light and sound (R86, R105) -/

theorem State.announce_light (i : Fin 192) (s : State) :
    ((s.announce z q a).lco.channels[globalChannel z i]).present = handedPresence (s.ports[z].isPresent .light i)
      ((s.announce z q a).ports[z].isPresent .light i) (s.lco.channels[globalChannel z i]).present := by
  obtain ⟨u, old, new, same, was, now, lco, -⟩ := State.announce_handed (z := z) (q := q) (a := a) s
  have kept : u.lco = s.lco := (congrArg State.lco same :)
  rw [lco, State.handPresence_lco, State.handChannels_present, was, now, kept]

theorem State.announce_channels (c : ChannelId) (s : State) :
    (s.announce z q a).lco.channels[c] = { s.lco.channels[c] with
      present := ((s.announce z q a).lco.channels[c]).present } ∧
    (channelZone c ≠ z → (s.announce z q a).lco.channels[c] = s.lco.channels[c]) := by
  obtain ⟨u, old, new, same, was, now, lco, -⟩ := State.announce_handed (z := z) (q := q) (a := a) s
  have kept : u.lco = s.lco := (congrArg State.lco same :)
  rw [lco, State.handPresence_lco, ← kept]
  exact ⟨State.handChannels_channels c u, fun other => State.handChannels_other other u⟩

theorem State.announce_sound (i : Fin 2) (s : State) :
    (s.announce z q a).nmx.present.getLsbD (globalOutput z i) = handedPresence (s.ports[z].isPresent .sound i)
      ((s.announce z q a).ports[z].isPresent .sound i) (s.nmx.present.getLsbD (globalOutput z i)) := by
  obtain ⟨u, old, new, same, was, now, -, nmx, -⟩ := State.announce_handed (z := z) (q := q) (a := a) s
  have kept : u.nmx = s.nmx := (congrArg State.nmx same :)
  rw [nmx, State.handPresence_outputs, was, now, kept]

/-- Where no presence changes, neither light nor sound does. -/
theorem State.announce_same (h : ∀ c n, (s.announce z q a).ports[z].isPresent c n = s.ports[z].isPresent c n) :
    (s.announce z q a).lco = s.lco ∧ (s.announce z q a).nmx = s.nmx := by
  obtain ⟨u, old, new, same, was, now, lco, nmx, -⟩ := State.announce_handed (z := z) (q := q) (a := a) s
  obtain ⟨light, sound⟩ := State.handPresence_same (s := u) (z := z) (old := old) (new := new)
    (ann := s.driving z q a) (fun i => by rw [was, now, h]) (fun i => by rw [was, now, h])
  exact ⟨(lco.trans light).trans (congrArg State.lco same :), (nmx.trans sound).trans (congrArg State.nmx same :)⟩

/-! ### The axes (R114) -/

theorem State.announce_axes (i : Fin 8) (s : State) : (s.announce z q a).mgt.axes[globalAxis z i] =
    s.handedAxis (globalAxis z i) (s.ports[z].isPresent .motion i) ((s.announce z q a).ports[z].isPresent .motion i)
      (announcedPos (s.driving z q a) i) := by
  obtain ⟨u, old, new, same, was, now, -, -, mgt, -⟩ := State.announce_handed (z := z) (q := q) (a := a) s
  have axis : u.mgt = s.mgt := (congrArg State.mgt same :)
  have inputs : SameInputs s u := ⟨(congrArg (fun x : State => x.mu.tables.env) same :),
    (congrArg (fun x : State => x.arb.owners) same :), (congrArg (fun x : State => x.sli.sources) same :),
    by rw [axis], by rw [axis]⟩
  rw [mgt, State.handPresence_axes, was, now, State.handedAxis_congr inputs (by rw [axis])]

theorem State.announce_axes_other {b : AxisId} (h : axisZone b ≠ z) (s : State) :
    (s.announce z q a).mgt.axes[b] = s.mgt.axes[b] := by
  obtain ⟨u, old, new, same, -, -, -, -, mgt, -⟩ := State.announce_handed (z := z) (q := q) (a := a) s
  rw [mgt, State.handPresence_axes_other h]
  exact (congrArg (fun x : State => x.mgt.axes[b]) same :)

theorem State.announce_lost (was : s.ports[z].isPresent .motion i = true)
    (gone : (s.announce z q a).ports[z].isPresent .motion i = false) :
    AxisLost s (s.announce z q a) (globalAxis z i) := by
  obtain ⟨u, old, new, same, before, after, -, -, mgt, seq⟩ := State.announce_handed (z := z) (q := q) (a := a) s
  have lost := State.handPresence_lost (t := s.announce z q a) (i := i) ((before _ _).trans was)
    ((after _ _).trans gone) mgt seq
  generalize s.announce z q a = t at lost
  rw [← same]
  exact lost

theorem exists_globalAxis (b : AxisId) : ∃ i, b = globalAxis (axisZone b) i :=
  ⟨⟨b.val % 8, by omega⟩, Fin.ext (by simp only [globalAxis, axisZone]; omega)⟩

/-- A hand-over without an announced position leaves every axis where it is. -/
theorem State.handedAxis_pos (b : AxisId) (was now : Bool) (s : State) :
    (s.handedAxis b was now none).pos = (s.mgt.axes[b]).pos := by
  cases was <;> cases now
  case true.false => simp [State.handedAxis, axisHanded, State.entered, Axis.enter_eq]
  case false.true => simp [State.handedAxis, axisHanded, State.entered, Axis.enter_eq]
  case false.false => rfl
  case true.true => simp [State.handedAxis, axisHanded]

/-- An axis newly covered is present at its announced position and at rest. -/
theorem State.handedAxis_new (b : AxisId) (x : Int) (s : State) :
    (s.handedAxis b false true (some x)).present = true ∧ (s.handedAxis b false true (some x)).pos = x ∧
    (s.handedAxis b false true (some x)).step = 0 := by
  have record : s.handedAxis b false true (some x) =
      s.entered b { s.mgt.axes[b] with present := true, pos := x, step := 0 } := rfl
  rw [record, State.entered, Axis.enter_eq]
  exact ⟨rfl, rfl, ite_self 0⟩

/-- An axis whose presence does not change is left alone, or takes an announced position where it does not move. -/
theorem State.handedAxis_stays (b : AxisId) (covered : Bool) (announced : Option Int) (s : State) :
    (announced = none → s.handedAxis b covered covered announced = s.mgt.axes[b]) ∧
    (s.handedAxis b covered covered announced).present = (s.mgt.axes[b]).present ∧
    ∀ x, covered = true → announced = some x → (s.handedAxis b covered covered announced).pos =
      if (s.mgt.axes[b]).mode.isSending then (s.mgt.axes[b]).pos else x := by
  cases covered with
  | false => exact ⟨fun _ => rfl, rfl, fun _ h => nomatch h⟩
  | true =>
    cases announced with
    | none =>
      have kept : s.handedAxis b true true none = s.mgt.axes[b] := by simp [State.handedAxis, axisHanded]
      exact ⟨fun _ => kept, by rw [kept], fun _ _ h => nomatch h⟩
    | some x =>
      cases sending : (s.mgt.axes[b]).mode.isSending with
      | true =>
        have kept : s.handedAxis b true true (some x) = s.mgt.axes[b] := by
          rw [State.handedAxis, axisHanded, if_pos sending]
        exact ⟨fun h => (nomatch h), by rw [kept], fun _ _ _ => by rw [kept]; rfl⟩
      | false =>
        have taken : s.handedAxis b true true (some x) = s.entered b { s.mgt.axes[b] with pos := x } := by
          rw [State.handedAxis, axisHanded, if_neg (by rw [sending]; decide), Option.map_some]
        rw [taken, State.entered, Axis.enter_eq]
        exact ⟨fun h => (nomatch h), rfl, fun _ _ h => Option.some.inj h⟩

/-! ### The flag and the notices (R143, R144) -/

theorem State.announce_flagTold (s : State) :
    FlagTold s (s.announce z q a) z (keeps s.ports[z].census[q] a = false) := by
  rw [FlagTold, State.announce_port]
  refine ⟨rfl, ?_⟩
  dsimp only
  rw [Bool.or_eq_true, Bool.and_eq_true, Bool.not_eq_true', and_comm]

theorem State.announce_statusTold (s : State) : StatusTold s (s.announce z q a) z := by
  have told := State.censusEvent_statusTold (z := z) (census := s.ports[z].census.set q (some (s.filed z q a)))
    (ann := s.driving z q a) (changed := !keeps s.ports[z].census[q] a) (s.onPort z (Port.noteAnswer q))
  rw [← State.announce_eq] at told
  generalize s.announce z q a = t at told
  unfold StatusTold at told ⊢
  rw [State.onPort_same, Port.noteAnswer_eq] at told
  exact told

/-! ### A new record -/

theorem State.announce_new (h : keeps s.ports[z].census[q] a = false) : (s.announce z q a).ports[z].census[q] =
    some { ann := a, state := judgeAnnounce s.mu.tables.admt s.ports[z].census q a, miss := 0 } := by
  rw [State.announce_census, if_pos rfl, State.filed_new h]

/-- What an ADMITTED announcement spans is present. -/
theorem State.announce_covers {c : FixClass} {n : Nat} (h : keeps s.ports[z].census[q] a = false)
    (admitted : judgeAnnounce s.mu.tables.admt s.ports[z].census q a = .admitted) (cls : a.cls = classByte c)
    (spans : a.spans n = true) : (s.announce z q a).ports[z].isPresent c n = true := by
  rw [Port.isPresent_iff]
  exact ⟨q, recCovers_iff.mpr ⟨_, State.announce_new h, admitted, cls, spans⟩⟩

/-! ### A kept record (R137) -/

theorem State.announce_keeps (hr : s.ports[z].census[q] = some r) (h : keeps (some r) a = true) :
    (s.announce z q a).ports[z].census[q] = some { r with ann := keptAnnounce r.ann a, miss := 0 } := by
  rw [State.announce_census, if_pos rfl, State.filed_kept hr h]

theorem State.announce_kept_presence (hr : s.ports[z].census[q] = some r) (h : keeps (some r) a = true) (c : FixClass)
    (n : Nat) : (s.announce z q a).ports[z].isPresent c n = s.ports[z].isPresent c n := by
  refine Port.isPresent_congr fun p => ?_
  by_cases e : p = q
  · rw [e, State.announce_keeps hr h, hr]
    rfl
  · rw [State.announce_census, if_neg e]

/-- A kept record changes no notice. -/
theorem State.announce_kept_sli (hr : s.ports[z].census[q] = some r) (h : keeps (some r) a = true) :
    (s.announce z q a).sli = s.sli := by
  obtain ⟨-, quiet⟩ := State.announce_statusTold (z := z) (q := q) (a := a) s
  have held := State.announce_keeps hr h
  obtain ⟨x, hx, admitted, -⟩ := keeps_iff.mp h
  cases hx
  have others (p : PosId) (ne : p ≠ q) := State.announce_census (z := z) (q := q) (a := a) p s |>.trans (if_neg ne)
  refine quiet ?_
  rintro (⟨⟨p, y, hy, refused⟩, no⟩ | ⟨⟨p, y, hy, conflict⟩, no⟩ | ⟨set, clear⟩)
  · by_cases e : p = q
    · rw [e, held] at hy
      cases hy
      simp [admitted] at refused
    · exact no ⟨p, y, (others p e).symm.trans hy, refused⟩
  · by_cases e : p = q
    · rw [e, held] at hy
      cases hy
      simp [admitted] at conflict
    · exact no ⟨p, y, (others p e).symm.trans hy, conflict⟩
  · rw [State.announce_port, hr, h, clear] at set
    exact Bool.false_ne_true set

/-- What a new record makes of the axes, light and sound of its zone. -/
theorem State.announce_new_handed (new : keeps s.ports[z].census[q] a = false) :
    let st := judgeAnnounce s.mu.tables.admt s.ports[z].census q a
    (st ≠ .admitted → ∀ b : AxisId, ((s.announce z q a).mgt.axes[b]).pos = (s.mgt.axes[b]).pos) ∧
    (st = .admitted → a.cls = 1 → ∀ (i : Fin 8) (x : Int), s.ports[z].isPresent .motion i = false →
      a.spans i = true → a.positions[i.val - a.start]? = some x →
      ((s.announce z q a).mgt.axes[globalAxis z i]).present = true ∧
      ((s.announce z q a).mgt.axes[globalAxis z i]).pos = x ∧
      ((s.announce z q a).mgt.axes[globalAxis z i]).step = 0) ∧
    (st = .admitted → a.cls = 0 → ∀ i : Fin 192, a.spans i = true → s.ports[z].isPresent .light i = false →
      ((s.announce z q a).lco.channels[globalChannel z i]).present = true) ∧
    (st = .admitted → a.cls = 2 → ∀ i : Fin 2, a.spans i = true → s.ports[z].isPresent .sound i = false →
      (s.announce z q a).nmx.present.getLsbD (globalOutput z i) = true) := by
  have state : (s.filed z q a).state = judgeAnnounce s.mu.tables.admt s.ports[z].census q a := by
    rw [State.filed_new new]
  refine ⟨fun refused b => ?_, fun admitted cls i x absent spans announced => ?_,
    fun admitted cls i spans absent => ?_, fun admitted cls i spans absent => ?_⟩
  · by_cases zone : axisZone b = z
    · obtain ⟨i, hi⟩ := exists_globalAxis b
      rw [zone] at hi
      rw [hi, State.announce_axes, State.driving, state, if_neg refused]
      exact State.handedAxis_pos ..
    · rw [State.announce_axes_other zone]
  · have pos : announcedPos (s.driving z q a) i = some x := by
      rw [State.driving, state, if_pos admitted, announcedPos, if_pos ⟨cls, spans⟩, announced]
    rw [State.announce_axes, absent, State.announce_covers (c := .motion) new admitted cls spans, pos]
    exact State.handedAxis_new ..
  · rw [State.announce_light, absent, State.announce_covers (c := .light) new admitted cls spans]
    rfl
  · rw [State.announce_sound, absent, State.announce_covers (c := .sound) new admitted cls spans]
    rfl

/-- What a kept record makes of the axes of its zone. -/
theorem State.announce_kept_axes (hr : s.ports[z].census[q] = some r) (h : keeps (some r) a = true) :
    (∀ (i : Fin 8) (x : Int), a.cls = 1 → a.spans i = true → a.positions[i.val - a.start]? = some x →
      ((s.announce z q a).mgt.axes[globalAxis z i]).pos = if (s.mgt.axes[globalAxis z i]).mode.isSending then
        (s.mgt.axes[globalAxis z i]).pos else x) ∧
    (∀ i : Fin 8, ¬(a.cls = 1 ∧ a.spans i = true) →
      (s.announce z q a).mgt.axes[globalAxis z i] = s.mgt.axes[globalAxis z i]) ∧
    ∀ b : AxisId, ((s.announce z q a).mgt.axes[b]).present = (s.mgt.axes[b]).present := by
  obtain ⟨x, hx, admitted, -, cls, start, count, -⟩ := keeps_iff.mp h
  cases hx
  have drives : s.driving z q a = some a := by rw [State.driving, State.filed_kept hr h, if_pos admitted]
  have axes (i : Fin 8) : (s.announce z q a).mgt.axes[globalAxis z i] = s.handedAxis (globalAxis z i)
      (s.ports[z].isPresent .motion i) (s.ports[z].isPresent .motion i) (announcedPos (some a) i) := by
    rw [State.announce_axes, State.announce_kept_presence hr h, drives]
  refine ⟨fun i x motion spans announced => ?_, fun i no => ?_, fun b => ?_⟩
  · have covered : s.ports[z].isPresent .motion i = true := by
      refine Port.isPresent_iff.mpr ⟨q, recCovers_iff.mpr ⟨r, hr, admitted, cls.trans motion, ?_⟩⟩
      rw [Announce.spans, start, count]
      exact spans
    rw [axes]
    refine (State.handedAxis_stays _ _ _ s).2.2 x covered ?_
    rw [announcedPos, if_pos ⟨motion, spans⟩, announced]
  · rw [axes]
    exact (State.handedAxis_stays _ _ _ s).1 (by rw [announcedPos]; exact if_neg no)
  · by_cases zone : axisZone b = z
    · obtain ⟨i, hi⟩ := exists_globalAxis b
      rw [zone] at hi
      rw [hi, axes]
      exact (State.handedAxis_stays _ _ _ s).2.1
    · rw [State.announce_axes_other zone]

/-- Settles O27: the announcement is read back, its record judged, and what the event hands on is told by block. -/
theorem announcementIsFiled : Obligations.AnnouncementIsFiled := by
  unfold Obligations.AnnouncementIsFiled
  intro z q a s serial maker model revision cls start count length positions census admt
  have run := exec_announcement (q := q) (a := a)
    ⟨serial, maker, model, revision, cls, start, count, length, positions⟩ z s
  obtain ⟨mu, sck, iou, arb, -⟩ := State.announce_frame s z q a
  have window : (s.announce z q a).ports[z].window = s.ports[z].window.map (Window.noted q) := by
    rw [State.announce_port]
  refine ⟨_, run, keeps_iff, window, by rw [State.announce_port], State.announce_flagTold s,
    State.announce_statusTold s, fun new => ?_, fun r hr kept => ?_, fun i => State.announce_light i s,
    fun i => State.announce_sound i s, fun c => State.announce_channels c s,
    fun b other => State.announce_axes_other other s, fun p other => ?_,
    fun y other => State.announce_ports_other other s, mu, arb, iou, sck, State.announce_flags ..⟩
  · obtain ⟨malformed, unlisted, large, judged⟩ := judgeAnnounce_cases (a := a) (q := q) (census := s.ports[z].census)
      (admt := s.mu.tables.admt)
    obtain ⟨stays, axes, light, sound⟩ := State.announce_new_handed new
    refine ⟨_, State.announce_new new, malformed, unlisted, large, fun p formed listed fits meets lowest => ?_,
      fun formed listed fits apart => ?_, stays, axes, light, sound, fun i was gone => State.announce_lost was gone⟩
    · exact (judged formed listed fits).1 p (overlapAt_some meets lowest)
    · exact (judged formed listed fits).2 (overlapAt_none apart)
  · obtain ⟨axes, others, presence⟩ := State.announce_kept_axes hr kept
    obtain ⟨lco, nmx⟩ := State.announce_same (State.announce_kept_presence hr kept)
    refine ⟨State.announce_keeps hr kept, ?_, State.announce_kept_sli hr kept, lco, nmx, fun i x => axes i x, others,
      presence⟩
    rw [State.announce_port, hr, kept]
    exact Bool.or_false _
  · rw [State.announce_census, if_neg other]

end Sys2Proof.Machine
end
